-- ==== Sys2Proof/Word.lean ====
section
/-! DEFINITION. The widths the manual uses (00_scope.md section 4) and the record of four like things, one
per meter link. -/

namespace Sys2Proof

/-- One byte of the store, of a frame or of a record. -/
abbrev Byte := BitVec 8

/-- One word of the 16-bit host bus (host addresses and host data, R171). -/
abbrev HostWord := BitVec 16

/-- A store address, 0x000000 to 0x1FFFFF (00_scope.md section 4), as the aperture translation gives it. -/
abbrev StoreAddr := BitVec 21

/-- An interval code (R191): bits 7 and 6 the base code, bits 5 to 0 the count. -/
abbrev IntervalCode := BitVec 8

/-- The number of a meter, of its channel MCm and of its station Mm. -/
abbrev Meter := Fin 4

/-- Four like things, one per meter. -/
structure Four (α : Type) where
  m0 : α
  m1 : α
  m2 : α
  m3 : α
  deriving DecidableEq, Repr

end Sys2Proof
end

