-- ==== Sys2Proof/Syntax.lean ====
section
/-! DEFINITION. The commands of the part: one constructor per row of spec/opcode_table.json, in the table's
order. A row that carries data from outside has it as operands; a request takes its arguments from the slot the
part read (R156, R194), so the request rows carry none, but for the FLT pin levels where a setup reads them (R43). -/

namespace Sys2Proof

/-- The six direct lines (R185). -/
inductive LineId where
  | index | placed | door | air | loadEye | clearEye
  deriving DecidableEq, Repr

/-- The commands. -/
inductive Instr where
  /-- R183. -/
  | powerOnReset
  /-- CONTROL write 0x005A, R184. -/
  | softReset
  /-- R184: the posted write buffer has drained after SOFT RESET. -/
  | softResetDrainEnd
  /-- CONTROL write 0x00C1, R181. -/
  | configure
  /-- R181: a held CONFIGURE is taken. -/
  | configureHeldTaken
  /-- R182: the configuration block has been read. -/
  | configureReadDone
  /-- R176, with the word written. -/
  | attnCauseWrite (value : HostWord)
  /-- R175, R172, with the word written. -/
  | attnEnableWrite (value : HostWord)
  /-- R171, R172: APERTURE 1 to 3 (number 0 to 2 here), with the word written. -/
  | apertureWrite (number : Fin 3) (value : HostWord)
  /-- R172: a write to a read-only register, or a CONTROL value other than a command. -/
  | registerWriteIgnored (address value : HostWord)
  /-- R173. -/
  | hostStoreWrite (address value : HostWord)
  /-- R174. -/
  | hostStoreRead (address : HostWord)
  /-- R178. -/
  | storeGrant
  /-- R165. -/
  | journalRecordWrite
  /-- R156. -/
  | requestSlotRead
  /-- R132, with the FLT pin levels of the channels (R43). -/
  | startLot (flt : Four Bool)
  /-- R133, with the FLT pin levels of the channels (R43). -/
  | contextReadDone (flt : Four Bool)
  /-- R134. -/
  | startLotSetupsDone
  /-- R137. -/
  | endLot
  /-- R138. -/
  | abortLot
  /-- R78. -/
  | stagePlan
  /-- R80. -/
  | planStagingEnd
  /-- R84. -/
  | switchPlan
  /-- R126. -/
  | binControlClose
  /-- R127. -/
  | binControlOpen
  /-- R128. -/
  | binControlCapacity
  /-- R144. -/
  | hold
  /-- R145. -/
  | resume
  /-- R147. -/
  | clearHalt
  /-- R46, with the FLT pin level of the channel restarted (R43). -/
  | meterRestart (flt : Bool)
  /-- R24. -/
  | setThinning
  /-- R149. -/
  | portWrite
  /-- R158. -/
  | unknown
  /-- R140. -/
  | lotClose
  /-- R141. -/
  | closeCompletionEnd
  /-- R186: the pin of a direct line takes a level (true is high). -/
  | directLineChange (line : LineId) (high : Bool)
  /-- R186. -/
  | debounceElapsed (line : LineId)
  /-- R188: one complete scan of the sensor chain, bit k the k-th bit read. -/
  | sensorScan (bits : BitVec 64)
  /-- R52. -/
  | acqRise (m : Meter)
  /-- R52. -/
  | acqFall (m : Meter)
  /-- R55. -/
  | rdyRise (m : Meter)
  /-- R57. -/
  | fltRise (m : Meter)
  /-- R51: the transfer of a frame to the meter ends. -/
  | meterFrameSent (m : Meter)
  /-- R50. -/
  | pendingTakeSent (m : Meter)
  /-- R40: a REPORT transfer ends, with the ten bytes clocked in (R195). -/
  | report (m : Meter) (frame : List Byte)
  /-- R16. -/
  | jamTimerExpiry
  /-- R27. -/
  | feedTimerExpiry
  /-- R31. -/
  | catchTimerExpiry
  /-- R29. -/
  | starvationTimerExpiry
  /-- R51. -/
  | takeTimerExpiry (m : Meter)
  /-- R117. -/
  | pulseTimerExpiry (gate : Fin 32)
  /-- R168. -/
  | ageTimerExpiry
  deriving DecidableEq, Repr

end Sys2Proof
end

