-- ==== Sys2Proof/Config.lean ====
section
/-! DEFINITION. The values an implementation fixes and the manual does not state, and the free values; each is named in
the assumption log and marked DESIGN CHOICE. -/

namespace Sys2Proof

/-- DESIGN CHOICE, unsafe (log 3): what a store byte reads as that nothing has written since power was applied. -/
def Config.storePowerOn : Byte := 0x00

/-- DESIGN CHOICE, unsafe (log 6): the takes-since-check count "at LIMIT" (R60) while no LIMIT is held; it is the
greatest LIMIT a configuration can hold. -/
def Config.countAtNoLimit : Nat := 65535

/-- DESIGN CHOICE, unsafe (log 46): the free values, one for each draw; nothing is known of any of them. -/
opaque Config.freeValue : Nat → BitVec 8

end Sys2Proof
end

