-- ==== Sys2Proof/Machine/State.lean ====
section
/-! DEFINITION. The state of the part: one record per block of 00_scope.md section 2, the host side of the Host
Port, the store the part drives, and the queue of commands that wait. Plain data throughout. -/

namespace Sys2Proof.Machine

/-! ## Names used by several blocks -/

/-- R130. -/
inductive EngineState where
  | unconfigured | idle | run | drain | hold | halt
  deriving DecidableEq, Repr

/-- R130. -/
inductive LotMode where
  | none | run | drain
  deriving DecidableEq, Repr

/-- R142. -/
inductive HoldCause where
  | requested | door | air | meter
  deriving DecidableEq, Repr

/-- The hold-cause set (R130). -/
structure HoldCauses where
  requested : Bool
  door : Bool
  air : Bool
  meter : Bool
  deriving DecidableEq, Repr

/-- R130. -/
inductive HaltCause where
  | none | jam | motion
  deriving DecidableEq, Repr

/-- R175, in the order of the bits of ATTN CAUSE. -/
inductive AttnCause where
  | halt | request | journal | reclaim | meter | bin | starved
  deriving DecidableEq, Repr

/-- R1. -/
inductive Role where
  | unused | primary | second | backup
  deriving DecidableEq, Repr

/-- R41. -/
inductive ChannelState where
  | unused | offline | setup | online | suspect
  deriving DecidableEq, Repr

/-- R40, R56. -/
inductive ProtocolCause where
  | check | status | range | noTag | early | tag | acq
  deriving DecidableEq, Repr

/-- How a setup or a channel ended (R44, R56, R191 channel cause). -/
inductive ChannelCause where
  | online | rejected | flt | timeout | protocol (cause : ProtocolCause) | unused
  deriving DecidableEq, Repr

/-- R63. -/
inductive Urgency where
  | current | due | forced | limit
  deriving DecidableEq, Repr

/-- R60. -/
inductive Cover where
  | none | pending | placed | issued
  deriving DecidableEq, Repr

/-- R60. -/
inductive RefKind where
  | reserved | opportunistic
  deriving DecidableEq, Repr

/-- R68. -/
inductive Verdict where
  | pass | fail | none
  deriving DecidableEq, Repr

/-- R5; `opened` is the manual's OPEN. -/
inductive ReadingStatus where
  | pending | good | over | opened | fault | refused
  deriving DecidableEq, Repr

/-- The two plan slots (R76). -/
inductive SlotId where
  | a | b
  deriving DecidableEq, Repr

/-- R4: a gate by its number, or CATCH. -/
inductive Route where
  | gate (n : Nat) | toCatch
  deriving DecidableEq, Repr

/-- R4. -/
inductive Reason where
  | sorted | alternate | overflow | reject | fail | spread | noroom | rerouted | aborted | purged
  deriving DecidableEq, Repr

/-- R30. -/
inductive Disposition where
  | ejected | missed | caught | lost
  deriving DecidableEq, Repr

/-- R114; `opened` is the manual's OPEN. -/
inductive Availability where
  | absent | closed | full | opened
  deriving DecidableEq, Repr

/-- A set of meters. -/
abbrev MeterSet := Four Bool

/-- The codes of R182; CONTROL reads `NONE` before the first CONFIGURE since a reset. -/
inductive ConfigResult where
  | none | ok | state
  | pocketCount | stationRoles | stationOrder | decisionPosition | gateCount | gateOrder | clearPosition | jamInterval
  | feedInterval | catchPulse | takeInterval
  | referenceOrder | referenceMargin | driftLimit
  | ejectPulse | capacity | missLimit
  | journalSize | journalPlace | thinningLevels | backlog | requestArea
  deriving DecidableEq, Repr

/-- R191, the result codes of requests. -/
inductive ResultCode where
  | ok | refusedState | refusedArgument | inUse | busy | partialHold | meterFailed | planInvalid | contextInvalid
  | superseded | unknown
  deriving DecidableEq, Repr

/-! ## Dial Tracker -/

/-- A measure station: its role and, for a used station, its position (R1). -/
structure Station where
  role : Role
  position : Nat
  deriving DecidableEq, Repr

/-- The geometry (R1). -/
structure Geometry where
  pockets : Nat
  stations : Four Station
  decision : Nat
  gates : List Nat
  clear : Nat
  jam : IntervalCode
  deriving DecidableEq, Repr

/-- A reading entry (R5). -/
structure Reading where
  station : Meter
  serial : Option Nat
  status : ReadingStatus
  deviation : Option Int
  late : Bool
  deriving DecidableEq, Repr

/-- What a pocket carries with its part from CARRY on (R4). -/
structure PartRecord where
  sequence : Nat
  slot : SlotId
  readings : List Reading
  deriving DecidableEq, Repr

/-- What the decision adds (R4). -/
structure Routing where
  row : Option Nat
  route : Route
  reason : Reason
  deriving DecidableEq, Repr

/-- A pocket record: its phase, with exactly the fields the phase has present (R4). -/
inductive Pocket where
  | vacant
  | reserved (set : MeterSet)
  | carry (part : PartRecord)
  | routed (part : PartRecord) (routing : Routing)
  | spent (part : PartRecord) (routing : Routing) (tube : Nat)
  | stray
  deriving DecidableEq, Repr

/-- The kinds of work item with their places (R9). -/
inductive ItemKind where
  | load | take (m : Meter) | decision | fire (gate : Nat) | clear
  deriving DecidableEq, Repr

/-- R9. -/
inductive ItemState where
  | deferred | started | complete
  deriving DecidableEq, Repr

/-- A work item of the current dwell (R9). -/
structure Item where
  kind : ItemKind
  pocket : Nat
  state : ItemState
  deriving DecidableEq, Repr

/-- The Dial Tracker (chapter 1). -/
structure Dt where
  geometry : Option Geometry
  offset : Nat
  pockets : List Pocket
  dwell : Nat
  items : List Item
  openedIn : EngineState
  permit : Bool
  indexExpected : Bool
  deriving DecidableEq, Repr

/-! ## Load and Clear Unit -/

/-- R19, R26. -/
inductive Feed where
  | idle | feeding (pocket dwell : Nat)
  deriving DecidableEq, Repr

/-- R19, R31. `reports` is the model's own: false once a CONFIGURE or a START LOT has come during the pulse, whose
completion then changes nothing in the dwell record (R31, log 21). -/
inductive CatchPulse where
  | idle | pulsing (dwell : Nat) (reports : Bool)
  deriving DecidableEq, Repr

/-- The nine lot counters (R35). -/
structure LotCounters where
  loaded : Nat
  ejected : Nat
  caught : Nat
  missed : Nat
  lost : Nat
  stray : Nat
  loadLoss : Nat
  lateReadings : Nat
  staleReports : Nat
  deriving DecidableEq, Repr

/-- The intervals of R20. -/
structure LcuIntervals where
  feedTimeout : IntervalCode
  catchPulse : IntervalCode
  starvation : IntervalCode
  deriving DecidableEq, Repr

/-- The Load and Clear Unit (R19, R20). -/
structure Lcu where
  nextSequence : Nat
  thinning : Nat
  forcedRatio : Nat
  pendingSet : MeterSet
  feed : Feed
  clearJet : CatchPulse
  counters : LotCounters
  intervals : Option LcuIntervals
  deriving DecidableEq, Repr

/-! ## Meter Channels -/

/-- The nominal in force (R41, R45). -/
structure Nominal where
  mantissa : Nat
  exponent : Nat
  current : Nat
  deriving DecidableEq, Repr

/-- R39. -/
inductive TakeKind where
  | take | refer
  deriving DecidableEq, Repr

/-- R41. -/
inductive TagStage where
  | sent | acquiring | converting
  deriving DecidableEq, Repr

/-- A tag of the take queue (R41). -/
structure Tag where
  kind : TakeKind
  pocket : Nat
  serial : Nat
  dwell : Nat
  stage : TagStage
  deriving DecidableEq, Repr

/-- The pending take (R41). -/
structure PendingTake where
  kind : TakeKind
  pocket : Nat
  dwell : Nat
  deriving DecidableEq, Repr

/-- Frames to the meter (R39). -/
inductive Frame where
  | setup (serial : Nat) (nominal : Nominal)
  | take (pocket serial : Nat)
  | refer (pocket serial : Nat)
  deriving DecidableEq, Repr

/-- The transfer on a meter link (R38). `discard` marks a REPORT transfer that began in OFFLINE (R55). -/
inductive Link where
  | idle | sending (frame : Frame) | receiving (discard : Bool)
  deriving DecidableEq, Repr

/-- Who asked for a setup (R44). -/
inductive SetupAsker where
  | startLot | meterRestart
  deriving DecidableEq, Repr

/-- What a channel holds while in SETUP (R41, R44). -/
structure SetupWork where
  serial : Nat
  before : ChannelState
  asker : SetupAsker
  deriving DecidableEq, Repr

/-- A meter channel (R41), its link (R38) and its level inputs (R37). -/
structure Channel where
  state : ChannelState
  role : Role
  nextSerial : Nat
  queue : List Tag
  pendingTake : Option PendingTake
  setup : Option SetupWork
  nominal : Option Nominal
  rememberedRdy : Bool
  link : Link
  setupDue : Bool
  acq : Bool
  flt : Bool
  deriving DecidableEq, Repr

/-- The four channels and the interval they share (R42). -/
structure Mc where
  channels : Four Channel
  takeTimeout : Option IntervalCode
  deriving DecidableEq, Repr

/-! ## Reference Scheduler -/

/-- The configured values of R61. -/
structure Thresholds where
  due : Nat
  force : Nat
  limit : Nat
  drift : Nat
  deriving DecidableEq, Repr

/-- An in-flight reference take (R60, R67). -/
structure RefEntry where
  pocket : Nat
  kind : RefKind
  since : Nat
  deriving DecidableEq, Repr

/-- One meter's entry (R60). -/
structure RefMeter where
  thresholds : Option Thresholds
  count : Nat
  urgency : Urgency
  cover : Cover
  refs : List RefEntry
  deriving DecidableEq, Repr

/-! ## Plan Store -/

/-- A plan row (R75). -/
structure PlanRow where
  low : Int
  high : Int
  target : Nat
  alternates : List Nat
  deriving DecidableEq, Repr

/-- A plan (R74). -/
structure Plan where
  id : Nat
  reject : Option Nat
  fail : Option Nat
  spread : Option Nat
  overflow : Option Nat
  spreadCheck : Bool
  spreadLimit : Nat
  rows : List PlanRow
  deriving DecidableEq, Repr

/-- R76. -/
inductive SlotState where
  | empty | loading | staged
  deriving DecidableEq, Repr

/-- A plan slot (R76). -/
structure PlanSlot where
  state : SlotState
  plan : Option Plan
  refs : Nat
  deriving DecidableEq, Repr

/-- The pending switch (R76). -/
structure PendingSwitch where
  slot : SlotId
  sequence : Nat
  deriving DecidableEq, Repr

/-- A staging (R76, R79) with the image bytes its granted reads have returned. -/
structure Staging where
  slot : SlotId
  address : Nat
  data : List Byte
  deriving DecidableEq, Repr

/-- The Plan Store (R76). -/
structure Ps where
  slotA : PlanSlot
  slotB : PlanSlot
  loadSlot : Option SlotId
  pendingSwitch : Option PendingSwitch
  staging : Option Staging
  deriving DecidableEq, Repr

/-! ## Gate Controller and Bin Table -/

/-- R112. -/
inductive FullFlag where
  | clear | count | sensor
  deriving DecidableEq, Repr

/-- R112. -/
inductive ClosedReason where
  | none | host | miss
  deriving DecidableEq, Repr

/-- A bin entry (R112). -/
structure BinEntry where
  tube : Bool
  full : FullFlag
  closed : ClosedReason
  capacity : Nat
  fired : Nat
  pending : Nat
  tubeNumber : Nat
  misses : Nat
  deriving DecidableEq, Repr

/-- A gate's pulse record (R116, R117). `reports` is the model's own: false once a CONFIGURE has discarded the dwell
record the pulse belongs to (R9, log 43). -/
inductive Pulse where
  | idle | pulsing (pocket tube dwell : Nat) (reports : Bool)
  deriving DecidableEq, Repr

/-- The items of R113. -/
structure GbtItems where
  ejectPulse : IntervalCode
  defaultCapacity : Nat
  missLimit : Nat
  fullSensors : BitVec 32
  deriving DecidableEq, Repr

/-- The Gate Controller and Bin Table (R112, R113, R117): 32 bins and 32 pulse records. -/
structure Gbt where
  bins : List BinEntry
  pulses : List Pulse
  items : Option GbtItems
  deriving DecidableEq, Repr

/-! ## Lot Sequencer -/

/-- The current lot (R130). -/
structure Lot where
  number : Nat
  context : Option Nat
  deriving DecidableEq, Repr

/-- R130, R150. -/
inductive EndKind where
  | endLot | abortLot
  deriving DecidableEq, Repr

/-- The parked request (R130), with the number of pockets an ABORT LOT routed (R138). -/
structure Parked where
  kind : EndKind
  routed : Nat
  deriving DecidableEq, Repr

/-- The lot context (R150). -/
structure LotContext where
  lot : Nat
  nextSequence : Nat
  counters : LotCounters
  ended : EndKind
  deriving DecidableEq, Repr

/-- The close completion (R140, R141): the snapshot, whether LOT CLOSE has been published, and how many context
write requests are not yet granted. -/
structure CloseCompletion where
  snapshot : LotContext
  published : Bool
  writesLeft : Nat
  deriving DecidableEq, Repr

/-- The presets of R131. -/
structure Presets where
  run : Byte
  hold : Byte
  halt : Byte
  deriving DecidableEq, Repr

/-- Where a START LOT stands (R133, R134): reading the lot context, with the bytes read, or waiting for the
channels' setups, with the context's values set aside and the outcomes so far. -/
inductive StartLotPhase where
  | context (data : List Byte)
  | setups (resumed : Option (Nat × LotCounters)) (outcomes : Four (Option ChannelCause))
  deriving DecidableEq, Repr

/-- The START LOT being executed (R132 to R136). -/
structure StartLotWork where
  lot : Nat
  nominal : Nominal
  slot : SlotId
  context : Option Nat
  phase : StartLotPhase
  deriving DecidableEq, Repr

/-- The Lot Sequencer (R130). -/
structure Lsq where
  engine : EngineState
  lotMode : LotMode
  holds : HoldCauses
  haltCause : HaltCause
  lot : Option Lot
  parked : Option Parked
  completion : Option CloseCompletion
  portLatch : Byte
  presets : Option Presets
  startLot : Option StartLotWork
  deriving DecidableEq, Repr

/-! ## Watch Unit and Request Executor -/

/-- The current request (R156). `executing` says that its owner has begun work that holds the RQX (R158). -/
structure CurrentRequest where
  slot : Nat
  address : Nat
  kind : Nat
  notify : Bool
  args : List Byte
  executing : Bool
  deriving DecidableEq, Repr

/-- The slot read in flight (R156), with its 32 bytes once granted. -/
structure SlotRead where
  slot : Nat
  address : Nat
  data : Option (List Byte)
  deriving DecidableEq, Repr

/-- The parked reference (R156, R159). -/
structure ParkedRef where
  address : Nat
  notify : Bool
  deriving DecidableEq, Repr

/-- The Watch Unit and the Request Executor (R152, R155, R156). -/
structure Rqx where
  base : Option Nat
  posts : List Nat
  reading : Option SlotRead
  current : Option CurrentRequest
  parkedRef : Option ParkedRef
  deriving DecidableEq, Repr

/-! ## Journal Writer -/

/-- The EVENT records (12.6), with their operands. -/
inductive Event where
  | indexWhileIdle (offset : Nat)
  | motionInHalt (offset dwell : Nat)
  | staleReport (pocket : Nat) (station : Meter) (serial offset : Nat)
  | dwellSkipped (dwell offset skipped : Nat)
  | feedTimeout (pocket offset : Nat)
  | placedWithoutFeed (offset : Nat)
  | starvation (nextSequence offset : Nat)
  | sequenceExhausted (lot : Nat)
  | strayCleared (pocket : Nat) (present : Bool) (offset : Nat)
  | strayAtClear (pocket : Nat) (reserved : Bool) (offset : Nat)
  | setupFailed (channel : Meter) (cause : ChannelCause)
  | channelOnline (channel : Meter) (before : ChannelState)
  | channelOffline (channel : Meter) (cause : ChannelCause) (tagsFaulted offset : Nat)
  | planStaged (slot : SlotId) (result : ResultCode) (planId rowCount location checkCode : Nat)
  | planSwitched (slotBefore : Option SlotId) (idBefore : Nat) (slotAfter : SlotId) (idAfter sequence : Nat)
  | switchWithdrawn (slot : SlotId) (sequence nextSequence : Nat)
  | planDropped (slot : SlotId) (planId location : Nat)
  | binClosedByMisses (bin tube missLimit : Nat) (closed : ClosedReason) (offset : Nat)
  | holdCause (cause : HoldCause) (engine : EngineState) (offset : Nat)
  | holdEntered (causes : HoldCauses) (mode : LotMode) (offset : Nat)
  | resumed (removed remaining : HoldCauses) (offset : Nat)
  | haltEntered (cause : HaltCause) (before : EngineState) (offset dwell : Nat)
  | haltCleared (purge : Bool) (purged offset : Nat)
  | lotAborted (lot routed offset : Nat)
  | badReclaim (value reclaim fill : Nat)
  deriving DecidableEq, Repr

/-- The bodies of the records other than PAD (R163). -/
inductive RecordBody where
  | outcome (pocket : Nat) (part : PartRecord) (planId : Nat) (routing : Routing) (disposition : Disposition)
  | tube (bin tubeNumber fired lot : Nat)
  | check (meter : Meter) (pocket : Nat) (kind : RefKind) (status : ReadingStatus) (verdict : Verdict)
      (before after : Nat) (deviation : Option Int)
  | lotOpen (lot first planId : Nat) (slot : SlotId) (continued : Bool)
  | lotClose (context : LotContext)
  | event (e : Event)
  deriving DecidableEq, Repr

/-- A whole record: its body and its index count (R163). -/
structure JournalRecord where
  body : RecordBody
  indexCount : Nat
  deriving DecidableEq, Repr

/-- A hand-off that waits on a full staging queue (R164), with the dwell number of the CLEAR item that completes
at its acceptance (R30). -/
structure HandOff where
  record : JournalRecord
  clearDwell : Option Nat
  deriving DecidableEq, Repr

/-- The journal area with the values held like it (R161, R162). -/
structure JournalArea where
  base : Nat
  size : Nat
  t1 : Nat
  t2 : Nat
  t3 : Nat
  backlog : Nat
  age : IntervalCode
  deriving DecidableEq, Repr

/-- R161. -/
inductive WriterState where
  | idle | writing | waiting
  deriving DecidableEq, Repr

/-- The Journal Writer (R161, R164). -/
structure Jw where
  area : Option JournalArea
  fill : Nat
  reclaim : Nat
  wrap : Nat
  queue : List JournalRecord
  waiting : List HandOff
  writer : WriterState
  level : Nat
  deriving DecidableEq, Repr

/-! ## Store Arbiter -/

/-- The items of the status block (12.3), in the order of its table. -/
inductive StatusItem where
  | engine | lotMode | holdSet | haltCause | parked | configResult | failingStation | portLatch
  | lotNumber | nextSequence
  | planSlot (s : SlotId) | loadSlot | switchTarget | switchSequence
  | channel (m : Meter) | bin (n : Fin 32)
  deriving DecidableEq, Repr

/-- The items in the order of the table of 12.3. -/
def StatusItem.all : List StatusItem :=
  [.engine, .lotMode, .holdSet, .haltCause, .parked, .configResult, .failingStation, .portLatch,
   .lotNumber, .nextSequence, .planSlot .a, .planSlot .b, .loadSlot, .switchTarget, .switchSequence,
   .channel 0, .channel 1, .channel 2, .channel 3] ++ (List.finRange 32).map StatusItem.bin

/-- A waiting STATUS write (R180): it carries the item, since the write takes the value of the item's last change
before its grant. `holdsRead`: requested before the waiting host read was accepted, in its block (R179). -/
structure StatusRequest where
  item : StatusItem
  holdsRead : Bool
  deriving DecidableEq, Repr

/-- What the grant of a part write brings about beside the bytes. -/
inductive WriteEffect where
  /-- nothing further. -/
  | plain
  /-- R165: the publish of a fill offset and a wrap count. -/
  | publish (fill wrap : Nat)
  /-- R157: the DONE write of a slot, with its notify flag. -/
  | done (notify : Bool)
  /-- R141: a write of the lot context. -/
  | context
  /-- R149: the result write of a PORT WRITE, which carries the latch, at this address, as it stands at the write. -/
  | portResult (address : Nat)
  deriving DecidableEq, Repr

/-- Whose read a part read is. -/
inductive ReadOwner where
  | configuration | context | plan | slot
  deriving DecidableEq, Repr

/-- A part request within one coherency block (R177). `holdsRead` as in `StatusRequest`. -/
inductive StoreRequest where
  | write (cells : List Host.Cell) (effect : WriteEffect) (holdsRead : Bool)
  | read (address length : Nat) (owner : ReadOwner)
  deriving DecidableEq, Repr

/-- The queues of the part's four classes (R177). -/
structure Sa where
  journal : List StoreRequest
  status : List StatusRequest
  request : List StoreRequest
  bulk : List StoreRequest
  deriving DecidableEq, Repr

/-! ## Host Port -/

/-- ATTN CAUSE and ATTN ENABLE (R172, R175). -/
structure Attn where
  cause : BitVec 7
  enable : BitVec 7
  deriving DecidableEq, Repr

/-- The CONFIGURE in progress (R181, R182): none, held, or reading, with the bytes read. -/
inductive ConfigWork where
  | none | held | reading (data : List Byte)
  deriving DecidableEq, Repr

/-- The configure-in-progress indicator, the last result and the failing station (R172, R180, R181). -/
structure Cfg where
  work : ConfigWork
  result : ConfigResult
  failing : Option Meter
  deriving DecidableEq, Repr

/-- An APERTURE register (R171). -/
structure Aperture where
  enabled : Bool
  page : BitVec 7
  deriving DecidableEq, Repr

/-- The host store cycle that holds the wait line (R173, R174): none, a write not yet accepted, a read not yet
accepted (R184), or a read accepted with its store address. -/
inductive HostCycle where
  | none
  | write (address value : HostWord)
  | readWaiting (address : HostWord)
  | read (address : StoreAddr)
  deriving DecidableEq, Repr

/-- A write in the posted write buffer (R173): the translated store address and the value; and, with `watched`,
whether a request area base was held as it was accepted, without which it is never recognised (R154). -/
structure PostedWrite where
  address : StoreAddr
  value : HostWord
  watched : Bool
  deriving DecidableEq, Repr

/-- The host side of the Host Port and the arbiter's promotion count (R171 to R174, R178, R184). -/
structure HostPort where
  aperture1 : Aperture
  aperture2 : Aperture
  aperture3 : Aperture
  buffer : List PostedWrite
  cycle : HostCycle
  draining : Bool
  promotion : Nat
  data : HostWord
  deriving DecidableEq, Repr

/-! ## Line Conditioner and Timers -/

/-- R185: SETTLED, or COUNTING with the time held, in units of 100 µs. -/
inductive Debounce where
  | settled | counting (held : Nat)
  deriving DecidableEq, Repr

/-- A direct line (R185): its pin level, its polarity (true is LOW ACTIVE), its debounce time, its stable value
(true is ACTIVE) and its debounce state. -/
structure Line where
  pin : Bool
  lowActive : Bool
  debounceMs : Nat
  stable : Bool
  debounce : Debounce
  deriving DecidableEq, Repr

/-- The six direct lines (R185). -/
structure Lines where
  index : Line
  placed : Line
  door : Line
  air : Line
  loadEye : Line
  clearEye : Line
  deriving DecidableEq, Repr

/-- The sensor chain (R188): the snapshot, the 64 stable values, the 64 run counts, the stable scan count. -/
structure Chain where
  snapshot : BitVec 64
  stable : BitVec 64
  runs : List Nat
  scanCount : Nat
  deriving DecidableEq, Repr

/-- An interval timer (R189), the time remaining in units of 100 µs. -/
inductive Timer where
  | stopped | running (interval : IntervalCode) (remaining : Nat)
  deriving DecidableEq, Repr

/-- The 41 timers (R189). -/
structure Timers where
  jam : Timer
  feed : Timer
  clearJet : Timer
  starvation : Timer
  age : Timer
  take : Four Timer
  pulse : List Timer
  deriving DecidableEq, Repr

/-- The Line Conditioner and Timers (chapter 11). -/
structure Lct where
  lines : Lines
  chain : Chain
  timers : Timers
  deriving DecidableEq, Repr

/-! ## The part, the state, reset -/

/-- The blocks of the part, the Host Port's attention and configuration registers among them. Two fields are the model's
own: `changed`, the status items that the command at work has changed so far, in the order of the changes (R180, log
11), as it stood between two commands; and `draws`, how many free values have been taken (log 46). -/
structure Part where
  dt : Dt
  lcu : Lcu
  mc : Mc
  rsc : Four RefMeter
  ps : Ps
  gbt : Gbt
  lsq : Lsq
  rqx : Rqx
  jw : Jw
  sa : Sa
  attn : Attn
  cfg : Cfg
  lct : Lct
  changed : List StatusItem
  draws : Nat
  deriving DecidableEq, Repr

/-- The whole state: the part, the host side of the Host Port, the store, and the commands that wait (first in,
first out). -/
structure State where
  part : Part
  hp : HostPort
  store : List Host.Cell
  pending : List Instr
  deriving DecidableEq, Repr

/-- Why a step would stop with a fault. The manual describes no condition that stops the part, so there is no
constructor and no step faults; nothing is lost by it (safe). -/
inductive Fault where
  deriving DecidableEq, Repr

/-- Why a step would be refused. -/
inductive Refusal where
  /-- Raised by an arm of `exec` for a row that has no meaning yet; no arm raises it now (safe: the model stops). -/
  | notModelled (mnemonic : String)
  deriving DecidableEq, Repr

/-- Four equal things. -/
def Four.const {α : Type} (x : α) : Four α := ⟨x, x, x, x⟩

/-- No meter. -/
def MeterSet.empty : MeterSet := Four.const false

/-- R35 at reset. -/
def LotCounters.zero : LotCounters := ⟨0, 0, 0, 0, 0, 0, 0, 0, 0⟩

/-- R112, power-on values of a bin. -/
def BinEntry.reset : BinEntry :=
  { tube := false, full := .clear, closed := .none, capacity := 0, fired := 0, pending := 0, tubeNumber := 1,
    misses := 0 }

/-- R1, R3, R4, R9, R14, R15 at reset. -/
def Dt.reset : Dt :=
  { geometry := none, offset := 0, pockets := [], dwell := 0, items := [], openedIn := .unconfigured,
    permit := false, indexExpected := false }

/-- R19, R20 at reset. -/
def Lcu.reset : Lcu :=
  { nextSequence := 1, thinning := 7, forcedRatio := 1, pendingSet := MeterSet.empty, feed := .idle,
    clearJet := .idle, counters := LotCounters.zero, intervals := none }

/-- R41 at reset; the pin levels are inputs. -/
def Channel.reset (acq flt : Bool) : Channel :=
  { state := .unused, role := .unused, nextSerial := 0, queue := [], pendingTake := none, setup := none,
    nominal := none, rememberedRdy := false, link := .idle, setupDue := false, acq, flt }

/-- R60 at reset. -/
def RefMeter.reset : RefMeter :=
  { thresholds := none, count := Config.countAtNoLimit, urgency := .limit, cover := .none, refs := [] }

/-- R76 at reset. -/
def PlanSlot.reset : PlanSlot := { state := .empty, plan := none, refs := 0 }

/-- R76 at reset. -/
def Ps.reset : Ps :=
  { slotA := PlanSlot.reset, slotB := PlanSlot.reset, loadSlot := none, pendingSwitch := none, staging := none }

/-- R112, R113, R117 at reset. -/
def Gbt.reset : Gbt :=
  { bins := List.replicate 32 BinEntry.reset, pulses := List.replicate 32 .idle, items := none }

/-- R130 at reset. -/
def Lsq.reset : Lsq :=
  { engine := .unconfigured, lotMode := .none, holds := ⟨false, false, false, false⟩, haltCause := .none, lot := none,
    parked := none, completion := none, portLatch := 0x00, presets := none, startLot := none }

/-- R152, R155, R156 at reset. -/
def Rqx.reset : Rqx := { base := none, posts := [], reading := none, current := none, parkedRef := none }

/-- R161, R164 at reset. -/
def Jw.reset : Jw :=
  { area := none, fill := 0, reclaim := 0, wrap := 0, queue := [], waiting := [], writer := .idle, level := 1 }

/-- R177 at reset. -/
def Sa.empty : Sa := { journal := [], status := [], request := [], bulk := [] }

/-- R172, R181 at reset. -/
def Cfg.reset : Cfg := { work := .none, result := .none, failing := none }

/-- R185 at reset: HIGH ACTIVE, debounce 0 ms, the stable value taken from the pin. -/
def Line.reset (pin : Bool) : Line :=
  { pin, lowActive := false, debounceMs := 0, stable := pin, debounce := .settled }

/-- R188 at reset; the snapshot is of the last complete scan and is kept. -/
def Chain.reset (snapshot : BitVec 64) : Chain :=
  { snapshot, stable := 0, runs := List.replicate 64 0, scanCount := 0 }

/-- R189 at reset. -/
def Timers.reset : Timers :=
  { jam := .stopped, feed := .stopped, clearJet := .stopped, starvation := .stopped, age := .stopped,
    take := Four.const .stopped, pulse := List.replicate 32 .stopped }

/-- R171 at power-on reset. -/
def Aperture.reset : Aperture := { enabled := false, page := 0 }

/-- R171 to R174, R178 at power-on reset. -/
def HostPort.reset : HostPort :=
  { aperture1 := Aperture.reset, aperture2 := Aperture.reset, aperture3 := Aperture.reset, buffer := [],
    cycle := .none, draining := false, promotion := 0, data := 0 }

/-- The machine right after power-on reset. The whole status block has been requested (R180, R183); the input pins
are low and the store lists nothing (log 3, log 7). -/
def State.reset : State :=
  { part :=
      { dt := Dt.reset, lcu := Lcu.reset,
        mc := { channels := Four.const (Channel.reset false false), takeTimeout := none },
        rsc := Four.const RefMeter.reset, ps := Ps.reset, gbt := Gbt.reset, lsq := Lsq.reset, rqx := Rqx.reset,
        jw := Jw.reset,
        sa := { Sa.empty with status := StatusItem.all.map (fun i => { item := i, holdsRead := false }) },
        attn := { cause := 0, enable := 1 }, cfg := Cfg.reset,
        lct :=
          { lines :=
              { index := Line.reset false, placed := Line.reset false, door := Line.reset false,
                air := Line.reset false, loadEye := Line.reset false, clearEye := Line.reset false },
            chain := Chain.reset 0, timers := Timers.reset },
        changed := [], draws := 0 },
    hp := HostPort.reset, store := [], pending := [] }

end Sys2Proof.Machine
end

