-- ==== Sys2Proof/Machine/Ops.lean ====
section
/-! DEFINITION. The named operations over the store and over the registers of the blocks: how one byte is read and
written, how one pocket, bin, channel, meter, slot, timer or line is read and replaced, how an attention cause is
latched. Every meaning goes through these. -/

namespace Sys2Proof

/-! ## Four like things -/

/-- The thing of meter `m`. -/
def Four.get {α : Type} (f : Four α) (m : Meter) : α :=
  match m with
  | 0 => f.m0
  | 1 => f.m1
  | 2 => f.m2
  | 3 => f.m3

/-- Replace the thing of meter `m`. -/
def Four.set {α : Type} (f : Four α) (m : Meter) (x : α) : Four α :=
  match m with
  | 0 => { f with m0 := x }
  | 1 => { f with m1 := x }
  | 2 => { f with m2 := x }
  | 3 => { f with m3 := x }

/-- Apply `g` to each. -/
def Four.map {α β : Type} (f : Four α) (g : α → β) : Four β := ⟨g f.m0, g f.m1, g f.m2, g f.m3⟩

/-- Combine meter by meter. -/
def Four.zipWith {α β γ : Type} (g : α → β → γ) (f : Four α) (h : Four β) : Four γ :=
  ⟨g f.m0 h.m0, g f.m1 h.m1, g f.m2 h.m2, g f.m3 h.m3⟩

/-- The four things in meter order. -/
def Four.toList {α : Type} (f : Four α) : List α := [f.m0, f.m1, f.m2, f.m3]

/-- The four meters in order. -/
def allMeters : List Meter := [0, 1, 2, 3]

namespace Machine

/-- The set with `m`. -/
def MeterSet.insert (s : MeterSet) (m : Meter) : MeterSet := s.set m true

/-- The set without `m`. -/
def MeterSet.erase (s : MeterSet) (m : Meter) : MeterSet := s.set m false

/-- The meters of either set. -/
def MeterSet.union (s t : MeterSet) : MeterSet := Four.zipWith or s t

/-- No meter is in the set. -/
def MeterSet.isEmpty (s : MeterSet) : Bool := !(s.m0 || s.m1 || s.m2 || s.m3)

/-! ## The store -/

/-- The number of bytes of the store (00_scope.md section 4). -/
def storeBytes : Nat := 0x200000

/-- The byte at key `a` of a listing. -/
def Memory.lookup : List Host.Cell → Nat → Byte
  | [], _ => Config.storePowerOn
  | (k, v) :: rest, a => if k = a then v else Memory.lookup rest a

/-- Put `v` at key `a`, keeping the canonical form: rising keys, no entry equal to what an unlisted address reads. -/
def Memory.insert : List Host.Cell → Nat → Byte → List Host.Cell
  | [], a, v => if v = Config.storePowerOn then [] else [(a, v)]
  | (k, w) :: rest, a, v =>
    if a < k then (if v = Config.storePowerOn then (k, w) :: rest else (a, v) :: (k, w) :: rest)
    else if a = k then (if v = Config.storePowerOn then rest else (a, v) :: rest)
    else (k, w) :: Memory.insert rest a v

/-- Every key of the listing is above `a`. -/
def Memory.above (a : Nat) : List Host.Cell → Bool
  | [] => true
  | (k, _) :: rest => decide (a < k) && Memory.above a rest

/-- The canonical form of the store's listing: keys strictly rising, each within the store, no entry equal to what an
unlisted address reads as. -/
def Memory.wf : List Host.Cell → Bool
  | [] => true
  | (k, v) :: rest =>
    decide (k < storeBytes) && (v != Config.storePowerOn) && Memory.above k rest && Memory.wf rest

/-- Read one byte of the store; the store's address lines carry an address modulo its size (log 28). -/
def Memory.read (mem : List Host.Cell) (a : Nat) : Byte := Memory.lookup mem (a % storeBytes)

/-- Write one byte of the store. -/
def Memory.write (mem : List Host.Cell) (a : Nat) (v : Byte) : List Host.Cell :=
  Memory.insert mem (a % storeBytes) v

/-- Write a list of (address, byte) pairs, first to last. -/
def Memory.writeAll (mem : List Host.Cell) (cells : List Host.Cell) : List Host.Cell :=
  cells.foldl (fun m c => Memory.write m c.1 c.2) mem

/-- Read `n` bytes from address `a` upward. -/
def Memory.readBytes (mem : List Host.Cell) (a n : Nat) : List Byte :=
  (List.range n).map (fun i => Memory.read mem (a + i))

/-! ## Engine states -/

/-- RUN or DRAIN. -/
def EngineState.working : EngineState → Bool
  | .run => true
  | .drain => true
  | .unconfigured => false
  | .idle => false
  | .hold => false
  | .halt => false

/-- RUN, DRAIN, HOLD or HALT: a lot is open. -/
def EngineState.inLot : EngineState → Bool
  | .run => true
  | .drain => true
  | .hold => true
  | .halt => true
  | .unconfigured => false
  | .idle => false

/-! ## Hold causes -/

/-- No cause. -/
def HoldCauses.none : HoldCauses := ⟨false, false, false, false⟩

/-- The cause is in the set. -/
def HoldCauses.has (s : HoldCauses) : HoldCause → Bool
  | .requested => s.requested
  | .door => s.door
  | .air => s.air
  | .meter => s.meter

/-- The set with the cause. -/
def HoldCauses.insert (s : HoldCauses) : HoldCause → HoldCauses
  | .requested => { s with requested := true }
  | .door => { s with door := true }
  | .air => { s with air := true }
  | .meter => { s with meter := true }

/-- The set is empty. -/
def HoldCauses.isEmpty (s : HoldCauses) : Bool := !(s.requested || s.door || s.air || s.meter)

/-! ## Dial -/

/-- The pocket under position `pos` (R3). -/
def Geometry.pocketAt (g : Geometry) (offset pos : Nat) : Nat := (pos + g.pockets - offset % g.pockets) % g.pockets

/-- The position at which pocket `k` stands (R3). -/
def Geometry.positionOf (g : Geometry) (offset k : Nat) : Nat := (k + offset) % g.pockets

/-- The station of meter `m` is used (R1). -/
def Geometry.used (g : Geometry) (m : Meter) : Bool := (g.stations.get m).role != .unused

/-- The meter whose station has the role, if any. -/
def Geometry.withRole (g : Geometry) (r : Role) : Option Meter :=
  allMeters.find? (fun m => (g.stations.get m).role == r)

/-- The record of pocket `k`; VACANT where there is none. -/
def Part.pocket (p : Part) (k : Nat) : Pocket := p.dt.pockets.getD k .vacant

/-- Replace the record of pocket `k` (R4). -/
def Part.setPocket (p : Part) (k : Nat) (x : Pocket) : Part :=
  { p with dt := { p.dt with pockets := p.dt.pockets.set k x } }

/-! ## Channels, meters, slots, bins -/

/-- Channel `m`. -/
def Part.channel (p : Part) (m : Meter) : Channel := p.mc.channels.get m

/-- The channel is used: its role is not UNUSED (R41). -/
def Part.usedMeter (p : Part) (m : Meter) : Bool := (p.channel m).role != .unused

/-- Slot `s` of the Plan Store. -/
def Ps.slot (ps : Ps) : SlotId → PlanSlot
  | .a => ps.slotA
  | .b => ps.slotB

/-- Replace slot `s`. -/
def Ps.setSlot (ps : Ps) (s : SlotId) (x : PlanSlot) : Ps :=
  match s with
  | .a => { ps with slotA := x }
  | .b => { ps with slotB := x }

/-- Bin `n`; the power-on values beyond bin 31. -/
def Part.bin (p : Part) (n : Nat) : BinEntry := p.gbt.bins.getD n BinEntry.reset

/-- Pulse record `n`. -/
def Part.pulse (p : Part) (n : Nat) : Pulse := p.gbt.pulses.getD n .idle

/-- Replace pulse record `n`. -/
def Part.setPulse (p : Part) (n : Nat) (x : Pulse) : Part :=
  { p with gbt := { p.gbt with pulses := p.gbt.pulses.set n x } }

/-- The gate count in force: 0 while no geometry is held. -/
def Part.gateCount (p : Part) : Nat :=
  match p.dt.geometry with
  | none => 0
  | some g => g.gates.length

/-! ## Timers (R189) -/

/-- The count of an interval code (R191). -/
def IntervalCode.count (c : IntervalCode) : Nat := c.toNat % 64

/-- The interval in units of 100 µs (00_scope.md section 4). -/
def IntervalCode.units (c : IntervalCode) : Nat :=
  IntervalCode.count c *
    (match c.toNat / 64 with
     | 0 => 1
     | 1 => 10
     | 2 => 100
     | _ => 10000)

/-- A start: RUNNING with the full interval, whatever the timer was (R189). -/
def Timer.start (c : IntervalCode) : Timer := .running c (IntervalCode.units c)

/-- The timer is RUNNING. -/
def Timer.isRunning : Timer → Bool
  | .stopped => false
  | .running _ _ => true

/-- Put the timers in. -/
def Part.setTimers (p : Part) (t : Timers) : Part := { p with lct := { p.lct with timers := t } }

/-- Set the jam timer. -/
def Part.setJam (p : Part) (t : Timer) : Part := p.setTimers { p.lct.timers with jam := t }

/-- Set the feed timer. -/
def Part.setFeedTimer (p : Part) (t : Timer) : Part := p.setTimers { p.lct.timers with feed := t }

/-- Set the catch timer. -/
def Part.setCatchTimer (p : Part) (t : Timer) : Part := p.setTimers { p.lct.timers with clearJet := t }

/-- Set the starvation timer. -/
def Part.setStarvation (p : Part) (t : Timer) : Part := p.setTimers { p.lct.timers with starvation := t }

/-- Set the age timer. -/
def Part.setAge (p : Part) (t : Timer) : Part := p.setTimers { p.lct.timers with age := t }

/-- Set the take timer of channel `m`. -/
def Part.setTakeTimer (p : Part) (m : Meter) (t : Timer) : Part :=
  p.setTimers { p.lct.timers with take := p.lct.timers.take.set m t }

/-- Set the pulse timer of gate `n`. -/
def Part.setPulseTimer (p : Part) (n : Nat) (t : Timer) : Part :=
  p.setTimers { p.lct.timers with pulse := p.lct.timers.pulse.set n t }

/-- Start the take timer of channel `m` with the take timeout in force (R42, R51). -/
def Part.startTakeTimer (p : Part) (m : Meter) : Part :=
  match p.mc.takeTimeout with
  | none => p
  | some c => p.setTakeTimer m (Timer.start c)

/-- Start the starvation timer; with count 0 it is not started (R29). -/
def Part.startStarvation (p : Part) : Part :=
  match p.lcu.intervals with
  | none => p
  | some i => if IntervalCode.count i.starvation = 0 then p else p.setStarvation (Timer.start i.starvation)

/-! ## Direct lines (R185) -/

/-- Line `l`. -/
def Lines.get (x : Lines) : LineId → Line
  | .index => x.index
  | .placed => x.placed
  | .door => x.door
  | .air => x.air
  | .loadEye => x.loadEye
  | .clearEye => x.clearEye

/-- Replace line `l`. -/
def Lines.set (x : Lines) (l : LineId) (v : Line) : Lines :=
  match l with
  | .index => { x with index := v }
  | .placed => { x with placed := v }
  | .door => { x with door := v }
  | .air => { x with air := v }
  | .loadEye => { x with loadEye := v }
  | .clearEye => { x with clearEye := v }

/-- Apply `g` to every line. -/
def Lines.map (x : Lines) (g : Line → Line) : Lines :=
  ⟨g x.index, g x.placed, g x.door, g x.air, g x.loadEye, g x.clearEye⟩

/-- The raw level of the line under its polarity: true is ACTIVE (R185). -/
def Line.raw (l : Line) : Bool := xor l.pin l.lowActive

/-- Replace line `l` of the part. -/
def Part.setLine (p : Part) (l : LineId) (v : Line) : Part :=
  { p with lct := { p.lct with lines := p.lct.lines.set l v } }

/-! ## Attention (R175) -/

/-- The bit of ATTN CAUSE of a cause. -/
def AttnCause.bit : AttnCause → Nat
  | .halt => 0
  | .request => 1
  | .journal => 2
  | .reclaim => 3
  | .meter => 4
  | .bin => 5
  | .starved => 6

/-- Latch a cause: only if its enable is set, but HALT always (R175). -/
def Part.latch (p : Part) (c : AttnCause) : Part :=
  if c = .halt ∨ p.attn.enable.getLsbD c.bit = true then
    { p with attn := { p.attn with cause := p.attn.cause ||| (1#7 <<< c.bit) } }
  else p

/-! ## Reasons (R4) -/

/-- The reason that a number names, counting the ten of R4 round. -/
def Reason.numbered (n : Nat) : Reason :=
  match n % 10 with
  | 0 => .sorted
  | 1 => .alternate
  | 2 => .overflow
  | 3 => .reject
  | 4 => .fail
  | 5 => .spread
  | 6 => .noroom
  | 7 => .rerouted
  | 8 => .aborted
  | _ => .purged

/-! ## Lot counters (R35) -/

/-- A lot counter rises by 1 and stays at its greatest value. -/
def countUp (n : Nat) : Nat := if n < 4294967295 then n + 1 else n

/-- Change the lot counters. -/
def Part.countLot (p : Part) (f : LotCounters → LotCounters) : Part :=
  { p with lcu := { p.lcu with counters := f p.lcu.counters } }

end Machine

end Sys2Proof
end

