-- ==== Sys2Proof/Machine/Codec.lean ====
section
/-! DEFINITION. The byte order (00_scope.md section 4) and the encodings of chapter 12: the codes of R191, the
frames of 12.8, the records of 12.6 and the lot context of 12.7. -/

namespace Sys2Proof.Machine

/-! ## Byte order -/

/-- The low `k` bytes of `n`, least significant byte first. -/
def leBytes : Nat → Nat → List Byte
  | 0, _ => []
  | k + 1, n => BitVec.ofNat 8 n :: leBytes k (n / 256)

/-- The number whose bytes, least significant first, are `bs`. -/
def leNat : List Byte → Nat
  | [] => 0
  | b :: bs => b.toNat + 256 * leNat bs

/-- The unsigned field of `size` bytes at byte `off` of `bs`. -/
def fieldAt (bs : List Byte) (off size : Nat) : Nat := leNat ((bs.drop off).take size)

/-- The signed 32-bit field at byte `off`. -/
def signedAt (bs : List Byte) (off : Nat) : Int := (BitVec.ofNat 32 (fieldAt bs off 4)).toInt

/-- A signed count as four bytes in two's complement. -/
def leSigned (i : Int) : List Byte := leBytes 4 (BitVec.ofInt 32 i).toNat

/-- One byte. -/
def byte (n : Nat) : List Byte := [BitVec.ofNat 8 n]

/-- `bs` filled with zero bytes up to `n` bytes. -/
def padTo (n : Nat) (bs : List Byte) : List Byte := bs ++ List.replicate (n - bs.length) 0

/-- `bs` laid at address `a`. -/
def cellsAt : Nat → List Byte → List Host.Cell
  | _, [] => []
  | a, b :: bs => (a, b) :: cellsAt (a + 1) bs

/-- The sum of the bytes modulo 256 (R38). -/
def byteSum (bs : List Byte) : Nat := (bs.map BitVec.toNat).sum % 256

/-! ## Codes (R191, R182) -/

/-- R172, R191. -/
def EngineState.code : EngineState → Nat
  | .unconfigured => 0
  | .idle => 1
  | .run => 2
  | .drain => 3
  | .hold => 4
  | .halt => 5

/-- R191. -/
def LotMode.code : LotMode → Nat
  | .none => 0
  | .run => 1
  | .drain => 2

/-- R172, R191: bit 0 REQUESTED, 1 DOOR, 2 AIR, 3 METER. -/
def HoldCauses.code (s : HoldCauses) : Nat :=
  s.requested.toNat + 2 * s.door.toNat + 4 * s.air.toNat + 8 * s.meter.toNat

/-- R172, R191. -/
def HaltCause.code : HaltCause → Nat
  | .none => 0
  | .jam => 1
  | .motion => 2

/-- R191: 0 none, 1 A, 2 B. -/
def SlotId.code : Option SlotId → Nat
  | none => 0
  | some .a => 1
  | some .b => 2

/-- R191. -/
def SlotState.code : SlotState → Nat
  | .empty => 0
  | .loading => 1
  | .staged => 2

/-- R191. -/
def ChannelState.code : ChannelState → Nat
  | .unused => 0
  | .offline => 1
  | .setup => 2
  | .online => 3
  | .suspect => 4

/-- R191. -/
def Urgency.code : Urgency → Nat
  | .current => 0
  | .due => 1
  | .forced => 2
  | .limit => 3

/-- R191. -/
def Availability.code : Availability → Nat
  | .absent => 0
  | .closed => 1
  | .full => 2
  | .opened => 3

/-- R191. -/
def ClosedReason.code : ClosedReason → Nat
  | .none => 0
  | .host => 1
  | .miss => 2

/-- R191. -/
def Reason.code : Reason → Nat
  | .sorted => 0
  | .alternate => 1
  | .overflow => 2
  | .reject => 3
  | .fail => 4
  | .spread => 5
  | .noroom => 6
  | .rerouted => 7
  | .aborted => 8
  | .purged => 9

/-- R191. -/
def Disposition.code : Disposition → Nat
  | .ejected => 0
  | .missed => 1
  | .caught => 2
  | .lost => 3

/-- R191. -/
def ReadingStatus.code : ReadingStatus → Nat
  | .pending => 0
  | .good => 1
  | .over => 2
  | .opened => 3
  | .fault => 4
  | .refused => 5

/-- R191. -/
def RefKind.code : RefKind → Nat
  | .reserved => 0
  | .opportunistic => 1

/-- R191. -/
def Verdict.code : Verdict → Nat
  | .pass => 0
  | .fail => 1
  | .none => 2

/-- R191. -/
def ProtocolCause.code : ProtocolCause → Nat
  | .check => 1
  | .status => 2
  | .range => 3
  | .noTag => 4
  | .early => 5
  | .tag => 6
  | .acq => 7

/-- R191. -/
def ChannelCause.code : ChannelCause → Nat
  | .online => 0
  | .rejected => 1
  | .flt => 2
  | .timeout => 3
  | .protocol c => 0x10 + c.code
  | .unused => 0xFF

/-- R191: 255 for CATCH. -/
def Route.code : Route → Nat
  | .gate n => n
  | .toCatch => 255

/-- R191: 255 for none. -/
def optionCode : Option Nat → Nat
  | none => 255
  | some n => n

/-- R191: 1 END LOT, 2 ABORT LOT (12.7). -/
def EndKind.code : EndKind → Nat
  | .endLot => 1
  | .abortLot => 2

/-- R191. -/
def ResultCode.code : ResultCode → Nat
  | .ok => 0
  | .refusedState => 1
  | .refusedArgument => 2
  | .inUse => 3
  | .busy => 4
  | .partialHold => 5
  | .meterFailed => 6
  | .planInvalid => 7
  | .contextInvalid => 8
  | .superseded => 9
  | .unknown => 10

/-- R182. -/
def ConfigResult.code : ConfigResult → Nat
  | .none => 0x00
  | .ok => 0x01
  | .state => 0x02
  | .pocketCount => 0x10
  | .stationRoles => 0x11
  | .stationOrder => 0x12
  | .decisionPosition => 0x13
  | .gateCount => 0x14
  | .gateOrder => 0x15
  | .clearPosition => 0x16
  | .jamInterval => 0x17
  | .feedInterval => 0x20
  | .catchPulse => 0x21
  | .takeInterval => 0x28
  | .referenceOrder => 0x30
  | .referenceMargin => 0x31
  | .driftLimit => 0x32
  | .ejectPulse => 0x38
  | .capacity => 0x39
  | .missLimit => 0x3A
  | .journalSize => 0x40
  | .journalPlace => 0x41
  | .thinningLevels => 0x42
  | .backlog => 0x43
  | .requestArea => 0x44

/-! ## Meter frames (12.8, R39) -/

/-- The bytes with the check byte that brings the sum to 0 modulo 256 (R38). -/
def withCheck (bs : List Byte) : List Byte := bs ++ [BitVec.ofNat 8 (256 - byteSum bs)]

/-- The bytes of a frame to the meter. -/
def Frame.bytes : Frame → List Byte
  | .setup serial n =>
    withCheck (byte 0x01 ++ leBytes 2 serial ++ leBytes 4 n.mantissa ++ byte n.exponent ++ byte n.current)
  | .take pocket serial => withCheck (byte 0x02 ++ byte pocket ++ leBytes 2 serial)
  | .refer pocket serial => withCheck (byte 0x03 ++ byte pocket ++ leBytes 2 serial)

/-! ## The lot context (12.7) and the records (12.6) -/

/-- The 48 bytes of the lot context. -/
def LotContext.bytes (c : LotContext) : List Byte :=
  let k := c.counters
  leBytes 4 c.lot ++ leBytes 4 c.nextSequence ++ leBytes 4 k.loaded ++ leBytes 4 k.ejected ++ leBytes 4 k.caught ++
    leBytes 4 k.missed ++ leBytes 4 k.lost ++ leBytes 4 k.stray ++ leBytes 4 k.loadLoss ++
    leBytes 4 k.lateReadings ++ leBytes 4 k.staleReports ++ byte c.ended.code ++ leBytes 3 0

/-- The eight bytes of a reading entry in an OUTCOME record. -/
def Reading.bytes (r : Reading) : List Byte :=
  byte (r.station.val + (if r.serial.isSome then 0x40 else 0) + (if r.late then 0x80 else 0)) ++
    byte r.status.code ++ leBytes 2 (r.serial.getD 0) ++ leSigned (r.deviation.getD 0)

/-- A set of one cause (EVENT 19). -/
def HoldCause.asSet (c : HoldCause) : HoldCauses := HoldCauses.none.insert c

/-- The code of an EVENT (12.6). -/
def Event.code : Event → Nat
  | .indexWhileIdle _ => 1
  | .motionInHalt _ _ => 2
  | .staleReport _ _ _ _ => 3
  | .dwellSkipped _ _ _ => 4
  | .feedTimeout _ _ => 5
  | .placedWithoutFeed _ => 6
  | .starvation _ _ => 7
  | .sequenceExhausted _ => 8
  | .strayCleared _ _ _ => 9
  | .strayAtClear _ _ _ => 10
  | .setupFailed _ _ => 11
  | .channelOnline _ _ => 12
  | .channelOffline _ _ _ _ => 13
  | .planStaged _ _ _ _ _ _ => 14
  | .planSwitched _ _ _ _ _ => 15
  | .switchWithdrawn _ _ _ => 16
  | .planDropped _ _ _ => 17
  | .binClosedByMisses _ _ _ _ _ => 18
  | .holdCause _ _ _ => 19
  | .holdEntered _ _ _ => 20
  | .resumed _ _ _ => 21
  | .haltEntered _ _ _ _ => 22
  | .haltCleared _ _ _ => 23
  | .lotAborted _ _ _ => 24
  | .badReclaim _ _ _ => 25

/-- The operands of an EVENT, packed in the order listed with the sizes given (12.6). -/
def Event.operands : Event → List Byte
  | .indexWhileIdle d => byte d
  | .motionInHalt d n => byte d ++ leBytes 4 n
  | .staleReport k m serial d => byte k ++ byte m.val ++ leBytes 2 serial ++ byte d
  | .dwellSkipped n d skipped => leBytes 4 n ++ byte d ++ byte skipped
  | .feedTimeout k d => byte k ++ byte d
  | .placedWithoutFeed d => byte d
  | .starvation n d => leBytes 4 n ++ byte d
  | .sequenceExhausted lot => leBytes 4 lot
  | .strayCleared k present d => byte k ++ byte present.toNat ++ byte d
  | .strayAtClear k reserved d => byte k ++ byte reserved.toNat ++ byte d
  | .setupFailed m c => byte m.val ++ byte c.code
  | .channelOnline m before => byte m.val ++ byte before.code
  | .channelOffline m c tags d => byte m.val ++ byte c.code ++ byte tags ++ byte d
  | .planStaged s r id rows loc chk =>
    byte (SlotId.code (some s)) ++ byte r.code ++ leBytes 4 id ++ byte rows ++ byte loc ++ byte chk
  | .planSwitched s0 id0 s1 id1 n =>
    byte (SlotId.code s0) ++ leBytes 4 id0 ++ byte (SlotId.code (some s1)) ++ leBytes 4 id1 ++ leBytes 4 n
  | .switchWithdrawn s n next => byte (SlotId.code (some s)) ++ leBytes 4 n ++ leBytes 4 next
  | .planDropped s id loc => byte (SlotId.code (some s)) ++ leBytes 4 id ++ byte loc
  | .binClosedByMisses b tube limit closed d =>
    byte b ++ leBytes 2 tube ++ byte limit ++ byte closed.code ++ byte d
  | .holdCause c e d => byte c.asSet.code ++ byte e.code ++ byte d
  | .holdEntered s mode d => byte s.code ++ byte mode.code ++ byte d
  | .resumed removed remaining d => byte removed.code ++ byte remaining.code ++ byte d
  | .haltEntered c before d n => byte c.code ++ byte before.code ++ byte d ++ leBytes 4 n
  | .haltCleared purge n d => byte purge.toNat ++ byte n ++ byte d
  | .lotAborted lot n d => leBytes 4 lot ++ byte n ++ byte d
  | .badReclaim v r f => leBytes 4 v ++ leBytes 4 r ++ leBytes 4 f

/-- The record kind (R191). -/
def RecordBody.kind : RecordBody → Nat
  | .outcome _ _ _ _ _ => 1
  | .tube _ _ _ _ => 2
  | .check _ _ _ _ _ _ _ _ => 3
  | .lotOpen _ _ _ _ _ => 4
  | .lotClose _ => 5
  | .event _ => 6

/-- The length in bytes (R163). -/
def RecordBody.length : RecordBody → Nat
  | .outcome _ part _ _ _ => 32 + 8 * part.readings.length
  | .tube _ _ _ _ => 24
  | .check _ _ _ _ _ _ _ _ => 24
  | .lotOpen _ _ _ _ _ => 24
  | .lotClose _ => 56
  | .event _ => 24

/-- The body from byte 8 on (12.6). -/
def RecordBody.bytes : RecordBody → List Byte
  | .outcome k part id routing d =>
    leBytes 4 part.sequence ++ leBytes 4 id ++ byte k ++ byte (SlotId.code (some part.slot)) ++
      byte (optionCode routing.row) ++ byte routing.route.code ++ byte routing.reason.code ++ byte d.code ++
      byte part.readings.length ++ List.replicate 9 0 ++ (part.readings.map Reading.bytes).flatten
  | .tube b n fired lot => byte b ++ byte 0 ++ leBytes 2 n ++ leBytes 2 fired ++ leBytes 2 0 ++ leBytes 4 lot ++ leBytes 4 0
  | .check m k kind status verdict before after deviation =>
    byte m.val ++ byte k ++ byte kind.code ++ byte status.code ++ byte verdict.code ++ byte 0 ++ leBytes 2 before ++
      leBytes 2 after ++ leBytes 2 0 ++ leSigned (deviation.getD 0)
  | .lotOpen lot first id s continued =>
    leBytes 4 lot ++ leBytes 4 first ++ leBytes 4 id ++ byte (SlotId.code (some s)) ++ byte continued.toNat ++ leBytes 2 0
  | .lotClose c => c.bytes
  | .event e => padTo 16 (leBytes 2 e.code ++ e.operands)

/-- The 8-byte header: kind, length in 8-byte units, two zero bytes, index count (12.6). -/
def recordHeader (kind length indexCount : Nat) : List Byte :=
  byte kind ++ byte (length / 8) ++ leBytes 2 0 ++ leBytes 4 indexCount

/-- The whole record. -/
def JournalRecord.bytes (r : JournalRecord) : List Byte :=
  recordHeader r.body.kind r.body.length r.indexCount ++ r.body.bytes

end Sys2Proof.Machine
end

