-- ==== Sys2Proof/Machine/Flags.lean ====
section
/-! DEFINITION. What is worked out from the state whenever it is read: availability and room of a bin, the urgency of
a meter, the journal level, the conditions of PERMIT and of the hold causes, the ATTN line, the outputs, the registers
as the host reads them, and the items of the status block. -/

namespace Sys2Proof.Machine

/-! ## Bins (R114) -/

/-- A bin's availability: the first that holds of ABSENT, CLOSED, FULL, OPEN (R114). -/
def BinEntry.availability (b : BinEntry) : Availability :=
  if b.tube = false then .absent
  else if b.closed ≠ .none then .closed
  else if b.full ≠ .clear then .full
  else .opened

/-- A bin can take a new route (R101, R114). -/
def BinEntry.canTake (b : BinEntry) : Bool :=
  (b.availability == .opened) && decide (b.fired + b.pending < b.capacity)

/-- The gate is fitted with a full sensor (R113). -/
def Part.hasFullSensor (p : Part) (n : Nat) : Bool :=
  match p.gbt.items with
  | none => false
  | some i => i.fullSensors.getLsbD n

/-- The stable level of a bin's full input (R188): bits 32 to 63 of the chain. -/
def Part.fullInput (p : Part) (n : Nat) : Bool := p.lct.chain.stable.getLsbD (32 + n)

/-- The stable level of a bin's tube input (R188): bits 0 to 31 of the chain. -/
def Part.tubeInput (p : Part) (n : Nat) : Bool := p.lct.chain.stable.getLsbD n

/-! ## Meters (R63, R66) -/

/-- The urgency that a count gives (R63). -/
def urgencyOf (t : Thresholds) (count : Nat) : Urgency :=
  if count < t.due then .current
  else if count < t.force then .due
  else if count < t.limit then .forced
  else .limit

/-- The urgency is DUE, FORCED or LIMIT (R47). -/
def Urgency.isDue : Urgency → Bool
  | .current => false
  | .due => true
  | .forced => true
  | .limit => true

/-- The urgency is FORCED or LIMIT (R64). -/
def Urgency.isForced : Urgency → Bool
  | .current => false
  | .due => false
  | .forced => true
  | .limit => true

/-- A LIMIT suspension applies (R66). It is worked out from the urgency and the cover alone: a passing opportunistic
take that leaves the urgency at LIMIT with the cover PLACED does not end it, though step 4 of R69 says so of every
pass (log 61). -/
def Part.limitSuspension (p : Part) : Bool :=
  allMeters.any (fun m =>
    p.usedMeter m && ((p.rsc.get m).urgency == .limit) &&
      (((p.rsc.get m).cover == .placed) || ((p.rsc.get m).cover == .issued)))

/-! ## Journal (R161, R166, R169) -/

/-- The distance from `a` forward to `b` on a circle of `size` bytes. -/
def circleDistance (size a b : Nat) : Nat := (b + size - a % size) % size

/-- The unreclaimed byte count: fill less reclaim, mod size (R161). -/
def Jw.unreclaimed (j : Jw) (a : JournalArea) : Nat := circleDistance a.size j.reclaim j.fill

/-- The level that the free bytes give (R169). -/
def JournalArea.levelAt (a : JournalArea) (unreclaimed : Nat) : Nat :=
  let free := a.size - unreclaimed
  if a.t1 ≤ free then 1 else if a.t2 ≤ free then 2 else if a.t3 ≤ free then 4 else 8

/-- The number of places free in the staging queue (R164). -/
def Jw.freePlaces (j : Jw) : Nat := 16 - j.queue.length

/-! ## Load station (R22, R23) -/

/-- The thinning ratio in force: the larger of the forced ratio and the journal level (R23). -/
def Part.thinningRatio (p : Part) : Nat := max p.lcu.forcedRatio p.jw.level

/-- Loading is allowed (R22). -/
def Part.loadingAllowed (p : Part) : Bool :=
  (p.lsq.engine == .run) && decide (p.thinningRatio - 1 ≤ p.lcu.thinning) && (p.lcu.nextSequence != 0) &&
    !p.limitSuspension

/-! ## PERMIT (R14) -/

/-- The three conditions of R14. -/
def Part.permitConditions (p : Part) : Bool :=
  p.lsq.engine.working && p.dt.items.all (fun i => i.state == .complete) && decide (4 ≤ p.jw.freePlaces)

/-! ## Hold conditions (R142) -/

/-- A PRIMARY or SECOND channel is not ONLINE. -/
def Part.meterCondition (p : Part) : Bool :=
  allMeters.any (fun m =>
    (((p.channel m).role == .primary) || ((p.channel m).role == .second)) && ((p.channel m).state != .online))

/-- The condition of a hold cause is present (R142); REQUESTED has no standing condition. -/
def Part.holdCondition (p : Part) : HoldCause → Bool
  | .requested => false
  | .door => p.lct.lines.door.stable
  | .air => p.lct.lines.air.stable
  | .meter => p.meterCondition

/-! ## Lot close (R140) -/

/-- The pocket is in CARRY, ROUTED, SPENT or STRAY. -/
def Pocket.holdsLotOpen : Pocket → Bool
  | .vacant => false
  | .reserved _ => false
  | .carry _ => true
  | .routed _ _ => true
  | .spent _ _ _ => true
  | .stray => true

/-- The conditions of lot close (R140). -/
def Part.closeConditions (p : Part) : Bool :=
  (p.lsq.engine == .drain) && p.dt.pockets.all (fun k => !k.holdsLotOpen) && p.jw.queue.isEmpty

/-! ## Outputs (R190) -/

/-- The ATTN line (R175): a latched cause with its enable set, or HALT latched. -/
def Part.attnLine (p : Part) : Bool := p.attn.cause.getLsbD 0 || ((p.attn.cause &&& p.attn.enable) != 0)

/-- The PERMIT line (R14). -/
def Part.permitLine (p : Part) : Bool := p.dt.permit

/-- The FEED line. -/
def Part.feedLine (p : Part) : Bool := p.lcu.feed != .idle

/-- The CATCH valve. -/
def Part.catchLine (p : Part) : Bool := p.lcu.clearJet != .idle

/-- Gate `n` is fitted: below the gate count of the geometry in force. With no geometry held no count is in force. -/
def Part.gateFitted (p : Part) (n : Nat) : Bool :=
  match p.dt.geometry with
  | none => true
  | some g => decide (n < g.gates.length)

/-- The valve of gate `n`; the outputs of gates at or above the gate count stay low (R129, log 43). -/
def Part.gateLine (p : Part) (n : Nat) : Bool := p.gateFitted n && p.pulse n != .idle

/-- Machine port line `n` (R148). -/
def Part.portLine (p : Part) (n : Nat) : Bool := p.lsq.portLatch.getLsbD n

/-- TRIG of channel `m`: high for the whole of a transfer (R37). -/
def Part.trigLine (p : Part) (m : Meter) : Bool := (p.channel m).link != .idle

/-- The part drives LDAT of channel `m`: during a frame to the meter (R37). -/
def Part.ldatDriven (p : Part) (m : Meter) : Bool :=
  match (p.channel m).link with
  | .idle => false
  | .sending _ => true
  | .receiving _ => false

/-- The level of a clock or strobe output between two commands: low, or pulsing because a transfer that takes several
commands is under way. The single pulses are no state (log 40). -/
inductive ClockLevel where
  | low | pulsing
  deriving DecidableEq, Repr

/-- LCLK of channel `m`: one pulse per bit during a transfer, low otherwise and at once when one is left (R37, R38). -/
def Part.lclkLine (p : Part) (m : Meter) : ClockLevel := if (p.channel m).link = .idle then .low else .pulsing

/-- SLOAD: low between scans; a scan is one command (R188, R190, log 40). -/
def Part.sloadLine (_p : Part) : ClockLevel := .low

/-- SCLK: low between scans; a scan is one command (R188, R190, log 40). -/
def Part.sclkLine (_p : Part) : ClockLevel := .low

/-- HWAIT: a host store cycle is held (R173, R174). -/
def HostPort.waiting (h : HostPort) : Bool := h.cycle != .none

/-! ## Registers (R172) -/

/-- Configure is in progress (R172, R181). -/
def Cfg.inProgress (c : Cfg) : Bool := c.work != .none

/-- CONTROL as read. R172 gives bits 7 to 4 no meaning; they read 0 (log 56). -/
def Part.control (p : Part) : HostWord :=
  BitVec.ofNat 16 (p.lsq.engine.code + 8 * p.cfg.inProgress.toNat + 256 * p.cfg.result.code)

/-- SUMMARY as read. -/
def Part.summary (p : Part) : HostWord :=
  BitVec.ofNat 16 (p.lsq.holds.code + 16 * p.lsq.haltCause.code + 256 * p.lsq.parked.isSome.toNat)

/-- An APERTURE register as read: bit 15 the enable, bits 6 to 0 the page. -/
def Aperture.word (a : Aperture) : HostWord := BitVec.ofNat 16 (a.page.toNat + 0x8000 * a.enabled.toNat)

/-- The register at host address `address` as read (R172); bit 0 of the address is ignored (R171). -/
def State.readRegister (s : State) (address : HostWord) : HostWord :=
  match address.toNat / 2 with
  | 0 => 0x3240
  | 1 => s.part.control
  | 2 => s.part.attn.cause.setWidth 16
  | 3 => s.part.attn.enable.setWidth 16
  | 4 => s.hp.aperture1.word
  | 5 => s.hp.aperture2.word
  | 6 => s.hp.aperture3.word
  | _ => s.part.summary

/-! ## The status block (12.3, R180, R193) -/

/-- Where the item lies, from the start of the status block. -/
def StatusItem.offset : StatusItem → Nat
  | .engine => 0x00
  | .lotMode => 0x01
  | .holdSet => 0x02
  | .haltCause => 0x03
  | .parked => 0x04
  | .configResult => 0x05
  | .failingStation => 0x06
  | .portLatch => 0x07
  | .lotNumber => 0x08
  | .nextSequence => 0x0C
  | .planSlot .a => 0x10
  | .planSlot .b => 0x18
  | .loadSlot => 0x20
  | .switchTarget => 0x21
  | .switchSequence => 0x24
  | .channel m => 0x28 + 2 * m.val
  | .bin n => 0x30 + 8 * n.val

/-- The store address of the status block. -/
def statusBase : Nat := 0x000200

/-- The store address of the item. -/
def StatusItem.address (i : StatusItem) : Nat := statusBase + i.offset

/-- A slot's item: state, row count, two zero bytes, plan id; rows and id are 0 unless STAGED (R193). -/
def PlanSlot.bytes (s : PlanSlot) : List Byte :=
  match s.state, s.plan with
  | .staged, some plan => byte s.state.code ++ byte plan.rows.length ++ leBytes 2 0 ++ leBytes 4 plan.id
  | _, _ => byte s.state.code ++ byte 0 ++ leBytes 2 0 ++ leBytes 4 0

/-- A bin's item. -/
def BinEntry.bytes (b : BinEntry) : List Byte :=
  byte b.availability.code ++ byte 0 ++ leBytes 2 b.tubeNumber ++ leBytes 2 b.fired ++ leBytes 2 b.pending

/-- The value of an item as the state has it (12.3). -/
def Part.statusBytes (p : Part) : StatusItem → List Byte
  | .engine => byte p.lsq.engine.code
  | .lotMode => byte p.lsq.lotMode.code
  | .holdSet => byte p.lsq.holds.code
  | .haltCause => byte p.lsq.haltCause.code
  | .parked => byte p.lsq.parked.isSome.toNat
  | .configResult => byte p.cfg.result.code
  | .failingStation => byte (optionCode (p.cfg.failing.map Fin.val))
  | .portLatch => [p.lsq.portLatch]
  | .lotNumber => leBytes 4 ((p.lsq.lot.map Lot.number).getD 0)
  | .nextSequence => leBytes 4 p.lcu.nextSequence
  | .planSlot s => (p.ps.slot s).bytes
  | .loadSlot => byte (SlotId.code p.ps.loadSlot)
  | .switchTarget => byte (SlotId.code (p.ps.pendingSwitch.map PendingSwitch.slot))
  | .switchSequence => leBytes 4 ((p.ps.pendingSwitch.map PendingSwitch.sequence).getD 0)
  | .channel m => byte (p.channel m).state.code ++ byte (p.rsc.get m).urgency.code
  | .bin n => (p.bin n.val).bytes

end Sys2Proof.Machine
end

