-- ==== Sys2Proof/Machine/Status.lean ====
section
/-! DEFINITION. The changes that the status block mirrors (R180): the operations that replace what an item shows, each
noting the item where its value changes, and the filing of the STATUS writes. -/

namespace Sys2Proof.Machine

/-! ## Noting a change -/

/-- `q`, with those of `items` noted whose value it has and `p` has not, as one change (R180, R193). -/
def Part.noteChanges (items : List StatusItem) (p q : Part) : Part :=
  { q with changed := q.changed ++ items.filter (fun i => p.statusBytes i != q.statusBytes i) }

/-- `q`, which one change has made of `p`: the items that change together are noted in the order of the table, instead
of the single ones noted on the way (R180, R193). -/
def Part.asOneChange (p q : Part) : Part :=
  Part.noteChanges StatusItem.all p { q with changed := p.changed }

/-- The item of bin `n`. -/
def binItem (n : Nat) : List StatusItem := if h : n < 32 then [.bin ⟨n, h⟩] else []

/-! ## The operations that replace what an item shows -/

/-- Replace channel `m`; its state is mirrored (R59). -/
def Part.setChannel (p : Part) (m : Meter) (c : Channel) : Part :=
  Part.noteChanges [.channel m] p { p with mc := { p.mc with channels := p.mc.channels.set m c } }

/-- Replace the RSC entry of meter `m`; its urgency is mirrored (R63). -/
def Part.setRef (p : Part) (m : Meter) (r : RefMeter) : Part :=
  Part.noteChanges [.channel m] p { p with rsc := p.rsc.set m r }

/-- Replace bin `n`; its availability, tube number, fired and pending counts are mirrored (R129). -/
def Part.setBin (p : Part) (n : Nat) (b : BinEntry) : Part :=
  Part.noteChanges (binItem n) p { p with gbt := { p.gbt with bins := p.gbt.bins.set n b } }

/-- The next sequence number becomes `n`; it is mirrored (R19). -/
def Part.setNextSequence (p : Part) (n : Nat) : Part :=
  Part.noteChanges [.nextSequence] p { p with lcu := { p.lcu with nextSequence := n } }

/-- Replace the Plan Store's state; its slots, load slot and pending switch are mirrored (R90). -/
def Part.setPs (p : Part) (x : Ps) : Part :=
  Part.noteChanges [.planSlot .a, .planSlot .b, .loadSlot, .switchTarget, .switchSequence] p { p with ps := x }

/-- Replace the Lot Sequencer's state; the items of R151 are mirrored. -/
def Part.setLsq (p : Part) (x : Lsq) : Part :=
  Part.noteChanges [.engine, .lotMode, .holdSet, .haltCause, .parked, .portLatch, .lotNumber] p { p with lsq := x }

/-- Replace the configure indicator, result and failing station; the last two are mirrored (R180). -/
def Part.setCfg (p : Part) (x : Cfg) : Part :=
  Part.noteChanges [.configResult, .failingStation] p { p with cfg := x }

/-! ## Filing the writes (R180) -/

/-- A write of the item joins the STATUS queue, unless one of the item still waits: that one keeps its place and will
carry the new value (R180). -/
def requestItem (queue : List StatusRequest) (i : StatusItem) : List StatusRequest :=
  if queue.any (fun r => r.item == i) then queue else queue ++ [{ item := i, holdsRead := false }]

/-- Writes of the items are requested, in this order. -/
def Part.requestItems (p : Part) (items : List StatusItem) : Part :=
  { p with sa := { p.sa with status := items.foldl requestItem p.sa.status } }

/-- The status items whose value differs between `p` and `q`, in the order of the table. -/
def Part.alteredItems (p q : Part) : List StatusItem :=
  StatusItem.all.filter (fun i => p.statusBytes i != q.statusBytes i)

/-- The items to write after a command that took the part from `before` to `after`: those noted at its changes, in the
order of the changes, and then any other whose value differs. The operations above leave no such other; it stands here
so that a difference without a write is ruled out at a glance. -/
def Part.itemsDue (before after : Part) : List StatusItem :=
  after.changed.drop before.changed.length ++ Part.alteredItems before after

/-- The STATUS writes of a command's changes are requested (R180). -/
def Part.requestChanged (before after : Part) : Part :=
  { after.requestItems (Part.itemsDue before after) with changed := before.changed }

end Sys2Proof.Machine
end

