-- ==== Sys2Proof/Machine/Operands.lean ====
section
/-! DEFINITION. Where operands come from: the arguments of the current request (12.4, R194), the translation of a host
address (R171), the fields of a REPORT frame (12.8), of the configuration block (12.2), of the plan image (12.5) and of
the lot context (12.7). -/

namespace Sys2Proof.Machine

/-! ## Arguments of a request (R156, R194) -/

/-- The argument field of `size` bytes at slot offset `off`; the arguments begin at slot byte 4. -/
def CurrentRequest.arg (c : CurrentRequest) (off size : Nat) : Nat := fieldAt c.args (off - 4) size

/-- A plan-slot argument: 1 names A, 2 names B (R191, R192). -/
def slotOfCode : Nat → Option SlotId
  | 1 => some .a
  | 2 => some .b
  | _ => none

/-- The current request, not yet begun, whose kind is `kind`. -/
def Part.requestOfKind (p : Part) (kind : Nat) : Option CurrentRequest :=
  match p.rqx.current with
  | none => none
  | some c => if c.kind = kind ∧ c.executing = false then some c else none

/-- The argument field of the current request; 0 with none. -/
def Part.arg (p : Part) (off size : Nat) : Nat :=
  match p.rqx.current with
  | none => 0
  | some c => c.arg off size

/-! ## Host addresses (R171) -/

/-- What a host address reaches. -/
inductive HostTarget where
  | registers
  | disabled
  | store (a : StoreAddr)
  deriving DecidableEq, Repr

/-- The aperture at `base` translates `address`, or is disabled. -/
def Aperture.translate (ap : Aperture) (address base : Nat) : HostTarget :=
  if ap.enabled then .store (BitVec.ofNat 21 (ap.page.toNat * 0x4000 + (address - base))) else .disabled

/-- The translation of a host address; bit 0 is ignored (R171). -/
def HostPort.translate (h : HostPort) (address : HostWord) : HostTarget :=
  let a := 2 * (address.toNat / 2)
  if a < 0x10 then .registers
  else if a < 0x4000 then .store (BitVec.ofNat 21 a)
  else if a < 0x8000 then h.aperture1.translate a 0x4000
  else if a < 0xC000 then h.aperture2.translate a 0x8000
  else h.aperture3.translate a 0xC000

/-! ## REPORT frames (12.8) -/

/-- The bytes sum to 0 modulo 256 (R40, test 1). -/
def reportSumOk (f : List Byte) : Bool := byteSum f == 0

/-- The status named by the status byte, if it is one of the three (R40, test 2). -/
def reportStatus (f : List Byte) : Option ReadingStatus :=
  match fieldAt f 4 1 with
  | 0 => some .good
  | 1 => some .over
  | 2 => some .opened
  | _ => none

/-- The deviation of a REPORT. -/
def reportDeviation (f : List Byte) : Int := signedAt f 5

/-- The greatest magnitude of a deviation (R5). -/
def maxDeviation : Nat := 9999999

/-- Test 3 of R40: with GOOD or OVER, the deviation lies in range. -/
def reportRangeOk (f : List Byte) (s : ReadingStatus) : Bool :=
  !(s == .good || s == .over) || decide ((reportDeviation f).natAbs ≤ maxDeviation)

/-- The deviation that a report with status `s` carries: present with GOOD or OVER (R39). -/
def reportCarried (f : List Byte) (s : ReadingStatus) : Option Int :=
  if s == .good || s == .over then some (reportDeviation f) else none

/-- The kind, pocket and serial of a REPORT are these (R40). -/
def reportTagIs (f : List Byte) (kind pocket serial : Nat) : Bool :=
  fieldAt f 0 1 == kind && fieldAt f 1 1 == pocket && fieldAt f 2 2 == serial

/-- The kind byte of a take (12.8). -/
def TakeKind.code : TakeKind → Nat
  | .take => 2
  | .refer => 3

/-! ## The configuration block (12.2) -/

namespace Block

def pocketCount (b : List Byte) : Nat := fieldAt b 0x00 2
def decision (b : List Byte) : Nat := fieldAt b 0x02 1
def clear (b : List Byte) : Nat := fieldAt b 0x03 1
def gateCount (b : List Byte) : Nat := fieldAt b 0x04 1
def jam (b : List Byte) : IntervalCode := BitVec.ofNat 8 (fieldAt b 0x05 1)
def feedTimeout (b : List Byte) : IntervalCode := BitVec.ofNat 8 (fieldAt b 0x06 1)
def catchPulse (b : List Byte) : IntervalCode := BitVec.ofNat 8 (fieldAt b 0x07 1)
def roleCode (b : List Byte) (m : Meter) : Nat := fieldAt b (0x08 + 2 * m.val) 1
def position (b : List Byte) (m : Meter) : Nat := fieldAt b (0x09 + 2 * m.val) 1
def starvation (b : List Byte) : IntervalCode := BitVec.ofNat 8 (fieldAt b 0x10 1)
def takeTimeout (b : List Byte) : IntervalCode := BitVec.ofNat 8 (fieldAt b 0x11 1)
def ejectPulse (b : List Byte) : IntervalCode := BitVec.ofNat 8 (fieldAt b 0x12 1)
def missLimit (b : List Byte) : Nat := fieldAt b 0x13 1
def capacity (b : List Byte) : Nat := fieldAt b 0x14 2
def age (b : List Byte) : IntervalCode := BitVec.ofNat 8 (fieldAt b 0x16 1)
def scanCount (b : List Byte) : Nat := fieldAt b 0x17 1 % 16
def fullSensors (b : List Byte) : BitVec 32 := BitVec.ofNat 32 (fieldAt b 0x18 4)
def requestBase (b : List Byte) : Nat := fieldAt b 0x1C 4
def journalBase (b : List Byte) : Nat := fieldAt b 0x20 4
def journalSize (b : List Byte) : Nat := fieldAt b 0x24 4
def t1 (b : List Byte) : Nat := fieldAt b 0x28 4
def t2 (b : List Byte) : Nat := fieldAt b 0x2C 4
def t3 (b : List Byte) : Nat := fieldAt b 0x30 4
def backlog (b : List Byte) : Nat := fieldAt b 0x34 4
def preset (b : List Byte) (i : Nat) : Byte := BitVec.ofNat 8 (fieldAt b (0x38 + i) 1)
def lineByte (b : List Byte) (i : Nat) : Nat := fieldAt b (0x3C + i) 1
def due (b : List Byte) (m : Meter) : Nat := fieldAt b (0x44 + 8 * m.val) 2
def force (b : List Byte) (m : Meter) : Nat := fieldAt b (0x46 + 8 * m.val) 2
def limit (b : List Byte) (m : Meter) : Nat := fieldAt b (0x48 + 8 * m.val) 2
def drift (b : List Byte) (m : Meter) : Nat := fieldAt b (0x4A + 8 * m.val) 2
def gate (b : List Byte) (n : Nat) : Nat := fieldAt b (0x64 + n) 1

/-- The role that a role code names (R191); a code above 3 fails check 2 of R2 and is never applied. -/
def roleOfCode : Nat → Role
  | 1 => .primary
  | 2 => .second
  | 3 => .backup
  | _ => .unused

/-- The station is used. -/
def used (b : List Byte) (m : Meter) : Bool := roleCode b m != 0

/-- The used meters, in station order. -/
def usedMeters (b : List Byte) : List Meter := allMeters.filter (used b)

/-- The positions of the used stations, in station order. -/
def usedPositions (b : List Byte) : List Nat := (usedMeters b).map (position b)

/-- The gate positions. -/
def gates (b : List Byte) : List Nat := (List.range (gateCount b)).map (gate b)

/-- The stations; an UNUSED station's position field is ignored (R1). -/
def stations (b : List Byte) : Four Station :=
  (Four.mk (0 : Meter) 1 2 3).map fun m =>
    { role := roleOfCode (roleCode b m), position := if used b m then position b m else 0 }

/-- The geometry of the block. -/
def geometry (b : List Byte) : Geometry :=
  { pockets := pocketCount b, stations := stations b, decision := decision b, gates := gates b, clear := clear b,
    jam := jam b }

/-- The thresholds of meter `m`. -/
def thresholds (b : List Byte) (m : Meter) : Thresholds :=
  { due := due b m, force := force b m, limit := limit b m, drift := drift b m }

end Block

/-- The configuration block's place in the store (12.2). -/
def configBase : Nat := 0x000040

/-- The configuration block's length (12.2). -/
def configLength : Nat := 132

/-! ## The plan image (12.5) -/

namespace Image

def id (b : List Byte) : Nat := fieldAt b 0 4
def rowCount (b : List Byte) : Nat := fieldAt b 4 1

/-- A bin field: 255 marks the bin as absent (R74). -/
def binOfCode (c : Nat) : Option Nat := if c = 255 then none else some c

def reject (b : List Byte) : Option Nat := binOfCode (fieldAt b 5 1)
def fail (b : List Byte) : Option Nat := binOfCode (fieldAt b 6 1)
def spread (b : List Byte) : Option Nat := binOfCode (fieldAt b 7 1)
def overflow (b : List Byte) : Option Nat := binOfCode (fieldAt b 8 1)

/-- Only bit 0 of the spread check byte is read (R192). -/
def spreadCheck (b : List Byte) : Bool := fieldAt b 9 1 % 2 == 1

def spreadLimit (b : List Byte) : Nat := fieldAt b 12 4
def low (b : List Byte) (r : Nat) : Int := signedAt b (32 + 16 * r)
def high (b : List Byte) (r : Nat) : Int := signedAt b (36 + 16 * r)
def target (b : List Byte) (r : Nat) : Nat := fieldAt b (40 + 16 * r) 1
def alternateCount (b : List Byte) (r : Nat) : Nat := fieldAt b (41 + 16 * r) 1

/-- The alternates that the alternate count includes (R75). -/
def alternates (b : List Byte) (r : Nat) : List Nat :=
  [fieldAt b (42 + 16 * r) 1, fieldAt b (43 + 16 * r) 1].take (alternateCount b r)

/-- Row `r`. -/
def row (b : List Byte) (r : Nat) : PlanRow :=
  { low := low b r, high := high b r, target := target b r, alternates := alternates b r }

/-- The plan of the image; the spread limit is not read with the check disabled (R74). -/
def plan (b : List Byte) : Plan :=
  { id := id b, reject := reject b, fail := fail b, spread := spread b, overflow := overflow b,
    spreadCheck := spreadCheck b, spreadLimit := if spreadCheck b then spreadLimit b else 0,
    rows := (List.range (rowCount b)).map (row b) }

/-- The length of the image with the row count its header holds (R80). -/
def length (b : List Byte) : Nat := 32 + 16 * rowCount b

end Image

/-! ## The lot context (12.7) -/

namespace Context

def lot (b : List Byte) : Nat := fieldAt b 0 4
def nextSequence (b : List Byte) : Nat := fieldAt b 4 4

/-- The nine counters. -/
def counters (b : List Byte) : LotCounters :=
  { loaded := fieldAt b 8 4, ejected := fieldAt b 12 4, caught := fieldAt b 16 4, missed := fieldAt b 20 4,
    lost := fieldAt b 24 4, stray := fieldAt b 28 4, loadLoss := fieldAt b 32 4, lateReadings := fieldAt b 36 4,
    staleReports := fieldAt b 40 4 }

end Context

end Sys2Proof.Machine
end

