-- ==== Sys2Proof/Machine/Records.lean ====
section
/-! DEFINITION. What the blocks share: handing a record to the Journal Writer (R164), filing store requests (R177),
completing a work item (R10), and ending a request (R157, R159, R194). -/

namespace Sys2Proof.Machine

/-! ## Records (R163, R164) -/

/-- The index count of a record handed now: the dwell number, or 0 while no geometry is held (R163). -/
def Part.indexCount (p : Part) : Nat :=
  match p.dt.geometry with
  | none => 0
  | some _ => p.dt.dwell

/-- Hand a record to the JW (R164): it joins the staging queue, or waits behind a full one, with the CLEAR item whose
completion its acceptance brings. While no journal area is held it is discarded (R161). -/
def Part.handOffFor (p : Part) (body : RecordBody) (clearDwell : Option Nat) : Part :=
  let r : JournalRecord := { body, indexCount := p.indexCount }
  match p.jw.area with
  | none => p
  | some _ =>
    if p.jw.queue.length < 16 ∧ p.jw.waiting = [] then { p with jw := { p.jw with queue := p.jw.queue ++ [r] } }
    else { p with jw := { p.jw with waiting := p.jw.waiting ++ [{ record := r, clearDwell }] } }

/-- Hand a record on whose acceptance no item waits. -/
def Part.handOff (p : Part) (body : RecordBody) : Part := p.handOffFor body none

/-- Hand an EVENT record. -/
def Part.event (p : Part) (e : Event) : Part := p.handOff (.event e)

/-! ## Store requests (R177) -/

/-- Cells grouped by 32-byte coherency block, in address order. -/
def splitBlocks : List Host.Cell → List (List Host.Cell)
  | [] => []
  | c :: rest =>
    match splitBlocks rest with
    | (d :: ds) :: more => if c.1 / 32 = d.1 / 32 then (c :: d :: ds) :: more else [c] :: (d :: ds) :: more
    | _ => [[c]]

/-- The write requests of one access: one per block (R177). -/
def writeRequests (cells : List Host.Cell) (effect : WriteEffect) : List StoreRequest :=
  (splitBlocks cells).map (fun cs => .write cs effect false)

/-- The read requests of `n` bytes from `a`: one per block, in address order (R177). -/
def readRequests (a n : Nat) (owner : ReadOwner) : List StoreRequest :=
  (List.range ((a % 32 + n + 31) / 32)).map fun i =>
    let first := max a (32 * (a / 32 + i))
    let last := min (a + n) (32 * (a / 32 + i + 1))
    .read first (last - first) owner

/-- File requests of class JOURNAL. -/
def Part.fileJournal (p : Part) (rs : List StoreRequest) : Part :=
  { p with sa := { p.sa with journal := p.sa.journal ++ rs } }

/-- File requests of class REQUEST. -/
def Part.fileRequest (p : Part) (rs : List StoreRequest) : Part :=
  { p with sa := { p.sa with request := p.sa.request ++ rs } }

/-- File requests of class BULK. -/
def Part.fileBulk (p : Part) (rs : List StoreRequest) : Part :=
  { p with sa := { p.sa with bulk := p.sa.bulk ++ rs } }

/-! ## Work items (R9, R10) -/

/-- An item of this kind that is STARTED becomes COMPLETE. -/
def Item.complete (k : ItemKind) (i : Item) : Item :=
  if i.kind = k ∧ i.state = .started then { i with state := .complete } else i

/-- An owner reports an item complete with the dwell number it carries; an earlier number updates nothing (R10). -/
def Part.completeItem (p : Part) (k : ItemKind) (dwell : Nat) : Part :=
  if dwell = p.dt.dwell then { p with dt := { p.dt with items := p.dt.items.map (Item.complete k) } } else p

/-! ## Ends of requests (R157, R159, R194) -/

/-- The result of a request: code, result word, and the result extension where the kind has one. -/
structure Result where
  code : ResultCode
  word : Nat := 0
  extension : Option (List Byte) := none
  deriving DecidableEq, Repr

/-- The bytes of a result extension whose fields lie four bytes apart: the byte that 12.4 gives a field (R194) is the
low byte of its number, and the three behind it, up to the next field, carry the rest of the number, low byte first,
since the result carries the number (R84, R137, R138; log 45). -/
def extensionFields (fields : List Nat) : List Byte := fields.flatMap (leBytes 4)

/-- The bytes of the result write (12.4, R194): the code and the word at slot bytes 24 to 31, and the extension, filled
with zeros, over bytes 8 to 23. -/
def Result.cells (r : Result) (address : Nat) : List Host.Cell :=
  (match r.extension with
   | none => []
   | some bs => cellsAt (address + 8) (padTo 16 bs)) ++
    cellsAt (address + 24) (leBytes 2 r.code.code ++ leBytes 2 0 ++ leBytes 4 r.word)

/-- The two writes that end a slot: the result, then DONE (R157). -/
def Result.writes (r : Result) (address : Nat) (notify : Bool) (effect : WriteEffect) : List StoreRequest :=
  writeRequests (r.cells address) effect ++ writeRequests (cellsAt address (leBytes 2 3)) (.done notify)

/-- End the current request with a result whose write has the effect given (R157). -/
def Part.endRequestAs (p : Part) (r : Result) (effect : Nat → WriteEffect) : Part :=
  match p.rqx.current with
  | none => p
  | some c =>
    { p.fileRequest (r.writes c.address c.notify (effect c.address)) with
      rqx := { p.rqx with current := none } }

/-- End the current request (R157). -/
def Part.endRequest (p : Part) (r : Result) : Part := p.endRequestAs r (fun _ => .plain)

/-- End the parked request (R159): its slot's result and DONE; the parked reference becomes none. -/
def Part.endParked (p : Part) (r : Result) : Part :=
  match p.rqx.parkedRef with
  | none => p
  | some k => { p.fileRequest (r.writes k.address k.notify .plain) with rqx := { p.rqx with parkedRef := none } }

/-- Park the current request: its slot stays TAKEN and becomes the parked reference (R159). -/
def Part.parkCurrent (p : Part) : Part :=
  match p.rqx.current with
  | none => p
  | some c =>
    { p with rqx := { p.rqx with current := none, parkedRef := some { address := c.address, notify := c.notify } } }

/-- The current request's owner has begun work that holds the RQX (R158). -/
def Part.beginWork (p : Part) : Part :=
  match p.rqx.current with
  | none => p
  | some c => { p with rqx := { p.rqx with current := some { c with executing := true } } }

end Sys2Proof.Machine
end

