-- ==== Sys2Proof/Machine/Sequencer.lean ====
section
/-! DEFINITION. The engine state and what moves it: the entries of R148, the hold causes (R142, R143), the halt causes
(R146). -/

namespace Sys2Proof.Machine

/-- Enter an engine state: the port latch takes the entry's preset (R148); the starvation timer starts as the engine
enters RUN and is cancelled as it leaves RUN (R29). Entry into IDLE leaves the latch. -/
def Part.enterEngine (p : Part) (e : EngineState) : Part :=
  let before := p.lsq.engine
  let latch : Byte :=
    match p.lsq.presets, e with
    | some v, .run => v.run
    | some v, .drain => v.run
    | some v, .hold => v.hold
    | some v, .halt => v.halt
    | _, _ => p.lsq.portLatch
  let q := p.setLsq { p.lsq with engine := e, portLatch := latch }
  if e = .run then (if before = .run then q else q.startStarvation)
  else if before = .run then q.setStarvation .stopped
  else q

/-- A hold cause joins the set, with its EVENT; one already in the set is not added twice (R142). -/
def Part.addHoldCause (p : Part) (c : HoldCause) : Part :=
  if p.lsq.holds.has c then p
  else
    (p.setLsq { p.lsq with holds := p.lsq.holds.insert c }).event (.holdCause c p.lsq.engine p.dt.offset)

/-- The engine enters HOLD, with the entry's EVENT (R143). -/
def Part.enterHold (p : Part) : Part :=
  let q := p.enterEngine .hold
  q.event (.holdEntered q.lsq.holds q.lsq.lotMode q.dt.offset)

/-- With a cause in the set, the engine enters HOLD from RUN or DRAIN (R143). -/
def Part.settleHold (p : Part) : Part :=
  if p.lsq.engine.working ∧ p.lsq.holds.isEmpty = false then p.enterHold else p

/-- The condition of a hold cause has become present: in RUN, DRAIN, HOLD or HALT the cause joins (R142), and then, from
RUN or DRAIN, the engine enters HOLD (R143). The two are two changes of the status block, the hold set's first: whether
they change together (R193) is left open (log 58). -/
def Part.raiseHold (p : Part) (c : HoldCause) : Part :=
  if p.lsq.engine.inLot then (p.addHoldCause c).settleHold else p

/-- The LSQ is told of a channel's new state (R59): cause METER is raised while its condition is present. -/
def Part.tellChannelState (p : Part) : Part := if p.meterCondition then p.raiseHold .meter else p

/-- The DT raises a halt cause in RUN, DRAIN or HOLD (R146). The entry into HALT is one change of the status block. -/
def Part.raiseHalt (p : Part) (c : HaltCause) : Part :=
  let before := p.lsq.engine
  if before = .run ∨ before = .drain ∨ before = .hold then
    let q := (Part.asOneChange p ((p.setLsq { p.lsq with haltCause := c }).enterEngine .halt)).latch .halt
    q.event (.haltEntered c before q.dt.offset q.dt.dwell)
  else p

end Sys2Proof.Machine
end

