-- ==== Sys2Proof/Machine/Claims.lean ====
section
/-! DEFINITION. Claims on the pocket table: reading, serial and no-take claims (R6, R49, R50), and the routing of
pockets to CATCH by ABORT LOT and purge (R8). -/

namespace Sys2Proof.Machine

/-- The part that the pocket carries, if any (R4). -/
def Pocket.part : Pocket → Option PartRecord
  | .vacant => none
  | .reserved _ => none
  | .carry x => some x
  | .routed x _ => some x
  | .spent x _ _ => some x
  | .stray => none

/-- Change the reading entries of the pocket, where it has any. -/
def Pocket.mapReadings (f : List Reading → List Reading) : Pocket → Pocket
  | .vacant => .vacant
  | .reserved s => .reserved s
  | .carry x => .carry { x with readings := f x.readings }
  | .routed x r => .routed { x with readings := f x.readings } r
  | .spent x r t => .spent { x with readings := f x.readings } r t
  | .stray => .stray

/-- The pocket is CARRY. -/
def Pocket.isCarry : Pocket → Bool
  | .carry _ => true
  | .vacant => false
  | .reserved _ => false
  | .routed _ _ => false
  | .spent _ _ _ => false
  | .stray => false

/-- The reading entries of the pocket; none where it has none. -/
def Pocket.readings (k : Pocket) : List Reading :=
  match k.part with
  | none => []
  | some x => x.readings

/-- The entry of station `m` (R5: no station appears twice). -/
def Pocket.entry (k : Pocket) (m : Meter) : Option Reading := k.readings.find? (fun r => r.station == m)

/-- Change the entry of station `m`. -/
def updateEntry (m : Meter) (f : Reading → Reading) (rs : List Reading) : List Reading :=
  rs.map (fun r => if r.station = m then f r else r)

/-- Write the entry of station `m` in pocket `k`. -/
def Part.writeEntry (p : Part) (k : Nat) (m : Meter) (f : Reading → Reading) : Part :=
  p.setPocket k ((p.pocket k).mapReadings (updateEntry m f))

/-- A reading claim (R6): stale, written, or written late. -/
def Part.readingClaim (p : Part) (k : Nat) (m : Meter) (serial : Nat) (status : ReadingStatus)
    (deviation : Option Int) : Part :=
  let matched : Bool :=
    match (p.pocket k).entry m with
    | none => false
    | some r => r.serial == some serial
  if matched = false then
    (p.event (.staleReport k m serial p.dt.offset)).countLot
      (fun c => { c with staleReports := countUp c.staleReports })
  else if (p.pocket k).isCarry then p.writeEntry k m (fun r => { r with status, deviation })
  else
    (p.writeEntry k m (fun r => { r with status, deviation, late := true })).countLot
      (fun c => { c with lateReadings := countUp c.lateReadings })

/-- A serial claim (R50): the entry takes the take serial. -/
def Part.serialClaim (p : Part) (k : Nat) (m : Meter) (serial : Nat) : Part :=
  p.writeEntry k m (fun r => { r with serial := some serial })

/-- A no-take claim (R49): applied on a CARRY pocket whose entry is PENDING with no serial, discarded otherwise. -/
def Part.noTakeClaim (p : Part) (k : Nat) (m : Meter) (status : ReadingStatus) : Part :=
  if (p.pocket k).isCarry then
    match (p.pocket k).entry m with
    | some r => if r.status = .pending ∧ r.serial = none then p.writeEntry k m (fun r => { r with status }) else p
    | none => p
  else p

/-! ## Pending counts and routing to CATCH (R8, R115) -/

/-- The pending count of bin `n` rises by 1. -/
def Part.raisePending (p : Part) (n : Nat) : Part :=
  p.setBin n { p.bin n with pending := (p.bin n).pending + 1 }

/-- The pending count of bin `n` falls by 1. -/
def Part.releasePending (p : Part) (n : Nat) : Part :=
  p.setBin n { p.bin n with pending := (p.bin n).pending - 1 }

/-- Route pocket `k` to CATCH for `reason`, where it is CARRY or ROUTED to a gate (R8); the count of pockets routed
rises. -/
def catchPocket (reason : Reason) (acc : Part × Nat) (k : Nat) : Part × Nat :=
  match acc.1.pocket k with
  | .carry x => (acc.1.setPocket k (.routed x { row := none, route := .toCatch, reason }), acc.2 + 1)
  | .routed x r =>
    match r.route with
    | .gate n => ((acc.1.releasePending n).setPocket k (.routed x { r with route := .toCatch, reason }), acc.2 + 1)
    | .toCatch => acc
  | .vacant => acc
  | .reserved _ => acc
  | .spent _ _ _ => acc
  | .stray => acc

/-- Route every CARRY pocket and every pocket ROUTED to a gate to CATCH, and count them: one change (R138, R147). -/
def Part.catchAll (p : Part) (reason : Reason) : Part × Nat :=
  let r := (List.range p.dt.pockets.length).foldl (catchPocket reason) (p, 0)
  (Part.asOneChange p r.1, r.2)

end Sys2Proof.Machine
end

