-- ==== Sys2Proof/Machine/Reference.lean ====
section
/-! DEFINITION. The Reference Scheduler (chapter 4): counts, urgency, cover, owed meters, and the verdict on a reference
result, with the channel's entry into SUSPECT that a failed one brings (R58). -/

namespace Sys2Proof.Machine

/-- Name meter `m` owed to the LCU when its cover is NONE, its urgency FORCED or LIMIT and its channel ONLINE (R64). -/
def Part.nameOwed (p : Part) (m : Meter) : Part :=
  let r := p.rsc.get m
  if p.usedMeter m ∧ r.cover = .none ∧ r.urgency.isForced ∧ (p.channel m).state = .online then
    { p.setRef m { r with cover := .pending } with lcu := { p.lcu with pendingSet := p.lcu.pendingSet.insert m } }
  else p

/-- The entry with its count changed and its urgency worked out again (R63). -/
def RefMeter.withCount (r : RefMeter) (n : Nat) : RefMeter :=
  match r.thresholds with
  | none => { r with count := n }
  | some t => { r with count := n, urgency := urgencyOf t n }

/-- One more product take sent since this reference take (R62). -/
def RefEntry.rise (e : RefEntry) : RefEntry := { e with since := e.since + 1 }

/-- The entry after a product take: the count rises, and the count of each reference take in flight (R62). -/
def RefMeter.productSent (r : RefMeter) : RefMeter :=
  RefMeter.withCount { r with refs := r.refs.map RefEntry.rise } (r.count + 1)

/-- A product take of meter `m` has been sent (R62). -/
def Part.productTakeSent (p : Part) (m : Meter) : Part := (p.setRef m (p.rsc.get m).productSent).nameOwed m

/-- A reference take of meter `m` has been sent on pocket `k`; `reserved` says the meter was in the pocket's reservation
set (R65, R67). -/
def Part.referenceTakeSent (p : Part) (m : Meter) (k : Nat) (reserved : Bool) : Part :=
  let r := p.rsc.get m
  let cover := if reserved ∧ r.cover = .placed then Cover.issued else r.cover
  let kind := if reserved then RefKind.reserved else RefKind.opportunistic
  p.setRef m { r with cover, refs := r.refs ++ [{ pocket := k, kind, since := 0 }] }

/-- The pending set has been placed on a reservation: each of its meters' cover becomes PLACED (R65). -/
def Part.coverPlaced (p : Part) (set : MeterSet) : Part :=
  { p with rsc := Four.zipWith (fun (inSet : Bool) (r : RefMeter) =>
      if inSet ∧ r.cover = .pending then { r with cover := .placed } else r) set p.rsc }

/-- The meters left in a settled or withdrawn reservation join the pending set, and their cover becomes PENDING
(R25, R65). -/
def Part.rejoinPending (p : Part) (set : MeterSet) : Part :=
  { p with
    rsc := Four.zipWith (fun (inSet : Bool) (r : RefMeter) =>
      if inSet ∧ r.cover = .placed then { r with cover := .pending } else r) set p.rsc
    lcu := { p.lcu with pendingSet := p.lcu.pendingSet.union set } }

/-- Count set by a successful setup (R73): LIMIT, or unchanged for a channel that START LOT found ONLINE. -/
def Part.countAfterSetup (p : Part) (m : Meter) (asker : SetupAsker) (before : ChannelState) : Part :=
  let r := p.rsc.get m
  let q :=
    if asker = .startLot ∧ before = .online then p
    else
      match r.thresholds with
      | none => p
      | some t => p.setRef m (r.withCount t.limit)
  q.nameOwed m

/-! ## Take timer and pending take, as far as the RSC's verdict reaches them -/

/-- The tag's acquisition has not ended. -/
def Tag.acquisitionOpen (t : Tag) : Bool :=
  match t.stage with
  | .sent => true
  | .acquiring => true
  | .converting => false

/-- The channel has a take sent whose acquisition has not ended (R51). -/
def Channel.acquisitionOpen (c : Channel) : Bool := c.queue.any Tag.acquisitionOpen

/-- Outside SETUP the take timer runs while an acquisition is open or a take waits; otherwise it is stopped (R51). -/
def Part.settleTakeTimer (p : Part) (m : Meter) : Part :=
  if (p.channel m).acquisitionOpen ∨ (p.channel m).pendingTake.isSome then p else p.setTakeTimer m .stopped

/-- Withdraw the pending take, with a FAULT no-take claim where it is a product take (R56, R58). -/
def Part.withdrawFaulted (p : Part) (m : Meter) : Part :=
  match (p.channel m).pendingTake with
  | none => p
  | some t =>
    let q := p.setChannel m { p.channel m with pendingTake := none }
    match t.kind with
    | .take => q.noTakeClaim t.pocket m .fault
    | .refer => q

/-- Channel `m` enters SUSPECT (R58): the tags stay, the pending take is withdrawn and its item completes. -/
def Part.suspect (p : Part) (m : Meter) : Part :=
  let waited := (p.channel m).pendingTake
  let q := (p.setChannel m { p.channel m with state := .suspect }).withdrawFaulted m
  let q :=
    match waited with
    | none => q
    | some t => (q.completeItem (.take m) t.dwell).settleTakeTimer m
  q.tellChannelState

/-! ## Verdicts (R68 to R72) -/

/-- The verdict on a result (R68). -/
def verdictOf (drift : Nat) (status : ReadingStatus) (deviation : Option Int) : Verdict :=
  match status with
  | .good => if (deviation.getD 0).natAbs ≤ drift then .pass else .fail
  | .over => .fail
  | .opened => .none
  | .fault => .none
  | .pending => .none
  | .refused => .none

/-- The drift limit held for meter `m`. -/
def RefMeter.drift (r : RefMeter) : Nat :=
  match r.thresholds with
  | none => 0
  | some t => t.drift

/-- The cover after a verdict on a reserved take: ISSUED becomes NONE (R65). -/
def Cover.afterReserved (c : Cover) (kind : RefKind) : Cover :=
  if c = .issued ∧ kind = .reserved then .none else c

/-- PASS (R69). -/
def Part.passed (p : Part) (m : Meter) (e : RefEntry) : Part :=
  let r := (p.rsc.get m).withCount e.since
  if r.cover = .pending then
    { p.setRef m { r with cover := .none } with lcu := { p.lcu with pendingSet := p.lcu.pendingSet.erase m } }
  else p.setRef m { r with cover := r.cover.afterReserved e.kind }

/-- The cover of the meter follows a verdict of FAIL or NONE (R70, R71). -/
def Part.coverJudged (p : Part) (m : Meter) (e : RefEntry) : Part :=
  let r := p.rsc.get m
  p.setRef m { r with cover := r.cover.afterReserved e.kind }

/-- A reference result reaches the RSC (R68): the head entry is removed and judged, and a CHECK record handed on
(R72). At a FAIL the LSQ is told as the channel enters SUSPECT (R70 step 1, R59), so the EVENTs of a hold stand before
the CHECK record; R59 has no place in R70's order, and the choice is the model's (log 54). -/
def Part.referenceResult (p : Part) (m : Meter) (status : ReadingStatus) (deviation : Option Int) : Part :=
  let r := p.rsc.get m
  match r.refs with
  | [] => p
  | e :: rest =>
    let q := p.setRef m { r with refs := rest }
    let record (v : Verdict) (x : Part) : Part :=
      x.handOff (.check m e.pocket e.kind status v r.count (x.rsc.get m).count deviation)
    match verdictOf r.drift status deviation with
    | .pass => record .pass ((q.passed m e).nameOwed m)
    | .fail => (record .fail ((q.suspect m).coverJudged m e)).latch .meter
    | .none => record .none ((q.coverJudged m e).nameOwed m)

end Sys2Proof.Machine
end

