-- ==== Sys2Proof/Machine/Meter.lean ====
section
/-! DEFINITION. The meter channels (chapter 3): takes, transfers, reports, failures and setups. -/

namespace Sys2Proof.Machine

/-! ## Takes (R47 to R50) -/

/-- The take serial after one is used (R41). -/
def nextTakeSerial (n : Nat) : Nat := (n + 1) % 65536

/-- A take may be sent (R50). -/
def Channel.canSend (c : Channel) : Bool :=
  (c.state == .online) && !c.acq && decide (c.queue.length < 2) && !c.acquisitionOpen && (c.link == .idle)

/-- Meter `m` is in the pocket's reservation set. -/
def Pocket.reservedFor (k : Pocket) (m : Meter) : Bool :=
  match k with
  | .reserved set => set.get m
  | .vacant => false
  | .carry _ => false
  | .routed _ _ => false
  | .spent _ _ _ => false
  | .stray => false

/-- Meter `m` leaves the pocket's reservation set (R7). -/
def Pocket.withoutMeter (k : Pocket) (m : Meter) : Pocket :=
  match k with
  | .reserved set => .reserved (set.erase m)
  | .vacant => .vacant
  | .carry x => .carry x
  | .routed x r => .routed x r
  | .spent x r t => .spent x r t
  | .stray => .stray

/-- The frame of a take. -/
def TakeKind.frame : TakeKind → Nat → Nat → Frame
  | .take, k, serial => .take k serial
  | .refer, k, serial => .refer k serial

/-- Send a take (R50): the serial, the tag, the claim to the DT, the word to the RSC, and the frame. -/
def Part.sendTake (p : Part) (m : Meter) (kind : TakeKind) (k dwell : Nat) : Part :=
  let c := p.channel m
  let tag : Tag := { kind, pocket := k, serial := c.nextSerial, dwell, stage := .sent }
  let q := p.setChannel m
    { c with nextSerial := nextTakeSerial c.nextSerial, queue := c.queue ++ [tag], pendingTake := none,
             link := .sending (kind.frame k c.nextSerial) }
  match kind with
  | .take => (q.serialClaim k m c.nextSerial).productTakeSent m
  | .refer =>
    let reserved := (q.pocket k).reservedFor m
    (q.setPocket k ((q.pocket k).withoutMeter m)).referenceTakeSent m k reserved

/-- A take that cannot be sent becomes the pending take; the take timer is started if it is stopped (R50, R51). -/
def Part.pendTake (p : Part) (m : Meter) (kind : TakeKind) (k dwell : Nat) : Part :=
  let q := p.setChannel m { p.channel m with pendingTake := some { kind, pocket := k, dwell } }
  if (p.lct.timers.take.get m).isRunning then q else q.startTakeTimer m

/-- A take is sent at once, or becomes the pending take (R50). -/
def Part.issueTake (p : Part) (m : Meter) (kind : TakeKind) (k dwell : Nat) : Part :=
  if (p.channel m).canSend then p.sendTake m kind k dwell else p.pendTake m kind k dwell

/-- The PRIMARY entry of the pocket is GOOD (R48). -/
def Part.primaryGood (p : Part) (k : Nat) : Bool :=
  match p.dt.geometry with
  | none => false
  | some g =>
    match g.withRole .primary with
    | none => false
    | some m =>
      match (p.pocket k).entry m with
      | none => false
      | some r => r.status == .good

/-- The station's role owes the part in a CARRY pocket a take (R47, R48). -/
def Part.takeOwed (p : Part) (m : Meter) (k : Nat) : Bool :=
  match (p.channel m).role with
  | .unused => false
  | .primary => true
  | .second => true
  | .backup => !p.primaryGood k

/-- A TAKE item starts (R47). -/
def Part.startTakeItem (p : Part) (m : Meter) (k : Nat) : Part :=
  let d := p.dt.dwell
  let owed := (p.pocket k).isCarry && p.takeOwed m k
  let urgency := (p.rsc.get m).urgency
  if (p.channel m).state = .online then
    match p.pocket k with
    | .carry _ =>
      if owed then
        if urgency = .limit then (p.noTakeClaim k m .refused).completeItem (.take m) d
        else p.issueTake m .take k d
      else p.completeItem (.take m) d
    | .vacant => if urgency.isDue then p.issueTake m .refer k d else p.completeItem (.take m) d
    | .reserved set =>
      if urgency.isDue ∨ set.get m then p.issueTake m .refer k d else p.completeItem (.take m) d
    | .routed _ _ => p.completeItem (.take m) d
    | .spent _ _ _ => p.completeItem (.take m) d
    | .stray => p.completeItem (.take m) d
  else if owed then (p.noTakeClaim k m .fault).completeItem (.take m) d
  else p.completeItem (.take m) d

/-- A TAKE item that waits on its pending take is skipped (R13, R50). -/
def Part.skipTakeItem (p : Part) (m : Meter) (dwell : Nat) : Part :=
  match (p.channel m).pendingTake with
  | none => p
  | some t =>
    if t.dwell = dwell then (p.setChannel m { p.channel m with pendingTake := none }).settleTakeTimer m else p

/-! ## Faulted tags (R43, R56) -/

/-- A tag leaves the queue with status FAULT. -/
def Part.faultTag (p : Part) (m : Meter) (t : Tag) : Part :=
  match t.kind with
  | .take => p.readingClaim t.pocket m t.serial .fault none
  | .refer => p.referenceResult m .fault none

/-- The channel's outstanding work is faulted: its tags head first, its pending take, and the TAKE item of the current
dwell completes (R43, R56). -/
def Part.faultWork (p : Part) (m : Meter) : Part :=
  let tags := (p.channel m).queue
  let q := p.setChannel m { p.channel m with queue := [] }
  ((tags.foldl (fun x t => x.faultTag m t) q).withdrawFaulted m).completeItem (.take m) p.dt.dwell

/-- A channel failure (R56, R59). -/
def Part.failChannel (p : Part) (m : Meter) (cause : ChannelCause) : Part :=
  let n := (p.channel m).queue.length
  let q := (p.setChannel m
    { p.channel m with state := .offline, link := .idle, rememberedRdy := false, setupDue := false }).setTakeTimer m .stopped
  let q := (q.faultWork m).event (.channelOffline m cause n p.dt.offset)
  (q.latch .meter).tellChannelState

/-! ## Transfers (R38) -/

/-- With the link idle, a remembered RDY edge starts its REPORT transfer first, else a SETUP frame that waits is sent
(R38, R43, R55). -/
def Channel.nextTransfer (c : Channel) : Channel :=
  if c.link = .idle then
    if c.rememberedRdy then
      { c with rememberedRdy := false, link := .receiving (c.state == .offline) }
    else if c.setupDue then
      match c.setup, c.nominal with
      | some w, some n => { c with setupDue := false, link := .sending (.setup w.serial n) }
      | _, _ => c
    else c
  else c

/-- The next transfer of channel `m` begins where one waits. -/
def Part.beginNextTransfer (p : Part) (m : Meter) : Part := p.setChannel m (p.channel m).nextTransfer

/-! ## Setup (R43 to R46) -/

/-- The outcome of a setup reaches the block that asked for it (R44). -/
def Part.giveSetupOutcome (p : Part) (m : Meter) (asker : SetupAsker) (outcome : ChannelCause) : Part :=
  match asker with
  | .meterRestart => p.endRequest { code := if outcome = .online then .ok else .meterFailed }
  | .startLot =>
    match p.lsq.startLot with
    | none => p
    | some w =>
      match w.phase with
      | .context _ => p
      | .setups resumed outcomes =>
        let v := { w with phase := .setups resumed (outcomes.set m (some outcome)) }
        { p with lsq := { p.lsq with startLot := some v } }

/-- A setup ends (R44). A setup that fails ends any transfer (R37). -/
def Part.endSetup (p : Part) (m : Meter) (outcome : ChannelCause) : Part :=
  match (p.channel m).setup with
  | none => p
  | some w =>
    let c := p.channel m
    let q := p.setTakeTimer m .stopped
    let q :=
      if outcome = .online then
        ((q.setChannel m { c with state := .online, setup := none, setupDue := false }).event
          (.channelOnline m w.before)).countAfterSetup m w.asker w.before
      else
        (q.setChannel m { c with state := .offline, setup := none, setupDue := false, link := .idle }).event
          (.setupFailed m outcome)
    (q.tellChannelState.giveSetupOutcome m w.asker outcome).beginNextTransfer m

/-- A channel enters SETUP (R43), with the level its FLT input has at that moment. -/
def Part.enterSetup (p : Part) (m : Meter) (asker : SetupAsker) (flt : Bool) : Part :=
  let before := (p.channel m).state
  let q := (p.setChannel m
    { p.channel m with state := .setup, rememberedRdy := false, flt,
                       setup := some { serial := 0, before, asker } }).setTakeTimer m .stopped
  let q := (q.faultWork m).tellChannelState
  if flt then q.endSetup m .flt
  else
    let c := q.channel m
    (q.setChannel m
      { c with nextSerial := nextTakeSerial c.nextSerial, setupDue := true,
               setup := some { serial := c.nextSerial, before, asker } }).beginNextTransfer m

/-! ## Reports (R40, R53, R54) -/

/-- The tests of R40 that do not depend on the state: the status of an intact frame, or the fault's cause. -/
def reportChecked (f : List Byte) : Except ProtocolCause ReadingStatus :=
  if reportSumOk f = false then .error .check
  else
    match reportStatus f with
    | none => .error .status
    | some s => if reportRangeOk f s = false then .error .range else .ok s

/-- The tests of R40 in SETUP: the frame's status, or the fault's cause. -/
def setupReport (f : List Byte) (w : SetupWork) : Except ProtocolCause ReadingStatus :=
  match reportChecked f with
  | .error c => .error c
  | .ok s => if reportTagIs f 1 255 w.serial then .ok s else .error .tag

/-- The tests of R40 in ONLINE and SUSPECT: the head tag and the status, or the fault's cause. -/
def takeReport (f : List Byte) (queue : List Tag) : Except ProtocolCause (Tag × ReadingStatus) :=
  match reportChecked f with
  | .error c => .error c
  | .ok s =>
    match queue with
    | [] => .error .noTag
    | t :: _ =>
      if t.stage ≠ .converting then .error .early
      else if reportTagIs f t.kind.code t.pocket t.serial then .ok (t, s) else .error .tag

/-- An accepted report answers the head tag (R53, R54): in SUSPECT its status is FAULT and it carries no deviation. -/
def Part.acceptReport (p : Part) (m : Meter) (t : Tag) (status : ReadingStatus) (deviation : Option Int) : Part :=
  let c := p.channel m
  let trusted := c.state == .online
  let status := if trusted then status else .fault
  let deviation := if trusted then deviation else none
  let q := p.setChannel m { c with queue := c.queue.tail }
  match t.kind with
  | .take => q.readingClaim t.pocket m t.serial status deviation
  | .refer => q.referenceResult m status deviation

/-- A REPORT transfer of channel `m` has ended with the frame `f` (R40, R55). -/
def Part.reportEnded (p : Part) (m : Meter) (f : List Byte) (discard : Bool) : Part :=
  let q := p.setChannel m { p.channel m with link := .idle }
  let c := q.channel m
  let r :=
    if discard then q
    else
      match c.state, c.setup with
      | .setup, some w =>
        match setupReport f w with
        | .error cause => q.endSetup m (.protocol cause)
        | .ok s => q.endSetup m (if s = .good then .online else .rejected)
      | .online, _ =>
        match takeReport f c.queue with
        | .error cause => q.failChannel m (.protocol cause)
        | .ok (t, s) => q.acceptReport m t s (reportCarried f s)
      | .suspect, _ =>
        match takeReport f c.queue with
        | .error cause => q.failChannel m (.protocol cause)
        | .ok (t, s) => q.acceptReport m t s (reportCarried f s)
      | _, _ => q
  r.beginNextTransfer m

/-! ## The events of a channel -/

/-- A protocol fault or a fault of the meter reaches the channel by its state: a setup fails (R44), a channel in ONLINE
or SUSPECT fails (R56), any other is not reached. -/
def Part.faultByState (p : Part) (m : Meter) (cause : ChannelCause) : Part :=
  match (p.channel m).state with
  | .setup => p.endSetup m cause
  | .online => p.failChannel m cause
  | .suspect => p.failChannel m cause
  | .offline => p
  | .unused => p

/-- The first tag of the queue in stage `a` goes to stage `b`. -/
def advanceStage (a b : TagStage) : List Tag → List Tag
  | [] => []
  | t :: rest => if t.stage = a then { t with stage := b } :: rest else t :: advanceStage a b rest

/-- ACQ rises (R52). -/
def Part.acqRises (p : Part) (m : Meter) : Part :=
  let q := p.setChannel m { p.channel m with acq := true }
  let c := q.channel m
  if c.state = .setup then q.endSetup m (.protocol .acq)
  else if c.state = .online ∨ c.state = .suspect then
    if c.queue.any (fun t => t.stage == .sent) then
      q.setChannel m { c with queue := advanceStage .sent .acquiring c.queue }
    else q.failChannel m (.protocol .acq)
  else q

/-- ACQ falls (R51, R52): the ACQUIRING tag becomes CONVERTING, its TAKE item completes, and the take timer is cancelled
unless a take waits. -/
def Part.acqFalls (p : Part) (m : Meter) : Part :=
  let q := p.setChannel m { p.channel m with acq := false }
  let c := q.channel m
  if c.state = .online ∨ c.state = .suspect then
    match c.queue.find? (fun t => t.stage == .acquiring) with
    | none => q
    | some t =>
      let r := (q.setChannel m { c with queue := advanceStage .acquiring .converting c.queue }).completeItem (.take m) t.dwell
      if c.pendingTake.isSome then r else r.setTakeTimer m .stopped
  else q

/-- RDY rises (R38, R55). -/
def Part.rdyRises (p : Part) (m : Meter) : Part :=
  let c := p.channel m
  if c.state = .unused then p
  else if c.link = .idle then p.setChannel m { c with link := .receiving (c.state == .offline) }
  else p.setChannel m { c with rememberedRdy := true }

/-- FLT rises (R57). -/
def Part.fltRises (p : Part) (m : Meter) : Part :=
  (p.setChannel m { p.channel m with flt := true }).faultByState m .flt

/-- The transfer of a frame to the meter ends (R38, R43, R51): the take timer starts for a setup, and for a take whose
acquisition is open or that waits. -/
def Part.frameSent (p : Part) (m : Meter) (frame : Frame) : Part :=
  let q := p.setChannel m { p.channel m with link := .idle }
  let c := q.channel m
  let timed : Bool :=
    match frame with
    | .setup _ _ => c.state == .setup
    | .take _ _ => (c.state != .setup) && (c.acquisitionOpen || c.pendingTake.isSome)
    | .refer _ _ => (c.state != .setup) && (c.acquisitionOpen || c.pendingTake.isSome)
  (if timed then q.startTakeTimer m else q).beginNextTransfer m

/-- The pending take is sent, or withdrawn where it is a product take and its pocket is no longer CARRY (R50). R50
reads the phase again for a product take alone: a pending reference take is sent whatever its pocket has become, also
one that a late PLACED has made CARRY, though R39 sends a REFER only on a pocket that holds no part (log 60). -/
def Part.pendingTakeDue (p : Part) (m : Meter) (t : PendingTake) : Part :=
  if t.kind = .take ∧ (p.pocket t.pocket).isCarry = false then
    ((p.setChannel m { p.channel m with pendingTake := none }).completeItem (.take m) t.dwell).settleTakeTimer m
  else p.sendTake m t.kind t.pocket t.dwell

/-- The take timer expires (R51, R44). -/
def Part.takeTimerExpires (p : Part) (m : Meter) : Part :=
  (p.setTakeTimer m .stopped).faultByState m .timeout

end Sys2Proof.Machine
end

