-- ==== Sys2Proof/Machine/Decision.lean ====
section
/-! DEFINITION. The decision (chapter 6): the base reading, the spread check, the row walk, the route claim, and the
commitment. -/

namespace Sys2Proof.Machine

/-! ## Route claims (R102) -/

/-- The position and the number of the first candidate bin that can take the part. -/
def Part.firstTaking (p : Part) : List Nat → Nat → Option (Nat × Nat)
  | [], _ => none
  | b :: rest, i => if (p.bin b).canTake then some (i, b) else p.firstTaking rest (i + 1)

/-- A route claim: the first candidate that can take the part has its pending count raised, and its position and number
are answered; with none, nothing changes (R102). -/
def Part.routeClaim (p : Part) (candidates : List Nat) : Part × Option (Nat × Nat) :=
  match p.firstTaking candidates 0 with
  | none => (p, none)
  | some (i, b) => (p.raisePending b, some (i, b))

/-- The plan of a slot (R88); a slot that a pocket names always holds one (R87). -/
def Part.planOf (p : Part) (s : SlotId) : Option Plan := (p.ps.slot s).plan

/-! ## The base reading (R94) -/

/-- The base reading. -/
inductive Base where
  | measured (deviation : Int)
  | overRange
  | none
  deriving DecidableEq, Repr

/-- The entry of the station with a role. -/
def Part.entryOfRole (p : Part) (rs : List Reading) (r : Role) : Option Reading :=
  match p.dt.geometry with
  | none => none
  | some g =>
    match g.withRole r with
    | none => none
    | some m => rs.find? (fun e => e.station == m)

/-- The entry is present with this status. -/
def entryHas (e : Option Reading) (s : ReadingStatus) : Bool :=
  match e with
  | none => false
  | some r => r.status == s

/-- The deviation of an entry; 0 where absent. -/
def entryDeviation (e : Option Reading) : Int :=
  match e with
  | none => 0
  | some r => r.deviation.getD 0

/-- The first matching row of R94, given the PRIMARY and BACKUP entries. -/
def baseReading (primary backup : Option Reading) : Base :=
  if entryHas primary .good then .measured (entryDeviation primary)
  else if entryHas backup .good then .measured (entryDeviation backup)
  else if entryHas primary .over then .overRange
  else if entryHas backup .over then .overRange
  else .none

/-! ## Spread and rows (R97 to R100) -/

/-- The outcome of the spread check. -/
inductive SpreadOutcome where
  | pass | failSecond | failSpread
  deriving DecidableEq, Repr

/-- The spread check (R97, R98): applied when the plan enables it and the geometry has a SECOND station. -/
def spreadCheck (plan : Plan) (hasSecond : Bool) (second : Option Reading) (base : Int) : SpreadOutcome :=
  if plan.spreadCheck && hasSecond then
    if entryHas second .good then
      if (entryDeviation second - base).natAbs ≤ plan.spreadLimit then .pass else .failSpread
    else .failSecond
  else .pass

/-- The row contains the deviation (R99). -/
def PlanRow.contains (r : PlanRow) (d : Int) : Bool := decide (r.low ≤ d) && decide (d ≤ r.high)

/-- The row walk (R99): the wanted row's number and the row, counting from `i`. -/
def wantedRow (d : Int) : List PlanRow → Nat → Option (Nat × PlanRow)
  | [], _ => none
  | r :: rest, i => if r.contains d then some (i, r) else wantedRow d rest (i + 1)

/-! ## Routing (R103, R104) -/

/-- The list holds the bin, where the plan names one. -/
def optionList (b : Option Nat) : List Nat :=
  match b with
  | none => []
  | some n => [n]

/-- The route of a claim's answer. -/
def routeOf (answer : Option (Nat × Nat)) : Route :=
  match answer with
  | none => .toCatch
  | some (_, b) => .gate b

/-- A decision ended by FAIL, REJECT or SPREAD: the special bin of that name, or CATCH (R104). -/
def Part.specialRoute (p : Part) (special : Option Nat) (reason : Reason) : Part × Routing :=
  let (q, answer) := p.routeClaim (optionList special)
  (q, { row := none, route := routeOf answer, reason })

/-- The candidates of a wanted row: target, alternates, OVERFLOW bin (R103). -/
def rowCandidates (plan : Plan) (r : PlanRow) : List Nat := r.target :: (r.alternates ++ optionList plan.overflow)

/-- The reason by the position at which the part was taken (R103). -/
def rowReason (r : PlanRow) (answer : Option (Nat × Nat)) : Reason :=
  match answer with
  | none => .noroom
  | some (i, _) => if i = 0 then .sorted else if i ≤ r.alternates.length then .alternate else .overflow

/-- A decision that has a wanted row (R103). -/
def Part.rowRoute (p : Part) (plan : Plan) (n : Nat) (r : PlanRow) : Part × Routing :=
  let (q, answer) := p.routeClaim (rowCandidates plan r)
  (q, { row := some n, route := routeOf answer, reason := rowReason r answer })

/-- The decision for a part under its plan (R94 to R104). -/
def Part.decision (p : Part) (plan : Plan) (rs : List Reading) : Part × Routing :=
  let second := p.entryOfRole rs .second
  let hasSecond : Bool :=
    match p.dt.geometry with
    | none => false
    | some g => (g.withRole .second).isSome
  match baseReading (p.entryOfRole rs .primary) (p.entryOfRole rs .backup) with
  | .none => p.specialRoute plan.fail .fail
  | .overRange => p.specialRoute plan.reject .reject
  | .measured d =>
    match spreadCheck plan hasSecond second d with
    | .failSecond => p.specialRoute plan.fail .fail
    | .failSpread => p.specialRoute plan.spread .spread
    | .pass =>
      match wantedRow d plan.rows 0 with
      | none => p.specialRoute plan.reject .reject
      | some (n, r) => p.rowRoute plan n r

/-- The DE decides pocket `k` where it is CARRY, and commits the decision (R92, R105). -/
def Part.decidePocket (p : Part) (k : Nat) : Part :=
  match p.pocket k with
  | .carry x =>
    match p.planOf x.slot with
    | none => p.setPocket k (.routed x { row := none, route := .toCatch, reason := .fail })
    | some plan =>
      let (q, routing) := p.decision plan x.readings
      q.setPocket k (.routed x routing)
  | .vacant => p
  | .reserved _ => p
  | .routed _ _ => p
  | .spent _ _ _ => p
  | .stray => p

/-- A DECIDE item starts (R92). -/
def Part.startDecisionItem (p : Part) (k : Nat) : Part := (p.decidePocket k).completeItem .decision p.dt.dwell

end Sys2Proof.Machine
end

