-- ==== Sys2Proof/Machine/Bins.lean ====
section
/-! DEFINITION. Gates and bins (chapter 7): firing, rerouting, tubes, full sensors, misses, BIN CONTROL. -/

namespace Sys2Proof.Machine

/-! ## Firing (R116, R117) -/

/-- Pocket `k` is ROUTED to gate `n`. -/
def Pocket.routedTo (k : Pocket) (n : Nat) : Bool :=
  match k with
  | .routed _ r => r.route == .gate n
  | .vacant => false
  | .reserved _ => false
  | .carry _ => false
  | .spent _ _ _ => false
  | .stray => false

/-- The pocket becomes SPENT at gate `n` with the tube fired at, its reason kept (R117). R117 does not speak of a pulse
that ends after its pocket was settled at the clear station. The model's choice (log 52): a pocket that is not ROUTED is
left as it is, and one that has been loaded again and is ROUTED, to whatever gate, becomes SPENT. -/
def Pocket.fire (k : Pocket) (n tube : Nat) : Pocket :=
  match k with
  | .routed x r => .spent x { r with route := .gate n } tube
  | .vacant => .vacant
  | .reserved s => .reserved s
  | .carry x => .carry x
  | .spent x r t => .spent x r t
  | .stray => .stray

/-- The fired count rises in the tube that was fired at, and the full flag follows the count (R117). -/
def BinEntry.countFired (b : BinEntry) (tube : Nat) : BinEntry :=
  if b.tubeNumber = tube then
    let fired := b.fired + 1
    { b with fired, full := if b.capacity ≤ fired ∧ b.full = .clear then .count else b.full }
  else b

/-- The firing claim of gate `n` at the end of a pulse (R117). -/
def Part.firingClaim (p : Part) (n k tube dwell : Nat) (reports : Bool) : Part :=
  let q := if (p.pocket k).routedTo n then p.releasePending n else p
  let q := q.setPocket k ((p.pocket k).fire n tube)
  let q := q.setBin n ((q.bin n).countFired tube)
  if reports then q.completeItem (.fire n) dwell else q

/-- The pulse of gate `n`, where it runs, ends and its firing claim is applied (R117). -/
def Part.endPulse (p : Part) (n : Nat) : Part :=
  match p.pulse n with
  | .idle => p
  | .pulsing k tube dwell reports => (p.setPulse n .idle).firingClaim n k tube dwell reports

/-- Gate `n` fires for pocket `k`: an earlier pulse ends, the record takes the pocket, the tube and the dwell, and the
pulse timer starts (R116, R117). -/
def Part.fireGate (p : Part) (n k : Nat) : Part :=
  let tube := (p.bin n).tubeNumber
  let q := (p.endPulse n).setPulse n (.pulsing k tube p.dt.dwell true)
  match p.gbt.items with
  | none => q
  | some i => q.setPulseTimer n (Timer.start i.ejectPulse)

/-! ## Rerouting (R118) -/

/-- The candidates of a reroute at gate `n`: the row's alternates and the OVERFLOW bin, above `n`; none for a pocket
whose row is absent. -/
def rerouteCandidates (plan : Option Plan) (row : Option Nat) (n : Nat) : List Nat :=
  match plan, row with
  | some pl, some r =>
    ((match pl.rows[r]? with
      | none => []
      | some x => x.alternates) ++ optionList pl.overflow).filter (fun b => n < b)
  | _, _ => []

/-- Reroute pocket `k` at gate `n` (R118). -/
def Part.reroute (p : Part) (n k : Nat) : Part :=
  match p.pocket k with
  | .routed x r =>
    let (q, answer) := (p.releasePending n).routeClaim (rerouteCandidates (p.planOf x.slot) r.row n)
    q.setPocket k (.routed x { r with route := routeOf answer, reason := .rerouted })
  | .vacant => p
  | .reserved _ => p
  | .carry _ => p
  | .spent _ _ _ => p
  | .stray => p

/-- A FIRE item starts (R116). -/
def Part.startFireItem (p : Part) (n k : Nat) : Part :=
  if (p.pocket k).routedTo n then
    if (p.bin n).availability = .opened then p.fireGate n k
    else (p.reroute n k).completeItem (.fire n) p.dt.dwell
  else p.completeItem (.fire n) p.dt.dwell

/-- A FIRE item is skipped: a pocket ROUTED to its gate is rerouted (R13, R118). -/
def Part.skipFireItem (p : Part) (n k : Nat) : Part :=
  if (p.pocket k).routedTo n then p.reroute n k else p

/-! ## Tubes and full sensors (R119 to R121) -/

/-- The current lot's number; 0 for none. -/
def Part.lotNumber (p : Part) : Nat :=
  match p.lsq.lot with
  | none => 0
  | some l => l.number

/-- A tube is removed (R119). -/
def Part.tubeRemoved (p : Part) (n : Nat) : Part :=
  let q := p.setBin n { p.bin n with tube := false }
  q.handOff (.tube n (p.bin n).tubeNumber (p.bin n).fired p.lotNumber)

/-- A tube is inserted (R120). -/
def Part.tubeInserted (p : Part) (n : Nat) : Part :=
  p.setBin n
    { p.bin n with
      tube := true
      fired := 0
      tubeNumber := ((p.bin n).tubeNumber + 1) % 65536
      full := if p.hasFullSensor n && p.fullInput n then .sensor else .clear }

/-- The full input of a bin rises (R121). -/
def Part.fullRises (p : Part) (n : Nat) : Part :=
  if p.hasFullSensor n then p.setBin n { p.bin n with full := .sensor } else p

/-- A change of the stable level of input `i` of the chain reaches the GBT (R119 to R121); changes for bins at or above
the gate count, and all changes while no geometry is held, are ignored. -/
def Part.chainInputChanged (p : Part) (i : Nat) : Part :=
  let level := p.lct.chain.stable.getLsbD i
  let n := i % 32
  if n < p.gateCount then
    if i < 32 then (if level then p.tubeInserted n else p.tubeRemoved n)
    else (if level then p.fullRises n else p)
  else p

/-! ## Ejections and misses (R122 to R124) -/

/-- An EJECTED claim (R122). -/
def Part.ejectedClaim (p : Part) (n : Nat) : Part := p.setBin n { p.bin n with misses := 0 }

/-- The fired count falls in the tube that was fired at, and a full flag of COUNT follows it (R123). -/
def BinEntry.correctMiss (b : BinEntry) (tube : Nat) : BinEntry :=
  if b.tubeNumber = tube then
    let fired := b.fired - 1
    { b with fired, full := if b.full = .count ∧ fired < b.capacity then .clear else b.full }
  else b

/-- The miss limit held (R113). -/
def Part.missLimit (p : Part) : Nat :=
  match p.gbt.items with
  | none => 0
  | some i => i.missLimit

/-- A MISSED claim (R123, R124). -/
def Part.missedClaim (p : Part) (n tube : Nat) : Part :=
  let b := (p.bin n).correctMiss tube
  if b.misses < p.missLimit then
    let b := { b with misses := b.misses + 1 }
    if b.misses = p.missLimit then
      let b := { b with closed := if b.closed = .none then .miss else b.closed }
      ((p.setBin n b).latch .bin).event (.binClosedByMisses n b.tubeNumber p.missLimit b.closed p.dt.offset)
    else p.setBin n b
  else p.setBin n b

/-! ## BIN CONTROL (R125 to R128) -/

/-- The result that carries the bin as it stands (12.4). -/
def Part.binResult (p : Part) (n : Nat) (code : ResultCode) : Result :=
  { code, word := (p.bin n).fired + 65536 * (p.bin n).pending,
    extension := some (byte (p.bin n).availability.code ++ byte 0 ++ leBytes 2 (p.bin n).capacity) }

/-- Tests 1 and 2 of R125; a failure writes a word and an extension of 0 (R194). -/
def Part.binRefused (p : Part) : Option Result :=
  if p.lsq.engine = .unconfigured then some { code := .refusedState, extension := some [] }
  else if p.arg 4 1 < p.gateCount then none
  else some { code := .refusedArgument, extension := some [] }

/-- The full flag under a new capacity (R128). -/
def BinEntry.setCapacity (b : BinEntry) (c : Nat) : BinEntry :=
  { b with
    capacity := c
    full :=
      match b.full with
      | .count => if b.fired < c then .clear else .count
      | .clear => if b.fired = c then .count else .clear
      | .sensor => .sensor }

/-- The actions of BIN CONTROL: what the bin becomes, and the result code (R125 tests 3 to 5, R126 to R128). -/
def binAction (action value : Nat) (b : BinEntry) : BinEntry × ResultCode :=
  match action with
  | 0 => ({ b with closed := .host }, .ok)
  | 1 => ({ b with closed := .none, misses := 0 }, .ok)
  | 2 =>
    if value = 0 then (b, .refusedArgument)
    else if value < b.fired + b.pending then (b, .inUse)
    else (b.setCapacity value, .ok)
  | _ => (b, .refusedArgument)

/-- Execute BIN CONTROL with the action given (R125). -/
def Part.binControl (p : Part) (action : Nat) : Part :=
  match p.binRefused with
  | some r => p.endRequest r
  | none =>
    let n := p.arg 4 1
    let (b, code) := binAction action (p.arg 6 2) (p.bin n)
    let q := p.setBin n b
    q.endRequest (q.binResult n code)

end Sys2Proof.Machine
end

