-- ==== Sys2Proof/Machine/Loading.lean ====
section
/-! DEFINITION. The Load and Clear Unit (chapter 2): the LOAD item, the feed, the sequence number and plan slot of a
part, the starvation timer, the CLEAR item and the catch jet. -/

namespace Sys2Proof.Machine

/-! ## The LOAD item (R21 to R25) -/

/-- A pocket has passed the load station unoffered: the thinning counter rises by 1, up to 7 (R21). -/
def Part.passUnoffered (p : Part) : Part :=
  { p with lcu := { p.lcu with thinning := if p.lcu.thinning < 7 then p.lcu.thinning + 1 else p.lcu.thinning } }

/-- An offered pocket becomes the reservation of the whole pending set (R25). -/
def Part.reserve (p : Part) (k : Nat) : Part :=
  let set := p.lcu.pendingSet
  ({ p.setPocket k (.reserved set) with lcu := { p.lcu with pendingSet := MeterSet.empty } }).coverPlaced set

/-- An offered pocket is fed: FEED is asserted and the feed timer starts (R26). -/
def Part.feed (p : Part) (k : Nat) : Part :=
  let q := { p with lcu := { p.lcu with feed := .feeding k p.dt.dwell } }
  match p.lcu.intervals with
  | none => q
  | some i => q.setFeedTimer (Timer.start i.feedTimeout)

/-- An offer (R21, step 4). -/
def Part.offer (p : Part) (k : Nat) : Part :=
  let q := { p with lcu := { p.lcu with thinning := 0 } }
  if q.lcu.pendingSet.isEmpty then q.feed k else (q.reserve k).completeItem .load p.dt.dwell

/-- The LOAD item works its pocket (R21, steps 1 to 4). -/
def Part.workLoad (p : Part) (k : Nat) : Part :=
  if p.pocket k ≠ .vacant then p.passUnoffered.completeItem .load p.dt.dwell
  else if p.lct.lines.loadEye.stable then
    (((p.setPocket k .stray).countLot (fun c => { c with stray := countUp c.stray })).passUnoffered).completeItem .load p.dt.dwell
  else if p.loadingAllowed = false then p.passUnoffered.completeItem .load p.dt.dwell
  else p.offer k

/-- A LOAD item starts: it waits while the feed is FEEDING for an earlier item (R21). -/
def Part.startLoadItem (p : Part) (k : Nat) : Part := if p.lcu.feed = .idle then p.workLoad k else p

/-- The pocket of a LOAD item of the current dwell that is STARTED. -/
def Part.waitingLoad (p : Part) : Option Nat :=
  match p.dt.items.find? (fun i => i.kind == .load && i.state == .started) with
  | none => none
  | some i => some i.pocket

/-- FEED drops, the feed timer is cancelled, the feed becomes IDLE and its LOAD item completes (R26 to R28). -/
def Part.dropFeed (p : Part) (dwell : Nat) : Part :=
  ({ p with lcu := { p.lcu with feed := .idle } }.setFeedTimer .stopped).completeItem .load dwell

/-- With the feed IDLE, a LOAD item that waited on it proceeds (R21). -/
def Part.proceedLoad (p : Part) : Part :=
  match p.lcu.feed, p.waitingLoad with
  | .idle, some k => p.workLoad k
  | _, _ => p

/-- The feed ends by PLACED or by its timer, and a LOAD item that waited on it proceeds (R21, R26, R27). -/
def Part.endFeed (p : Part) (dwell : Nat) : Part := (p.dropFeed dwell).proceedLoad

/-- A LOAD item is skipped (R13, R21). -/
def Part.skipLoadItem (p : Part) : Part := p.passUnoffered

/-- A feed that is FEEDING is withdrawn (R28). -/
def Part.withdrawFeed (p : Part) : Part :=
  match p.lcu.feed with
  | .idle => p
  | .feeding _ dwell => p.dropFeed dwell

/-! ## A part put down (R26, R85) -/

/-- The slot left by a switch, and its plan id; none before a first load slot. -/
def Ps.idOf (ps : Ps) (s : Option SlotId) : Nat :=
  match s with
  | none => 0
  | some x =>
    match (ps.slot x).plan with
    | none => 0
    | some pl => pl.id

/-- At the issue of number `n`, a pending switch whose sequence is reached is applied (R85). -/
def Part.applySwitch (p : Part) (n : Nat) : Part :=
  match p.ps.pendingSwitch with
  | none => p
  | some w =>
    if w.sequence ≤ n then
      let before := p.ps.loadSlot
      let q := p.setPs { p.ps with loadSlot := some w.slot, pendingSwitch := none }
      q.event (.planSwitched before (p.ps.idOf before) w.slot (p.ps.idOf (some w.slot)) n)
    else p

/-- The number of parts naming a slot changes. -/
def Part.changeRefs (p : Part) (s : SlotId) (f : Nat → Nat) : Part :=
  { p with ps := p.ps.setSlot s { p.ps.slot s with refs := f (p.ps.slot s).refs } }

/-- The used meters of a geometry in dial order: station positions rise with station number (R2). -/
def Geometry.usedMeters (g : Geometry) : List Meter := allMeters.filter g.used

/-- The entries of a part newly loaded, one for each used measure station (R5). -/
def Part.newReadings (p : Part) : List Reading :=
  match p.dt.geometry with
  | none => []
  | some g =>
    g.usedMeters.map (fun m => { station := m, serial := none, status := .pending, deviation := none, late := false })

/-- A number is issued: the next sequence number rises, or becomes 0 after the greatest, with its EVENT (R26). -/
def Part.issueSequence (p : Part) : Part :=
  let n := p.lcu.nextSequence
  if n = 4294967295 then (p.setNextSequence 0).event (.sequenceExhausted p.lotNumber) else p.setNextSequence (n + 1)

/-- The starvation timer is reloaded as a pocket becomes CARRY: while it runs, or after its expiry in RUN (R29). -/
def Part.reloadStarvation (p : Part) : Part := if p.lsq.engine = .run then p.startStarvation else p

/-- Pocket `k` takes the part: number, slot, entries; the counts follow (R26, R82). Where the greatest number is issued
and reaches a pending switch too, sequence exhausted is handed before plan switched: R26 takes both as one claim and no
rule orders them (log 57). -/
def Part.loadPart (p : Part) (k : Nat) : Part :=
  let n := p.lcu.nextSequence
  let q := p.issueSequence.applySwitch n
  let slot := q.ps.loadSlot.getD .a
  let q := q.setPocket k (.carry { sequence := n, slot, readings := q.newReadings })
  let q := q.changeRefs slot (fun r => r + 1)
  (q.countLot (fun c => { c with loaded := countUp c.loaded })).reloadStarvation

/-- A PLACED edge (R26, R27). -/
def Part.placed (p : Part) : Part :=
  match p.lcu.feed with
  | .idle => p.event (.placedWithoutFeed p.dt.offset)
  | .feeding k dwell =>
    if p.lct.lines.loadEye.stable then (p.loadPart k).endFeed dwell
    else (p.countLot (fun c => { c with loadLoss := countUp c.loadLoss })).endFeed dwell

/-- The feed timer expires (R27). -/
def Part.feedTimerExpires (p : Part) : Part :=
  match p.lcu.feed with
  | .idle => p.setFeedTimer .stopped
  | .feeding k dwell => (p.event (.feedTimeout k p.dt.offset)).endFeed dwell

/-- The starvation timer expires (R29). -/
def Part.starvationExpires (p : Part) : Part :=
  ((p.setStarvation .stopped).latch .starved).event (.starvation p.lcu.nextSequence p.dt.offset)

/-! ## The CLEAR item (R30 to R34) -/

/-- The CLEAR item of a dwell completes once its pulse has ended and no record of it waits (R30). -/
def Part.tryCompleteClear (p : Part) (dwell : Nat) : Part :=
  let pulsing : Bool :=
    match p.lcu.clearJet with
    | .idle => false
    | .pulsing d reports => reports && (d == dwell)
  if pulsing || p.jw.waiting.any (fun h => h.clearDwell == some dwell) then p else p.completeItem .clear dwell

/-- The catch pulse ends for its item (R31). -/
def Part.endCatch (p : Part) : Part :=
  match p.lcu.clearJet with
  | .idle => p
  | .pulsing d reports =>
    let q := { p with lcu := { p.lcu with clearJet := .idle } }
    if reports then q.tryCompleteClear d else q

/-- The catch pulse, kept by every CONFIGURE and START LOT; its completion then changes nothing in the dwell record
(R9, R19, R31, log 21). -/
def CatchPulse.orphan : CatchPulse → CatchPulse
  | .idle => .idle
  | .pulsing d _ => .pulsing d false

/-- The catch jet fires for the CLEAR item of the current dwell; a running pulse is taken over (R31). -/
def Part.fireCatch (p : Part) : Part :=
  let q := p.endCatch
  let q := { q with lcu := { q.lcu with clearJet := .pulsing q.dt.dwell true } }
  match p.lcu.intervals with
  | none => q
  | some i => q.setCatchTimer (Timer.start i.catchPulse)

/-- The catch timer expires (R31). -/
def Part.catchTimerExpires (p : Part) : Part := (p.setCatchTimer .stopped).endCatch

/-- The plan id that the slot of a part holds (R32). -/
def Part.planId (p : Part) (s : SlotId) : Nat := p.ps.idOf (some s)

/-- The plan reference of a part is released (R34). -/
def Part.releaseSlot (p : Part) (s : SlotId) : Part := p.changeRefs s (fun r => r - 1)

/-- The lot counter of a disposition rises (R35). -/
def Part.countDisposition (p : Part) (d : Disposition) : Part :=
  p.countLot fun c =>
    match d with
    | .ejected => { c with ejected := countUp c.ejected }
    | .missed => { c with missed := countUp c.missed }
    | .caught => { c with caught := countUp c.caught }
    | .lost => { c with lost := countUp c.lost }

/-- A part is settled: its OUTCOME record is handed on, its counter rises, its plan reference is released, and the
pocket becomes VACANT (R32, R34, R35). -/
def Part.settlePart (p : Part) (k : Nat) (x : PartRecord) (r : Routing) (d : Disposition)
    (clearDwell : Option Nat) : Part :=
  let q := p.handOffFor (.outcome k x (p.planId x.slot) r d) clearDwell
  ((q.countDisposition d).releaseSlot x.slot).setPocket k .vacant

/-- What the OUTCOME record of a pocket settled in CARRY carries for the row, the route and the reason, which R4 gives
such a pocket none of: no row, route CATCH, and a free value for the reason (log 46). -/
def Part.carryRouting (p : Part) : Routing :=
  { row := none, route := .toCatch, reason := Reason.numbered (Config.freeValue p.draws).toNat }

/-- A pocket in CARRY at the clear station: its part is settled CAUGHT or LOST by the eye, since no gate fired for it
(R32, R35, log 22, log 46). -/
def Part.settleCarried (p : Part) (k : Nat) (x : PartRecord) (present : Bool) (clearDwell : Option Nat) : Part :=
  let q := p.settlePart k x p.carryRouting (if present then .caught else .lost) clearDwell
  { q with draws := p.draws + 1 }

/-- The gate that a SPENT pocket's route names (R4: a gate in every SPENT pocket). -/
def Route.gateNumber : Route → Nat
  | .gate n => n
  | .toCatch => 0

/-- The pending count that a pocket still holds at the clear station is released (R115, log 22). -/
def Part.releaseRoute (p : Part) (r : Route) : Part :=
  match r with
  | .gate n => p.releasePending n
  | .toCatch => p

/-- Settle the pocket of a CLEAR item by its phase and the eye; the catch jet is not part of it (R30, R33, R34). At a
miss the OUTCOME record is handed before the GBT takes the claim and hands its EVENT (R33 gives no order between them:
log 47). -/
def Part.settleClear (p : Part) (k : Nat) (present : Bool) : Part :=
  let d := some p.dt.dwell
  match p.pocket k with
  | .spent x r tube =>
    let n := r.route.gateNumber
    if present then (p.settlePart k x r .missed d).missedClaim n tube
    else (p.settlePart k x r .ejected d).ejectedClaim n
  | .routed x r => (p.releaseRoute r.route).settlePart k x r (if present then .caught else .lost) d
  | .stray => (p.handOffFor (.event (.strayCleared k present p.dt.offset)) d).setPocket k .vacant
  | .vacant =>
    if present then
      (p.handOffFor (.event (.strayAtClear k false p.dt.offset)) d).countLot (fun c => { c with stray := countUp c.stray })
    else p
  | .reserved set =>
    let q :=
      if present then
        (p.handOffFor (.event (.strayAtClear k true p.dt.offset)) d).countLot (fun c => { c with stray := countUp c.stray })
      else p
    (q.rejoinPending set).setPocket k .vacant
  | .carry x => p.settleCarried k x present d

/-- A CLEAR item starts (R30). -/
def Part.startClearItem (p : Part) (k : Nat) : Part :=
  let present := p.lct.lines.clearEye.stable
  let q := p.settleClear k present
  let q := if present then q.fireCatch else q
  q.tryCompleteClear p.dt.dwell

/-- A CLEAR item is skipped: the pocket is settled as for an empty eye, no jet fires, no EJECTED claim is handed (R13,
R33, log 14). -/
def Part.skipClearItem (p : Part) (k : Nat) : Part :=
  match p.pocket k with
  | .spent x r _ => p.settlePart k x r .ejected none
  | .routed x r => (p.releaseRoute r.route).settlePart k x r .lost none
  | .stray => (p.event (.strayCleared k false p.dt.offset)).setPocket k .vacant
  | .vacant => p
  | .reserved set => (p.rejoinPending set).setPocket k .vacant
  | .carry x => p.settleCarried k x false none

end Sys2Proof.Machine
end

