-- ==== Sys2Proof/Machine/Dial.lean ====
section
/-! DEFINITION. The dial (chapter 1): opening a dwell, starting and skipping its items, the index. -/

namespace Sys2Proof.Machine

/-! ## Items (R9, R10) -/

/-- The kinds of work item of a geometry with the position of each place, in the order LOAD, TAKE, DECIDE, FIRE, CLEAR
(log 12). -/
def Geometry.places (g : Geometry) : List (ItemKind × Nat) :=
  (ItemKind.load, 0) :: (g.usedMeters.map (fun m => (ItemKind.take m, (g.stations.get m).position)) ++
    ((ItemKind.decision, g.decision) :: (g.gates.zipIdx.map (fun x => (ItemKind.fire x.2, x.1)) ++ [(ItemKind.clear, g.clear)])))

/-- The items of a dwell opened at an offset, DEFERRED. -/
def Geometry.items (g : Geometry) (offset : Nat) : List Item :=
  g.places.map (fun x => { kind := x.1, pocket := g.pocketAt offset x.2, state := .deferred })

/-- An item is handed to its owner, which starts it. -/
def Part.startItem (p : Part) (i : Item) : Part :=
  match i.kind with
  | .load => p.startLoadItem i.pocket
  | .take m => p.startTakeItem m i.pocket
  | .decision => p.startDecisionItem i.pocket
  | .fire n => p.startFireItem n i.pocket
  | .clear => p.startClearItem i.pocket

/-- A DEFERRED item becomes STARTED. -/
def Item.start (i : Item) : Item := if i.state = .deferred then { i with state := .started } else i

/-- Every DEFERRED item of the current dwell becomes STARTED and is handed to its owner, in item order (R10). -/
def Part.startDeferred (p : Part) : Part :=
  let due := p.dt.items.filter (fun i => i.state == .deferred)
  due.foldl Part.startItem { p with dt := { p.dt with items := p.dt.items.map Item.start } }

/-! ## Supersede (R13) -/

/-- An item is skipped by the supersede of dwell `dwell`: it is DEFERRED, or STARTED with no output (R13). -/
def Part.itemSkipped (p : Part) (dwell : Nat) (i : Item) : Bool :=
  match i.state with
  | .complete => false
  | .deferred => true
  | .started =>
    match i.kind with
    | .load =>
      match p.lcu.feed with
      | .idle => true
      | .feeding _ d => d != dwell
    | .take m =>
      match (p.channel m).pendingTake with
      | none => false
      | some t => t.dwell == dwell
    | .decision => true
    | .fire _ => false
    | .clear => false

/-- A skipped item of dwell `dwell` is settled (R13). -/
def Part.skipItem (dwell : Nat) (p : Part) (i : Item) : Part :=
  match i.kind with
  | .load => p.skipLoadItem
  | .take m => p.skipTakeItem m dwell
  | .decision => p.decidePocket i.pocket
  | .fire n => p.skipFireItem n i.pocket
  | .clear => p.skipClearItem i.pocket

/-- The replaced dwell is closed: its skipped items are settled in item order, and where there is one the DT writes
dwell skipped with the dwell's number and its offset (R13). -/
def Part.supersede (p : Part) (items : List Item) (dwell offset : Nat) : Part :=
  let skipped := items.filter (p.itemSkipped dwell)
  if skipped.isEmpty then p
  else (skipped.foldl (Part.skipItem dwell) p).event (.dwellSkipped dwell offset skipped.length)

/-! ## The index (R12) -/

/-- The next dwell number (R9). -/
def nextDwell (n : Nat) : Nat := (n + 1) % 4294967296

/-- D and the dwell number advance; the flag is cleared, PERMIT falls and the jam timer is cancelled; the replaced dwell
is closed (R3, R9, R12 to R14). -/
def Part.turnDial (p : Part) (g : Geometry) : Part :=
  let old := p.dt
  let q := { p with dt := { p.dt with offset := (old.offset + 1) % g.pockets, dwell := nextDwell old.dwell,
                                      permit := false, indexExpected := false, items := [] } }
  (q.setJam .stopped).supersede old.items old.dwell old.offset

/-- The new dwell takes its items, DEFERRED, or none in IDLE (R9). -/
def Part.openDwell (p : Part) (g : Geometry) : Part :=
  let items := if p.lsq.engine = .idle then [] else g.items p.dt.offset
  { p with dt := { p.dt with items, openedIn := p.lsq.engine } }

/-- A conditioned INDEX edge (R12, R17). The dwell skipped EVENT of a supersede is handed before the index while idle,
motion in halt or halt entered EVENT: the model's choice (log 13). -/
def Part.index (p : Part) : Part :=
  match p.dt.geometry with
  | none => p
  | some g =>
    let expected := p.dt.indexExpected
    let q := (p.turnDial g).openDwell g
    match p.lsq.engine with
    | .unconfigured => p
    | .idle => if expected then q else q.event (.indexWhileIdle q.dt.offset)
    | .run => if expected then q.startDeferred else q.raiseHalt .motion
    | .drain => if expected then q.startDeferred else q.raiseHalt .motion
    | .hold => if expected then q else q.raiseHalt .motion
    | .halt => if expected then q else q.event (.motionInHalt q.dt.offset q.dt.dwell)

/-- The jam timer expires: HALT cause JAM (R16). -/
def Part.jamExpires (p : Part) : Part := (p.setJam .stopped).raiseHalt .jam

end Sys2Proof.Machine
end

