-- ==== Sys2Proof/Machine/Plans.lean ====
section
/-! DEFINITION. The Plan Store's requests and the bin re-check (chapter 5). -/

namespace Sys2Proof.Machine

/-- The other slot. -/
def SlotId.other : SlotId → SlotId
  | .a => .b
  | .b => .a

/-- Replace slot `s` of the part. -/
def Part.setSlot (p : Part) (s : SlotId) (x : PlanSlot) : Part := p.setPs (p.ps.setSlot s x)

/-! ## STAGE PLAN (R78, R79) -/

/-- The greatest store address at which a plan header lies within the store (R78). -/
def lastHeaderAddress : Nat := 0x1FFFE0

/-- Tests 4 to 6 of R78, as the bits of an IN USE result word that say which would fail (12.4). -/
def Ps.inUseBits (ps : Ps) (s : SlotId) : Nat :=
  (if ps.loadSlot = some s then 1 else 0) + (if ps.pendingSwitch.map PendingSwitch.slot = some s then 2 else 0) +
    (if (ps.slot s).refs = 0 then 0 else 4)

/-- STAGE PLAN's tests (R78): the refusal, or the slot to load. -/
def Part.stageTests (p : Part) : Except Result SlotId :=
  if p.lsq.engine = .unconfigured then .error { code := .refusedState }
  else
    match slotOfCode (p.arg 4 1) with
    | none => .error { code := .refusedArgument }
    | some s =>
      let a := p.arg 8 4
      if a % 8 = 0 ∧ a ≤ lastHeaderAddress then
        if p.ps.inUseBits s = 0 then .ok s
        else .error { code := .inUse, word := p.ps.inUseBits s + 256 * ((p.ps.slot s).refs % 256) }
      else .error { code := .refusedArgument }

/-- STAGE PLAN (R78, R79): the slot enters LOADING, losing its plan, and the header's reads are filed. -/
def Part.stagePlan (p : Part) : Part :=
  match p.stageTests with
  | .error r => p.endRequest r
  | .ok s =>
    let a := p.arg 8 4
    let q := p.beginWork.setSlot s { p.ps.slot s with state := .loading, plan := none }
    { q with ps := { q.ps with staging := some { slot := s, address := a, data := [] } } }.fileBulk
      (readRequests a 32 .plan)

/-! ## The checks of an image (R80) -/

/-- The image ends within the store (R80, check 2). -/
def imageExtentOk (address : Nat) (b : List Byte) : Bool := decide (address + Image.length b ≤ 0x200000)

/-- The row count lies in 1 to 48 (R80, check 1). -/
def imageCountOk (b : List Byte) : Bool := decide (1 ≤ Image.rowCount b ∧ Image.rowCount b ≤ 48)

/-- The rows of the image are read: the row count and the extent pass (R79). -/
def imageRowsRead (address : Nat) (b : List Byte) : Bool := imageCountOk b && imageExtentOk address b

/-- An optional bin is absent or below the gate count. -/
def binFieldOk (gates : Nat) (b : Option Nat) : Bool :=
  match b with
  | none => true
  | some n => decide (n < gates)

/-- A window bound lies in the deviation range (R75). -/
def windowBoundOk (d : Int) : Bool := decide (d.natAbs ≤ maxDeviation)

/-- The first pair whose check fails gives its code. -/
def firstFailing : List (Nat × Bool) → Option Nat
  | [] => none
  | (code, ok) :: rest => if ok then firstFailing rest else some code

/-- Checks 6 to 11 of R80 on row `r`. -/
def rowCheck (gates : Nat) (b : List Byte) (r : Nat) : Option Nat :=
  let alts := Image.alternates b r
  firstFailing
    [(6, windowBoundOk (Image.low b r) && windowBoundOk (Image.high b r)),
     (7, decide (Image.low b r ≤ Image.high b r)),
     (8, decide (Image.target b r < gates)),
     (9, decide (Image.alternateCount b r ≤ 2)),
     (10, alts.all (fun n => n < gates)),
     (11, !alts.contains (Image.target b r) && decide alts.Nodup)]

/-- The first row from `r` on, of `n` rows, that fails a check, with the check. -/
def firstFailingRow (gates : Nat) (b : List Byte) : Nat → Nat → Option (Nat × Nat)
  | 0, _ => none
  | n + 1, r =>
    match rowCheck gates b r with
    | some code => some (r, code)
    | none => firstFailingRow gates b n (r + 1)

/-- The location and code of the first check of R80 that fails. -/
def imageFailure (geometry : Option Geometry) (address : Nat) (b : List Byte) : Option (Nat × Nat) :=
  let gates :=
    match geometry with
    | none => 0
    | some g => g.gates.length
  match firstFailing
      [(1, imageCountOk b), (2, imageExtentOk address b), (3, geometry.isSome),
       (4, binFieldOk gates (Image.reject b) && binFieldOk gates (Image.fail b) && binFieldOk gates (Image.spread b) &&
         binFieldOk gates (Image.overflow b)),
       (5, !Image.spreadCheck b || decide (1 ≤ Image.spreadLimit b ∧ Image.spreadLimit b ≤ maxDeviation))] with
  | some code => some (255, code)
  | none => firstFailingRow gates b (Image.rowCount b) 0

/-- The reads of a staging have all been granted: the header and, where they are read, the rows (R79). -/
def Staging.complete (w : Staging) : Bool :=
  if imageRowsRead w.address w.data then w.data.length == Image.length w.data else w.data.length == 32

/-- The staging ends (R80): the slot becomes STAGED or EMPTY, the EVENT is handed, the request ends. -/
def Part.endStaging (p : Part) (w : Staging) : Part :=
  let id := Image.id w.data
  let rows := Image.rowCount w.data
  let q := { p with ps := { p.ps with staging := none } }
  match imageFailure p.dt.geometry w.address w.data with
  | some (location, code) =>
    ((q.setSlot w.slot { q.ps.slot w.slot with state := .empty, plan := none }).event
      (.planStaged w.slot .planInvalid id rows location code)).endRequest
        { code := .planInvalid, word := location + 256 * code }
  | none =>
    ((q.setSlot w.slot { q.ps.slot w.slot with state := .staged, plan := some (Image.plan w.data) }).event
      (.planStaged w.slot .ok id rows 0 0)).endRequest { code := .ok, word := id }

/-! ## SWITCH PLAN (R84) -/

/-- The result of an accepted or refused SWITCH PLAN: the switch replaced or withdrawn, slot and sequence number, 0 for
none (R84, 12.4). -/
def switchResult (code : ResultCode) (before : Option PendingSwitch) : Result :=
  { code, word := SlotId.code (before.map PendingSwitch.slot),
    extension := some (extensionFields [(before.map PendingSwitch.sequence).getD 0]) }

/-- SWITCH PLAN is refused: no switch is replaced or withdrawn. -/
def Part.refuseSwitch (p : Part) (code : ResultCode) : Part := p.endRequest (switchResult code none)

/-- SWITCH PLAN (R84). -/
def Part.switchPlan (p : Part) : Part :=
  let sequence := p.arg 8 4
  let e := p.lsq.engine
  if e = .unconfigured ∨ e = .idle then p.refuseSwitch .refusedState
  else
    match slotOfCode (p.arg 4 1) with
    | none => p.refuseSwitch .refusedArgument
    | some s =>
      if sequence = 0 then p.refuseSwitch .refusedArgument
      else if (p.ps.slot s).state ≠ .staged then p.refuseSwitch .refusedState
      else
        let next : Option PendingSwitch := if p.ps.loadSlot = some s then none else some { slot := s, sequence }
        (p.setPs { p.ps with pendingSwitch := next }).endRequest (switchResult .ok p.ps.pendingSwitch)

/-! ## The bin re-check (R89) -/

/-- Every target and alternate of the row is below the gate count. -/
def PlanRow.binsBelow (r : PlanRow) (gates : Nat) : Bool := decide (r.target < gates) && r.alternates.all (fun n => n < gates)

/-- The location that the re-check of a plan reports: HEADER where a special bin fails, else the lowest row that fails
(R89, log 31). -/
def Plan.binFailure (pl : Plan) (gates : Nat) : Option Nat :=
  if binFieldOk gates pl.reject && binFieldOk gates pl.fail && binFieldOk gates pl.spread && binFieldOk gates pl.overflow then
    pl.rows.findIdx? (fun r => !r.binsBelow gates)
  else some 255

/-- The re-check of slot `s` at a CONFIGURE that passes (R89). -/
def Part.recheckSlot (p : Part) (gates : Nat) (s : SlotId) : Part :=
  match (p.ps.slot s).state, (p.ps.slot s).plan with
  | .staged, some pl =>
    match pl.binFailure gates with
    | none => p
    | some location =>
      (p.setSlot s { p.ps.slot s with state := .empty, plan := none }).event (.planDropped s pl.id location)
  | _, _ => p

end Sys2Proof.Machine
end

