-- ==== Sys2Proof/Machine/Lots.lean ====
section
/-! DEFINITION. The Lot Sequencer's requests (chapter 8), with METER RESTART (R46), SET THINNING (R24) and PORT WRITE
(R149). -/

namespace Sys2Proof.Machine

/-! ## START LOT (R132 to R136) -/

/-- The nominal that START LOT carries (12.4). -/
def Part.nominalArg (p : Part) : Nominal :=
  { mantissa := p.arg 8 4, exponent := p.arg 17 1, current := p.arg 18 1 }

/-- The channel checks of R45. -/
def Nominal.ok (n : Nominal) : Bool := decide (n.mantissa ≠ 0 ∧ n.exponent ≤ 7 ∧ n.current ≤ 15)

/-- A context address of 0xFFFFFFFF means none (R194). -/
def contextOfArg (a : Nat) : Option Nat := if a = 0xFFFFFFFF then none else some a

/-- Test 6 of R132. -/
def contextAddressOk (a : Option Nat) : Bool :=
  match a with
  | none => true
  | some x => decide (x % 8 = 0 ∧ x ≤ 0x1FFFD0)

/-- START LOT's tests (R132): the refusal, or the plan slot. -/
def Part.startLotTests (p : Part) : Except Result SlotId :=
  if p.lsq.engine ≠ .idle then .error { code := .refusedState }
  else if p.lsq.completion.isSome then .error { code := .busy }
  else if p.arg 4 4 = 0 then .error { code := .refusedArgument }
  else if p.nominalArg.ok = false then .error { code := .refusedArgument }
  else
    match slotOfCode (p.arg 16 1) with
    | none => .error { code := .refusedArgument }
    | some s =>
      if (p.ps.slot s).state ≠ .staged then .error { code := .refusedArgument }
      else if contextAddressOk (contextOfArg (p.arg 12 4)) = false then .error { code := .refusedArgument }
      else .ok s

/-- Replace the START LOT work. -/
def Part.setStartLot (p : Part) (w : Option StartLotWork) : Part := { p with lsq := { p.lsq with startLot := w } }

/-- The setup of one channel under START LOT: a used channel takes the nominal and enters SETUP (R45). -/
def Part.setupUnderLot (nominal : Nominal) (flt : Four Bool) (p : Part) (m : Meter) : Part :=
  if p.usedMeter m then
    (p.setChannel m { p.channel m with nominal := some nominal }).enterSetup m .startLot (flt.get m)
  else p

/-- The setups begin (R45, R134): the used channels enter SETUP together, which gives no order of their work; the model
goes from MC0 to MC3 (log 49). -/
def Part.beginSetups (p : Part) (w : StartLotWork) (resumed : Option (Nat × LotCounters)) (flt : Four Bool) : Part :=
  let q := p.setStartLot (some { w with phase := .setups resumed (Four.const none) })
  allMeters.foldl (Part.setupUnderLot w.nominal flt) q

/-- START LOT (R132): refused, or on to the context read (R133) or the setups (R134). -/
def Part.startLot (p : Part) (flt : Four Bool) : Part :=
  match p.startLotTests with
  | .error r => p.endRequest r
  | .ok s =>
    let context := contextOfArg (p.arg 12 4)
    let w : StartLotWork := { lot := p.arg 4 4, nominal := p.nominalArg, slot := s, context, phase := .context [] }
    match context with
    | none => p.beginWork.beginSetups w none flt
    | some a => (p.beginWork.setStartLot (some w)).fileBulk (readRequests a 48 .context)

/-- The lot context has been read (R133). -/
def Part.contextRead (p : Part) (w : StartLotWork) (data : List Byte) (flt : Four Bool) : Part :=
  if Context.lot data = w.lot then
    p.beginSetups w (some (Context.nextSequence data, Context.counters data)) flt
  else (p.setStartLot none).endRequest { code := .contextInvalid, word := Context.lot data }

/-- Every used channel's setup has ended (R134). -/
def Part.setupsEnded (p : Part) (outcomes : Four (Option ChannelCause)) : Bool :=
  allMeters.all (fun m => !p.usedMeter m || (outcomes.get m).isSome)

/-- Every PRIMARY and SECOND channel's setup succeeded (R134). -/
def Part.setupsPassed (p : Part) (outcomes : Four (Option ChannelCause)) : Bool :=
  allMeters.all (fun m =>
    !((p.channel m).role == .primary || (p.channel m).role == .second) || outcomes.get m == some .online)

/-- The result word: byte `m` the channel cause of channel `m`, 0xFF for an unused one (12.4, R191). -/
def setupWord (outcomes : Four (Option ChannelCause)) : Nat :=
  leNat (outcomes.toList.map (fun o => BitVec.ofNat 8 (o.getD .unused).code))

/-- A hold cause joins where its condition is present (R135, step 2). -/
def Part.joinIfPresent (p : Part) (c : HoldCause) : Part := if p.holdCondition c then p.addHoldCause c else p

/-- The engine enters RUN, or HOLD where a cause is in the set (R135, step 3). -/
def Part.enterOpenLot (p : Part) : Part := if p.lsq.holds.isEmpty then p.enterEngine .run else p.enterHold

/-- The lot opens, as one change (R135). A catch pulse of before runs on and reports no more (R19, R31). The causes
present join in the order DOOR, AIR, METER, which R135 leaves open (log 48). -/
def Part.openLot (p : Part) (w : StartLotWork) (resumed : Option (Nat × LotCounters)) : Part :=
  let first :=
    match resumed with
    | none => 1
    | some r => r.1
  let counters :=
    match resumed with
    | none => LotCounters.zero
    | some r => r.2
  let q := { p with
    lsq := { p.lsq with lot := some { number := w.lot, context := w.context }, lotMode := .run, startLot := none }
    lcu := { p.lcu with nextSequence := first, thinning := 7, feed := .idle, clearJet := p.lcu.clearJet.orphan, counters }
    ps := { p.ps with loadSlot := some w.slot } }
  let q := (((q.joinIfPresent .door).joinIfPresent .air).joinIfPresent .meter).enterOpenLot
  (Part.asOneChange p q).handOff (.lotOpen w.lot first (q.planId w.slot) w.slot resumed.isSome)

/-- The outcomes of the setups are combined (R134). -/
def Part.combineSetups (p : Part) (w : StartLotWork) (resumed : Option (Nat × LotCounters))
    (outcomes : Four (Option ChannelCause)) : Part :=
  if p.setupsPassed outcomes then (p.openLot w resumed).endRequest { code := .ok, word := setupWord outcomes }
  else (p.setStartLot none).endRequest { code := .meterFailed, word := setupWord outcomes }

/-! ## END LOT and ABORT LOT (R137, R138) -/

/-- From RUN the engine enters DRAIN; the lot mode becomes DRAIN in every case: one change (R137, R138). -/
def Part.drain (p : Part) : Part :=
  let q := p.setLsq { p.lsq with lotMode := .drain }
  if p.lsq.engine = .run then Part.asOneChange p (q.enterEngine .drain) else q

/-- END LOT (R137). -/
def Part.endLot (p : Part) : Part :=
  let e := p.lsq.engine
  if e ≠ .run ∧ e ≠ .drain ∧ e ≠ .hold then p.endRequest { code := .refusedState }
  else if p.lsq.parked.isSome then p.endRequest { code := .busy }
  else
    let q := p.setLsq { p.lsq with parked := some { kind := .endLot, routed := 0 } }
    q.parkCurrent.drain

/-- The parked request is an ABORT LOT. -/
def Part.abortParked (p : Part) : Bool :=
  match p.lsq.parked with
  | none => false
  | some k => k.kind == .abortLot

/-- ABORT LOT (R138). -/
def Part.abortLot (p : Part) : Part :=
  if p.lsq.engine.inLot = false then p.endRequest { code := .refusedState }
  else if p.abortParked then p.endRequest { code := .busy }
  else
    let q := (p.endParked { code := .superseded }).parkCurrent
    let q := q.setLsq { q.lsq with parked := some { kind := .abortLot, routed := 0 } }
    let (q, n) := q.catchAll .aborted
    let q := q.setLsq { q.lsq with parked := some { kind := .abortLot, routed := n } }
    let q := q.withdrawFeed.drain
    (q.event (.lotAborted q.lotNumber n q.dt.offset)).proceedLoad

/-! ## Lot close (R140, R141) -/

/-- The context snapshot (R140, R150). -/
def Part.snapshot (p : Part) : LotContext :=
  { lot := p.lotNumber, nextSequence := p.lcu.nextSequence, counters := p.lcu.counters,
    ended :=
      match p.lsq.parked with
      | none => .endLot
      | some k => k.kind }

/-- A RESERVED pocket is withdrawn (R8, R25). -/
def withdrawReservation (p : Part) (k : Nat) : Part :=
  match p.pocket k with
  | .reserved set => (p.rejoinPending set).setPocket k .vacant
  | .vacant => p
  | .carry _ => p
  | .routed _ _ => p
  | .spent _ _ _ => p
  | .stray => p

/-- The pending switch is withdrawn at lot close, with its EVENT (R86). -/
def Part.withdrawSwitch (p : Part) : Part :=
  match p.ps.pendingSwitch with
  | none => p
  | some w =>
    { p with ps := { p.ps with pendingSwitch := none } }.event
      (.switchWithdrawn w.slot w.sequence p.lcu.nextSequence)

/-- The context write requests of a lot, where it has a context address (R140). -/
def contextWrites (lot : Option Lot) (c : LotContext) : List StoreRequest :=
  match lot with
  | none => []
  | some l =>
    match l.context with
    | none => []
    | some a => writeRequests (cellsAt a c.bytes) .context

/-- Lot close, as one change (R140). -/
def Part.lotClose (p : Part) : Part :=
  let c := p.snapshot
  let writes := contextWrites p.lsq.lot c
  let q := p.enterEngine .idle
  let q := { q with lsq := { q.lsq with lotMode := .none, lot := none } }.withdrawFeed
  let q := (List.range q.dt.pockets.length).foldl withdrawReservation q
  let q := { q with ps := { q.ps with loadSlot := none } }.withdrawSwitch
  let q := (q.handOff (.lotClose c)).fileBulk writes
  let done : CloseCompletion := { snapshot := c, published := false, writesLeft := writes.length }
  Part.asOneChange p { q with lsq := { q.lsq with completion := some done } }

/-- The close completion has nothing outstanding (R141). -/
def CloseCompletion.ended (c : CloseCompletion) : Bool := c.published && (c.writesLeft == 0)

/-- The fields of the extension of a parked request's result (R137, R138, 12.4). -/
def parkedFields (k : Parked) (c : LotContext) : List Nat :=
  match k.kind with
  | .endLot => [c.nextSequence, c.counters.loaded]
  | .abortLot => [c.counters.ejected, c.counters.caught, c.counters.missed, c.counters.lost]

/-- The result of the parked request at lot close (R137, R138, 12.4). -/
def parkedResult (k : Parked) (c : LotContext) : Result :=
  { code := .ok, word := (match k.kind with | .endLot => c.lot | .abortLot => k.routed),
    extension := some (extensionFields (parkedFields k c)) }

/-- The close completion ends (R141). -/
def Part.endCompletion (p : Part) (c : CloseCompletion) : Part :=
  let q := p.setLsq { p.lsq with completion := none, parked := none }
  match p.lsq.parked with
  | none => q
  | some k => q.endParked (parkedResult k c.snapshot)

/-! ## HOLD, RESUME, CLEAR HALT (R144, R145, R147) -/

/-- HOLD (R144). -/
def Part.holdRequest (p : Part) : Part :=
  if p.lsq.engine.inLot then (p.raiseHold .requested).endRequest { code := .ok }
  else p.endRequest { code := .refusedState }

/-- The causes of the set whose condition is present, and those whose condition is absent (R145). -/
def Part.remainingCauses (p : Part) : HoldCauses :=
  let h := p.lsq.holds
  { requested := false, door := h.door && p.holdCondition .door, air := h.air && p.holdCondition .air,
    meter := h.meter && p.holdCondition .meter }

/-- The causes of `s` that are not in `t`. -/
def HoldCauses.without (s t : HoldCauses) : HoldCauses :=
  ⟨s.requested && !t.requested, s.door && !t.door, s.air && !t.air, s.meter && !t.meter⟩

/-- The engine enters the state the lot mode names, and the DEFERRED items of the dwell start (R10, R145). -/
def Part.enterLotMode (p : Part) : Part :=
  match p.lsq.lotMode with
  | .none => p
  | .run => (p.enterEngine .run).startDeferred
  | .drain => (p.enterEngine .drain).startDeferred

/-- RESUME (R145). -/
def Part.resume (p : Part) : Part :=
  if p.lsq.engine ≠ .hold then p.endRequest { code := .refusedState }
  else
    let remaining := p.remainingCauses
    let removed := p.lsq.holds.without remaining
    let q := p.setLsq { p.lsq with holds := remaining }
    let q := if remaining.isEmpty then q.enterLotMode else q
    let q := q.event (.resumed removed remaining q.dt.offset)
    q.endRequest (if remaining.isEmpty then { code := .ok } else { code := .partialHold, word := remaining.code })

/-- CLEAR HALT (R147). Only bit 0 of the purge flag is read (R192). -/
def Part.clearHalt (p : Part) : Part :=
  if p.lsq.engine ≠ .halt then p.endRequest { code := .refusedState }
  else
    let purge := p.arg 4 1 % 2 == 1
    let (q, n) := if purge then p.catchAll .purged else (p, 0)
    let q := (q.setLsq { q.lsq with haltCause := .none }).addHoldCause .requested
    let q := q.enterEngine .hold
    (q.event (.haltCleared purge n q.dt.offset)).endRequest { code := .ok, word := n }

/-! ## METER RESTART, SET THINNING, PORT WRITE (R46, R24, R149) -/

/-- The channel that METER RESTART names. -/
def Part.channelArg (p : Part) : Option Meter :=
  match p.arg 4 1 with
  | 0 => some 0
  | 1 => some 1
  | 2 => some 2
  | 3 => some 3
  | _ => none

/-- METER RESTART (R46). -/
def Part.meterRestart (p : Part) (flt : Bool) : Part :=
  if p.lsq.engine = .unconfigured then p.endRequest { code := .refusedState }
  else
    match p.channelArg with
    | none => p.endRequest { code := .refusedArgument }
    | some m =>
      let c := p.channel m
      if c.state = .unused then p.endRequest { code := .refusedArgument }
      else if c.state = .online ∨ c.state = .setup ∨ c.nominal = none then p.endRequest { code := .refusedState }
      else p.beginWork.enterSetup m .meterRestart flt

/-- SET THINNING (R24). -/
def Part.setThinning (p : Part) : Part :=
  let r := p.arg 4 1
  if p.lsq.engine = .unconfigured then p.endRequest { code := .refusedState }
  else if r = 1 ∨ r = 2 ∨ r = 4 ∨ r = 8 then
    { p with lcu := { p.lcu with forcedRatio := r } }.endRequest { code := .ok }
  else p.endRequest { code := .refusedArgument }

/-- The result of a PORT WRITE carries the latch as it stands at the result write (R149, log 25). -/
def Part.endPortWrite (p : Part) (code : ResultCode) : Part :=
  p.endRequestAs { code, word := p.lsq.portLatch.toNat } WriteEffect.portResult

/-- PORT WRITE (R149). -/
def Part.portWrite (p : Part) : Part :=
  let v := p.arg 4 2
  if p.lsq.engine = .unconfigured then p.endPortWrite .refusedState
  else if 0xFF < v then p.endPortWrite .refusedArgument
  else (p.setLsq { p.lsq with portLatch := BitVec.ofNat 8 v }).endPortWrite .ok

/-- A kind that names none of the twelve (R158). -/
def Part.unknownRequest (p : Part) : Part := p.endRequest { code := .unknown }

end Sys2Proof.Machine
end

