-- ==== Sys2Proof/Machine/Commit.lean ====
section
/-! DEFINITION. What follows every command that changes the part: the RQX takes the next post (R156), PERMIT follows its
conditions (R14), and the writes of the status items changed are requested (R180). -/

namespace Sys2Proof.Machine

/-- The store address of request slot `i` (R152). -/
def slotAddress (base i : Nat) : Nat := base + 32 * i

/-- With no current request and none being read, and no configure in progress, the RQX takes the head of the post queue
and requests the read of its slot (R156, R181). -/
def Part.fetchPost (p : Part) : Part :=
  match p.rqx.current, p.rqx.reading, p.rqx.base, p.rqx.posts with
  | none, none, some base, slot :: rest =>
    if p.cfg.inProgress then p
    else
      let a := slotAddress base slot
      { p.fileRequest (readRequests a 32 .slot) with
        rqx := { p.rqx with posts := rest, reading := some { slot, address := a, data := none } } }
  | _, _, _, _ => p

/-- PERMIT rises: index expected is set and the jam timer starts from the full interval (R14 to R16). -/
def Part.raisePermit (p : Part) : Part :=
  let q := { p with dt := { p.dt with permit := true, indexExpected := true } }
  match p.dt.geometry with
  | none => q
  | some g => q.setJam (Timer.start g.jam)

/-- PERMIT falls for a cause other than an index: the jam timer is cancelled, index expected stays (R14, R15). -/
def Part.dropPermit (p : Part) : Part := ({ p with dt := { p.dt with permit := false } }).setJam .stopped

/-- PERMIT follows its three conditions (R14). -/
def Part.settlePermit (p : Part) : Part :=
  if p.permitConditions then (if p.dt.permit then p else p.raisePermit)
  else if p.dt.permit then p.dropPermit
  else p

/-- What follows a command that took the part from `before` to `after`. -/
def Part.commit (before after : Part) : Part := Part.requestChanged before after.fetchPost.settlePermit

/-- A command that changes the part alone. -/
def State.onPart (s : State) (f : Part → Part) : Host.Outcome State Fault Refusal :=
  .next { s with part := Part.commit s.part (f s.part) }

/-- A command that changes the part alone and whose occasion must hold; otherwise it has no effect (log 1). -/
def State.onOccasion (s : State) (occasion : Bool) (f : Part → Part) : Host.Outcome State Fault Refusal :=
  if occasion then s.onPart f else .next s

/-- A request row: it executes the current request where that is of its kind and not yet begun (log 2). -/
def State.onRequest (s : State) (kind : Nat) (f : Part → Part) : Host.Outcome State Fault Refusal :=
  s.onOccasion (s.part.requestOfKind kind).isSome f

end Sys2Proof.Machine
end

