-- ==== Sys2Proof/Machine/Requests.lean ====
section
/-! DEFINITION. The meanings of the request rows, and of the steps that go on with a request (chapters 5 and 8). -/

namespace Sys2Proof.Machine

/-- START LOT (R132). -/
def execStartLot (flt : Four Bool) (s : State) : Host.Outcome State Fault Refusal :=
  s.onRequest 1 (fun p => p.startLot flt)

/-- The bytes of the lot context, where the whole of it has been read (R133). -/
def Part.contextComplete (p : Part) : Option (StartLotWork × List Byte) :=
  match p.lsq.startLot with
  | none => none
  | some w =>
    match w.phase with
    | .context data => if data.length = 48 then some (w, data) else none
    | .setups _ _ => none

/-- The lot context has been read (R133). -/
def execContextReadDone (flt : Four Bool) (s : State) : Host.Outcome State Fault Refusal :=
  match s.part.contextComplete with
  | none => .next s
  | some (w, data) => s.onPart (fun p => p.contextRead w data flt)

/-- The setups of a START LOT, where all of them have ended (R134). -/
def Part.setupsComplete (p : Part) : Option (StartLotWork × Option (Nat × LotCounters) × Four (Option ChannelCause)) :=
  match p.lsq.startLot with
  | none => none
  | some w =>
    match w.phase with
    | .context _ => none
    | .setups resumed outcomes => if p.setupsEnded outcomes then some (w, resumed, outcomes) else none

/-- Every used channel's setup has ended (R134). -/
def execStartLotSetupsDone (s : State) : Host.Outcome State Fault Refusal :=
  match s.part.setupsComplete with
  | none => .next s
  | some (w, resumed, outcomes) => s.onPart (fun p => p.combineSetups w resumed outcomes)

/-- END LOT (R137). -/
def execEndLot (s : State) : Host.Outcome State Fault Refusal := s.onRequest 2 Part.endLot

/-- ABORT LOT (R138). -/
def execAbortLot (s : State) : Host.Outcome State Fault Refusal := s.onRequest 3 Part.abortLot

/-- STAGE PLAN (R78). -/
def execStagePlan (s : State) : Host.Outcome State Fault Refusal := s.onRequest 4 Part.stagePlan

/-- The staging whose reads have all been granted. -/
def Part.stagingComplete (p : Part) : Option Staging :=
  match p.ps.staging with
  | none => none
  | some w => if w.complete then some w else none

/-- The rows of a plan have been read, or its header fails (R80). -/
def execPlanStagingEnd (s : State) : Host.Outcome State Fault Refusal :=
  match s.part.stagingComplete with
  | none => .next s
  | some w => s.onPart (fun p => p.endStaging w)

/-- SWITCH PLAN (R84). -/
def execSwitchPlan (s : State) : Host.Outcome State Fault Refusal := s.onRequest 5 Part.switchPlan

/-- The row of BIN CONTROL whose action is `action` executes the request: the action is its own, or names none (log
23). -/
def Part.binOccasion (p : Part) (action : Nat) : Bool :=
  (p.requestOfKind 6).isSome && (p.arg 5 1 == action || decide (2 < p.arg 5 1))

/-- BIN CONTROL with action CLOSE (R126). -/
def execBinControlClose (s : State) : Host.Outcome State Fault Refusal :=
  s.onOccasion (s.part.binOccasion 0) (fun p => p.binControl (p.arg 5 1))

/-- BIN CONTROL with action OPEN (R127). -/
def execBinControlOpen (s : State) : Host.Outcome State Fault Refusal :=
  s.onOccasion (s.part.binOccasion 1) (fun p => p.binControl (p.arg 5 1))

/-- BIN CONTROL with action CAPACITY (R128). -/
def execBinControlCapacity (s : State) : Host.Outcome State Fault Refusal :=
  s.onOccasion (s.part.binOccasion 2) (fun p => p.binControl (p.arg 5 1))

/-- HOLD (R144). -/
def execHold (s : State) : Host.Outcome State Fault Refusal := s.onRequest 7 Part.holdRequest

/-- RESUME (R145). -/
def execResume (s : State) : Host.Outcome State Fault Refusal := s.onRequest 8 Part.resume

/-- CLEAR HALT (R147). -/
def execClearHalt (s : State) : Host.Outcome State Fault Refusal := s.onRequest 9 Part.clearHalt

/-- METER RESTART (R46). -/
def execMeterRestart (flt : Bool) (s : State) : Host.Outcome State Fault Refusal :=
  s.onRequest 10 (fun p => p.meterRestart flt)

/-- SET THINNING (R24). -/
def execSetThinning (s : State) : Host.Outcome State Fault Refusal := s.onRequest 11 Part.setThinning

/-- PORT WRITE (R149). -/
def execPortWrite (s : State) : Host.Outcome State Fault Refusal := s.onRequest 12 Part.portWrite

/-- The current request's kind names none of the twelve. -/
def Part.unknownCurrent (p : Part) : Bool :=
  match p.rqx.current with
  | none => false
  | some c => (c.kind == 0 || decide (12 < c.kind)) && !c.executing

/-- A request whose kind names none of the twelve (R158). -/
def execUnknown (s : State) : Host.Outcome State Fault Refusal := s.onOccasion s.part.unknownCurrent Part.unknownRequest

/-- Lot close (R140). -/
def execLotClose (s : State) : Host.Outcome State Fault Refusal := s.onOccasion s.part.closeConditions Part.lotClose

/-- The close completion, where nothing of it is outstanding. -/
def Part.completionEnded (p : Part) : Option CloseCompletion :=
  match p.lsq.completion with
  | none => none
  | some c => if c.ended then some c else none

/-- The close completion ends (R141). -/
def execCloseCompletionEnd (s : State) : Host.Outcome State Fault Refusal :=
  match s.part.completionEnded with
  | none => .next s
  | some c => s.onPart (fun p => p.endCompletion c)

/-! ## Meter events -/

/-- ACQ rises (R52). -/
def execAcqRise (m : Meter) (s : State) : Host.Outcome State Fault Refusal := s.onPart (fun p => p.acqRises m)

/-- ACQ falls (R52). -/
def execAcqFall (m : Meter) (s : State) : Host.Outcome State Fault Refusal := s.onPart (fun p => p.acqFalls m)

/-- RDY rises (R55). -/
def execRdyRise (m : Meter) (s : State) : Host.Outcome State Fault Refusal := s.onPart (fun p => p.rdyRises m)

/-- FLT rises (R57). -/
def execFltRise (m : Meter) (s : State) : Host.Outcome State Fault Refusal := s.onPart (fun p => p.fltRises m)

/-- The frame being sent on the link, if any. -/
def Link.frame : Link → Option Frame
  | .idle => none
  | .sending f => some f
  | .receiving _ => none

/-- The transfer of a frame to the meter ends (R51). -/
def execMeterFrameSent (m : Meter) (s : State) : Host.Outcome State Fault Refusal :=
  match (s.part.channel m).link.frame with
  | none => .next s
  | some f => s.onPart (fun p => p.frameSent m f)

/-- The pending take that may be sent now (R50). -/
def Channel.sendablePending (c : Channel) : Option PendingTake := if c.canSend then c.pendingTake else none

/-- A pending take is sent or withdrawn (R50). -/
def execPendingTakeSent (m : Meter) (s : State) : Host.Outcome State Fault Refusal :=
  match (s.part.channel m).sendablePending with
  | none => .next s
  | some t => s.onPart (fun p => p.pendingTakeDue m t)

/-- The REPORT transfer on the link, if any: whether it is discarded. -/
def Link.report : Link → Option Bool
  | .idle => none
  | .sending _ => none
  | .receiving discard => some discard

/-- A REPORT transfer ends (R40). -/
def execReport (m : Meter) (frame : List Byte) (s : State) : Host.Outcome State Fault Refusal :=
  match (s.part.channel m).link.report with
  | none => .next s
  | some discard => s.onPart (fun p => p.reportEnded m frame discard)

end Sys2Proof.Machine
end

