-- ==== Sys2Proof/Machine/Journal.lean ====
section
/-! DEFINITION. The Journal Writer (chapter 9): the test and the writing of a record, the publish, the reclaim, backlog,
age and level. -/

namespace Sys2Proof.Machine

/-- The store address of the journal header (12.3). -/
def journalHeader : Nat := 0x000400

/-! ## Writing (R165) -/

/-- The outcome of the test of a record against the area. -/
inductive Room where
  /-- The record goes at this offset, after a PAD of `pad` bytes at the fill offset (0 for none); the fill offset and
  the wrap count that its publish carries. -/
  | fits (offset pad fill wrap : Nat)
  | noRoom
  deriving DecidableEq, Repr

/-- The wrap count raised by 1, wrapping (R161). -/
def nextWrap (n : Nat) : Nat := (n + 1) % 4294967296

/-- The test of a record of length `len` (R165). -/
def Jw.room (j : Jw) (a : JournalArea) (len : Nat) : Room :=
  let u := j.unreclaimed a
  if j.fill + len ≤ a.size then
    if u + len ≤ a.size - 8 then
      if j.fill + len = a.size then .fits j.fill 0 0 (nextWrap j.wrap) else .fits j.fill 0 (j.fill + len) j.wrap
    else .noRoom
  else if u + (a.size - j.fill) + len ≤ a.size - 8 then .fits 0 (a.size - j.fill) len (nextWrap j.wrap)
  else .noRoom

/-- The write requests of a PAD of `pad` bytes at the fill offset: its header is its whole write (12.6). -/
def padWrites (a : JournalArea) (fill pad indexCount : Nat) : List StoreRequest :=
  if pad = 0 then [] else writeRequests (cellsAt (a.base + fill) (recordHeader 7 pad indexCount)) .plain

/-- The publish write: the fill offset and the wrap count; the reclaim word is left untouched (R165, R193). -/
def publishWrites (fill wrap : Nat) : List StoreRequest :=
  writeRequests (cellsAt journalHeader (leBytes 4 fill) ++ cellsAt (journalHeader + 8) (leBytes 4 wrap)) (.publish fill wrap)

/-- The head of the staging queue is tested: its writes are requested, or the writer waits (R165). A PAD's index count
is the dwell number as its write is requested, which R163 does not settle (log 53). -/
def Part.testHead (p : Part) : Part :=
  match p.jw.area, p.jw.queue with
  | some a, r :: _ =>
    match p.jw.room a r.body.length with
    | .noRoom => { p with jw := { p.jw with writer := .waiting } }
    | .fits offset pad fill wrap =>
      { p with jw := { p.jw with writer := .writing } }.fileJournal
        (padWrites a p.jw.fill pad p.indexCount ++ writeRequests (cellsAt (a.base + offset) r.bytes) .plain ++
          publishWrites fill wrap)
  | _, _ => p

/-- The writer is IDLE with a record to write. -/
def Part.writerDue (p : Part) : Bool := (p.jw.writer == .idle) && p.jw.area.isSome && !p.jw.queue.isEmpty

/-- The head of the staging queue is tested and its writes requested, or the writer waits (R165). -/
def execJournalRecordWrite (s : State) : Host.Outcome State Fault Refusal :=
  s.onOccasion s.part.writerDue Part.testHead

/-! ## Level, age, backlog (R167 to R169) -/

/-- The journal level is worked out again (R169). -/
def Part.settleLevel (p : Part) (a : JournalArea) : Part :=
  { p with jw := { p.jw with level := a.levelAt (p.jw.unreclaimed a) } }

/-- Start the age timer; with count 0 it is not started and stands STOPPED, also where a run begun under an earlier
interval of the same area was still going (R162, R168, R189, log 36). -/
def Part.startAge (p : Part) (a : JournalArea) : Part :=
  p.setAge (if IntervalCode.count a.age = 0 then .stopped else Timer.start a.age)

/-- A publish starts the age timer where it is stopped (R168). -/
def Part.ageAtPublish (p : Part) (a : JournalArea) : Part :=
  if p.lct.timers.age.isRunning then p else p.startAge a

/-- An accepted reclaim restarts the age timer, or cancels it where nothing is left (R168). -/
def Part.ageAtReclaim (p : Part) (a : JournalArea) : Part :=
  if p.jw.unreclaimed a = 0 then p.setAge .stopped else p.startAge a

/-- A publish that finds the backlog threshold reached latches JOURNAL (R167). -/
def Part.checkBacklog (p : Part) (a : JournalArea) : Part :=
  if a.backlog ≤ p.jw.unreclaimed a then p.latch .journal else p

/-! ## The publish grant (R164, R165) -/

/-- A place has freed: the first waiting hand-off is accepted, and the CLEAR item that waits on it may complete
(R30, R164). -/
def Part.acceptWaiting (p : Part) : Part :=
  match p.jw.waiting with
  | [] => p
  | h :: rest =>
    let q := { p with jw := { p.jw with queue := p.jw.queue ++ [h.record], waiting := rest } }
    match h.clearDwell with
    | none => q
    | some d => q.tryCompleteClear d

/-- The head that leaves is a LOT CLOSE: it has been written and published (R141). -/
def Part.notePublished (p : Part) (head : Option JournalRecord) : Part :=
  match head, p.lsq.completion with
  | some r, some c => if r.body.kind = 5 then { p with lsq := { p.lsq with completion := some { c with published := true } } } else p
  | _, _ => p

/-- A publish write is granted (R165, R167 to R169). -/
def Part.published (p : Part) (fill wrap : Nat) : Part :=
  match p.jw.area with
  | none => p
  | some a =>
    let head := p.jw.queue.head?
    let q := { p with jw := { p.jw with fill, wrap, queue := p.jw.queue.tail, writer := .idle } }
    (((q.acceptWaiting.notePublished head).checkBacklog a).ageAtPublish a).settleLevel a

/-! ## Reclaim (R166) -/

/-- A reclaim value is valid (R166). -/
def Jw.reclaimOk (j : Jw) (a : JournalArea) (v : Nat) : Bool :=
  (v % 8 == 0) && decide (v < a.size) && decide (circleDistance a.size j.reclaim v ≤ circleDistance a.size j.reclaim j.fill)

/-- A waiting writer tests its head again (R166). -/
def Part.retest (p : Part) : Part := if p.jw.writer = .waiting then p.testHead else p

/-- The WU hands the JW a reclaim value (R166); while no area is held it is not handed on (R154). -/
def Part.reclaim (p : Part) (v : Nat) : Part :=
  match p.jw.area with
  | none => p
  | some a =>
    if p.jw.reclaimOk a v then
      (({ p with jw := { p.jw with reclaim := v } }.retest).settleLevel a).ageAtReclaim a
    else (p.latch .reclaim).event (.badReclaim v p.jw.reclaim p.jw.fill)

/-- The age timer expires (R168). -/
def Part.ageExpires (p : Part) : Part := (p.setAge .stopped).latch .journal

end Sys2Proof.Machine
end

