-- ==== Sys2Proof/Machine/Arbiter.lean ====
section
/-! DEFINITION. The Store Arbiter (R177 to R179) and what a grant brings about, with the Watch Unit (R154) and the taking
of a request slot (R156). -/

namespace Sys2Proof.Machine

/-! ## Choosing (R178, R179) -/

/-- The request that is granted next. -/
inductive Choice where
  | journal | status | request | bulk | hostWrite | hostRead
  deriving DecidableEq, Repr

/-- The request is a part write that a waiting host read must see (R179). -/
def StoreRequest.holds : StoreRequest → Bool
  | .write _ _ h => h
  | .read _ _ _ => false

/-- A part write requested before the waiting read's acceptance, in its block, is ungranted (R179). -/
def Sa.holdsRead (a : Sa) : Bool :=
  a.journal.any StoreRequest.holds || a.status.any StatusRequest.holdsRead || a.request.any StoreRequest.holds ||
    a.bulk.any StoreRequest.holds

/-- A host read has been accepted and waits. -/
def HostCycle.isRead : HostCycle → Bool
  | .none => false
  | .write _ _ => false
  | .readWaiting _ => false
  | .read _ => true

/-- The head of the PORT queue, where it may be granted: posted writes first, then the read (R174, R178). -/
def State.portChoice (s : State) : Option Choice :=
  match s.hp.buffer with
  | _ :: _ => some .hostWrite
  | [] => if s.hp.cycle.isRead ∧ s.part.sa.holdsRead = false then some .hostRead else none

/-- A PORT request waits (R178). -/
def HostPort.portWaits (h : HostPort) : Bool := !h.buffer.isEmpty || h.cycle.isRead

/-- The request that the SA grants next (R178); while the posted writes of a SOFT RESET drain, those alone (R184). The
reads of a CONFIGURE stand in BULK before the posted writes of PORT, those accepted before the CONTROL write too,
whatever R182 says of a block written before it (log 59). -/
def State.choice (s : State) : Option Choice :=
  if s.hp.draining then (if s.hp.buffer.isEmpty then none else some .hostWrite)
  else if s.hp.promotion = 8 ∧ s.portChoice.isSome then s.portChoice
  else if s.part.sa.journal ≠ [] then some .journal
  else if s.part.sa.status ≠ [] then some .status
  else if s.part.sa.request ≠ [] then some .request
  else if s.part.sa.bulk ≠ [] then some .bulk
  else s.portChoice

/-- A grant to a class other than PORT raises the promotion count while a PORT request waits; a rise at 8 leaves it at
8 (R178). -/
def HostPort.partGranted (h : HostPort) : HostPort :=
  if h.portWaits then { h with promotion := if h.promotion < 8 then h.promotion + 1 else 8 } else h

/-! ## Part writes -/

/-- The cells that a granted write stores; a PORT WRITE's result carries the latch as it stands now (R149). -/
def Part.grantedCells (p : Part) (cells : List Host.Cell) (e : WriteEffect) : List Host.Cell :=
  match e with
  | .plain => cells
  | .publish _ _ => cells
  | .done _ => cells
  | .context => cells
  | .portResult a => cells.map (fun c => if c.1 = a + 28 then (c.1, p.lsq.portLatch) else c)

/-- What the grant of a part write brings about (R141, R157, R165). -/
def Part.writeGranted (p : Part) (e : WriteEffect) : Part :=
  match e with
  | .plain => p
  | .publish fill wrap => p.published fill wrap
  | .done notify => if notify then p.latch .request else p
  | .context =>
    match p.lsq.completion with
    | none => p
    | some c => { p with lsq := { p.lsq with completion := some { c with writesLeft := c.writesLeft - 1 } } }
  | .portResult _ => p

/-! ## Part reads -/

/-- The staging has read more of its image; once the header is whole, the reads of its rows are filed, where they are
read (R79). -/
def Part.imageRead (p : Part) (bytes : List Byte) : Part :=
  match p.ps.staging with
  | none => p
  | some w =>
    let w := { w with data := w.data ++ bytes }
    let q := { p with ps := { p.ps with staging := some w } }
    if w.data.length = 32 ∧ imageRowsRead w.address w.data then
      q.fileBulk (readRequests (w.address + 32) (16 * Image.rowCount w.data) .plan)
    else q

/-- What the grant of a part read brings its owner. -/
def Part.readGranted (p : Part) (owner : ReadOwner) (bytes : List Byte) : Part :=
  match owner with
  | .configuration =>
    match p.cfg.work with
    | .none => p
    | .held => p
    | .reading data => { p with cfg := { p.cfg with work := .reading (data ++ bytes) } }
  | .context =>
    match p.lsq.startLot with
    | none => p
    | some w =>
      match w.phase with
      | .context data => p.setStartLot (some { w with phase := .context (data ++ bytes) })
      | .setups _ _ => p
  | .plan => p.imageRead bytes
  | .slot =>
    match p.rqx.reading with
    | none => p
    | some r => { p with rqx := { p.rqx with reading := some { r with data := some (r.data.getD [] ++ bytes) } } }

/-! ## The Watch Unit (R154, R155) -/

/-- A slot number is offered to the post queue (R155). -/
def Part.offerPost (p : Part) (slot : Nat) : Part :=
  if p.rqx.posts.contains slot then p else { p with rqx := { p.rqx with posts := p.rqx.posts ++ [slot] } }

/-- The slot whose state word lies at `a` (R152, R154). -/
def slotAt (base a : Nat) : Option Nat :=
  if base ≤ a ∧ a < base + 512 ∧ (a - base) % 32 = 0 then some ((a - base) / 32) else none

/-- The WU examines a granted host write for a posting write: one that was accepted while no request area base was held
is not recognised, whatever base is held by now (R154). -/
def Part.watchPost (p : Part) (w : PostedWrite) : Part :=
  match p.rqx.base with
  | none => p
  | some base =>
    match slotAt base w.address.toNat with
    | none => p
    | some slot => if w.watched ∧ w.value = 1 then p.offerPost slot else p

/-- The WU examines a reclaim write: the upper half of the reclaim word, with the 32-bit value the word then holds
(R154). -/
def Part.watchReclaim (p : Part) (a : Nat) (store : List Host.Cell) : Part :=
  if a = journalHeader + 6 then p.reclaim (leNat (Memory.readBytes store (journalHeader + 4) 4)) else p

/-- The two cells of a host word: the lower byte at the lower address (R171). -/
def wordCells (a : StoreAddr) (value : HostWord) : List Host.Cell := cellsAt a.toNat (leBytes 2 value.toNat)

/-! ## Grants -/

/-- A part request is granted. -/
def State.grantRequest (s : State) (r : StoreRequest) : State :=
  match r with
  | .write cells e _ =>
    { s with store := Memory.writeAll s.store (s.part.grantedCells cells e), part := s.part.writeGranted e,
             hp := s.hp.partGranted }
  | .read a n owner =>
    { s with part := s.part.readGranted owner (Memory.readBytes s.store a n), hp := s.hp.partGranted }

/-- A STATUS write is granted: it carries the item's value as it stands (R180). -/
def State.grantStatus (s : State) (i : StatusItem) : State :=
  { s with store := Memory.writeAll s.store (cellsAt i.address (s.part.statusBytes i)), hp := s.hp.partGranted }

/-- A waiting write cycle is accepted once the buffer has room (R173); `watched` says whether a request area base is
held now (R154). -/
def HostPort.acceptWrite (h : HostPort) (watched : Bool) : HostPort :=
  match h.cycle with
  | .write address value =>
    if h.draining = false ∧ h.buffer.length < 4 then
      match h.translate address with
      | .store a => { h with buffer := h.buffer ++ [{ address := a, value, watched }], cycle := .none }
      | .registers => { h with cycle := .none }
      | .disabled => { h with cycle := .none }
    else h
  | .none => h
  | .readWaiting _ => h
  | .read _ => h

/-- The WU and the RQX hold a request area base (R152). -/
def Part.watching (p : Part) : Bool := p.rqx.base.isSome

/-- A posted host write is granted: it is stored, and the WU examines it (R154, R173). The write cycle that waits for
its place is accepted at this moment. -/
def State.grantHostWrite (s : State) (w : PostedWrite) (rest : List PostedWrite) : State :=
  let store := Memory.writeAll s.store (wordCells w.address w.value)
  { s with
    store
    part := (s.part.watchPost w).watchReclaim w.address.toNat store
    hp := ({ s.hp with buffer := rest, promotion := 0 }).acceptWrite s.part.watching }

/-- The host read is granted: the word is returned and the cycle completes (R174). -/
def State.grantHostRead (s : State) (a : StoreAddr) : State :=
  { s with hp := { s.hp with data := BitVec.ofNat 16 (leNat (Memory.readBytes s.store a.toNat 2)), cycle := .none,
                             promotion := 0 } }

/-- Put the arbiter's queues in. -/
def State.setSa (s : State) (a : Sa) : State := { s with part := { s.part with sa := a } }

/-- The chosen request leaves its queue and is granted, whole (R177, R178). -/
def State.grant (s : State) : Choice → State
  | .journal =>
    match s.part.sa.journal with
    | [] => s
    | r :: rest => (s.setSa { s.part.sa with journal := rest }).grantRequest r
  | .status =>
    match s.part.sa.status with
    | [] => s
    | r :: rest => (s.setSa { s.part.sa with status := rest }).grantStatus r.item
  | .request =>
    match s.part.sa.request with
    | [] => s
    | r :: rest => (s.setSa { s.part.sa with request := rest }).grantRequest r
  | .bulk =>
    match s.part.sa.bulk with
    | [] => s
    | r :: rest => (s.setSa { s.part.sa with bulk := rest }).grantRequest r
  | .hostWrite =>
    match s.hp.buffer with
    | [] => s
    | w :: rest => s.grantHostWrite w rest
  | .hostRead =>
    match s.hp.cycle with
    | .read a => s.grantHostRead a
    | .none => s
    | .write _ _ => s
    | .readWaiting _ => s

/-- What follows a command that took the machine from `before` to `after`. -/
def State.commit (before after : State) : State := { after with part := Part.commit before.part after.part }

/-- One grant (R178). -/
def execStoreGrant (s : State) : Host.Outcome State Fault Refusal :=
  match s.choice with
  | none => .next s
  | some c => .next (State.commit s (s.grant c))

/-! ## The request slot (R156) -/

/-- The current request that the 32 bytes of a slot describe (12.4). -/
def requestOfSlot (r : SlotRead) (bytes : List Byte) : CurrentRequest :=
  { slot := r.slot, address := r.address, kind := fieldAt bytes 2 1, notify := fieldAt bytes 3 1 % 2 == 1,
    args := (bytes.drop 4).take 20, executing := false }

/-- The slot that has been read is taken, with its TAKEN write, or dropped where its state word is not POSTED (R156). -/
def Part.takeSlot (p : Part) : Part :=
  match p.rqx.reading with
  | none => p
  | some r =>
    match r.data with
    | none => p
    | some bytes =>
      if fieldAt bytes 0 2 = 1 then
        { p.fileRequest (writeRequests (cellsAt r.address (leBytes 2 2)) .plain) with
          rqx := { p.rqx with reading := none, current := some (requestOfSlot r bytes) } }
      else { p with rqx := { p.rqx with reading := none } }

/-- The slot read in flight has not been granted. -/
def Part.slotReadWaits (p : Part) : Bool :=
  match p.rqx.reading with
  | none => false
  | some r => r.data.isNone

/-- The head of the REQUEST queue is the slot read. -/
def Sa.slotReadAtHead (a : Sa) : Bool :=
  match a.request with
  | .read _ _ .slot :: _ => true
  | _ => false

/-- The RQX's slot read is granted, where the arbiter would grant it next, and the slot is taken or dropped; a slot read
that STORE_GRANT has granted already is taken or dropped (R156, log 8). -/
def execRequestSlotRead (s : State) : Host.Outcome State Fault Refusal :=
  if s.part.slotReadWaits then
    if s.choice = some .request ∧ s.part.sa.slotReadAtHead then
      let t := s.grant .request
      .next (State.commit s { t with part := t.part.takeSlot })
    else .next s
  else s.onOccasion s.part.rqx.reading.isSome Part.takeSlot

end Sys2Proof.Machine
end

