-- ==== Sys2Proof/Machine/Configure.lean ====
section
/-! DEFINITION. CONFIGURE (R181, R182): when it is taken, the checks of every block in order (R2, R20, R42, R61, R113,
R162), and the values a CONFIGURE that passes or fails gives each block. -/

namespace Sys2Proof.Machine

/-! ## Checks -/

/-- A check: whether it passes, its code, and the station number of a reference check. -/
structure Check where
  ok : Bool
  code : ConfigResult
  station : Option Meter := none
  deriving DecidableEq, Repr

/-- The list rises strictly. -/
def risesStrictly : List Nat → Bool
  | [] => true
  | [_] => true
  | a :: b :: rest => decide (a < b) && risesStrictly (b :: rest)

/-- The number of stations with the role code. -/
def roleCount (b : List Byte) (code : Nat) : Nat := (allMeters.filter (fun m => Block.roleCode b m == code)).length

/-- The position of the station with the role code; 0 with none. -/
def rolePosition (b : List Byte) (code : Nat) : Nat :=
  match allMeters.find? (fun m => Block.roleCode b m == code) with
  | none => 0
  | some m => Block.position b m

/-- Check 2 of R2, with R192's role above 3. -/
def rolesOk (b : List Byte) : Bool :=
  allMeters.all (fun m => decide (Block.roleCode b m ≤ 3)) && roleCount b 1 == 1 && decide (roleCount b 2 ≤ 1) &&
    decide (roleCount b 3 ≤ 1)

/-- Check 3 of R2. -/
def stationsOk (b : List Byte) : Bool :=
  (Block.usedPositions b).all (fun s => decide (1 ≤ s ∧ s < Block.pocketCount b)) && risesStrictly (Block.usedPositions b)

/-- Check 4 of R2. -/
def backupOk (b : List Byte) : Bool := roleCount b 3 == 0 || decide (rolePosition b 1 < rolePosition b 3)

/-- The position of the last used station. -/
def lastStation (b : List Byte) : Nat := (Block.usedPositions b).getLastD 0

/-- The geometry checks (R2). -/
def geometryChecks (b : List Byte) : List Check :=
  let p := Block.pocketCount b
  let dp := Block.decision b
  let g := Block.gateCount b
  [{ ok := decide (24 ≤ p ∧ p ≤ 192), code := .pocketCount },
   { ok := rolesOk b, code := .stationRoles },
   { ok := stationsOk b, code := .stationOrder },
   { ok := backupOk b, code := .stationRoles },
   { ok := decide (lastStation b < dp ∧ dp < p), code := .decisionPosition },
   { ok := decide (1 ≤ g ∧ g ≤ 32), code := .gateCount },
   { ok := risesStrictly (dp :: Block.gates b), code := .gateOrder },
   { ok := decide ((Block.gates b).getLastD dp < Block.clear b ∧ Block.clear b < p), code := .clearPosition },
   { ok := decide (IntervalCode.count (Block.jam b) ≠ 0), code := .jamInterval }]

/-- The LCU's and the meter channels' checks (R20, R42). -/
def intervalChecks (b : List Byte) : List Check :=
  [{ ok := decide (IntervalCode.count (Block.feedTimeout b) ≠ 0), code := .feedInterval },
   { ok := decide (IntervalCode.count (Block.catchPulse b) ≠ 0), code := .catchPulse },
   { ok := decide (IntervalCode.count (Block.takeTimeout b) ≠ 0), code := .takeInterval }]

/-- The reference checks of one used station (R61). -/
def referenceChecks (b : List Byte) (m : Meter) : List Check :=
  let t := Block.thresholds b m
  [{ ok := decide (t.due ≤ t.force ∧ t.force < t.limit), code := .referenceOrder, station := some m },
   { ok := decide (Block.position b m ≤ t.limit - t.force), code := .referenceMargin, station := some m },
   { ok := decide (t.drift ≠ 0), code := .driftLimit, station := some m }]

/-- The GBT's checks (R113). -/
def binChecks (b : List Byte) : List Check :=
  [{ ok := decide (IntervalCode.count (Block.ejectPulse b) ≠ 0), code := .ejectPulse },
   { ok := decide (Block.capacity b ≠ 0), code := .capacity },
   { ok := decide (1 ≤ Block.missLimit b ∧ Block.missLimit b ≤ 15), code := .missLimit }]

/-- The journal sizes accepted: the powers of two from 4 KB to 1 MB (R162). -/
def journalSizes : List Nat := (List.range 9).map (fun i => 4096 * 2 ^ i)

/-- Check 5 of R162. -/
def requestAreaOk (b : List Byte) : Bool :=
  let r := Block.requestBase b
  let j := Block.journalBase b
  decide (r % 512 = 0 ∧ 0x001000 ≤ r ∧ r + 512 ≤ 0x200000) && decide (r + 512 ≤ j ∨ j + Block.journalSize b ≤ r)

/-- The JW's and the WU's checks (R162). -/
def journalChecks (b : List Byte) : List Check :=
  let size := Block.journalSize b
  let base := Block.journalBase b
  [{ ok := journalSizes.contains size, code := .journalSize },
   { ok := decide (base % size = 0 ∧ base ≠ 0 ∧ base + size ≤ 0x200000), code := .journalPlace },
   { ok := decide (1 ≤ Block.t3 b ∧ Block.t3 b < Block.t2 b ∧ Block.t2 b < Block.t1 b ∧ Block.t1 b ≤ size),
     code := .thinningLevels },
   { ok := decide (8 ≤ Block.backlog b ∧ Block.backlog b ≤ size - 8), code := .backlog },
   { ok := requestAreaOk b, code := .requestArea }]

/-- Every check of R182, in order. -/
def configChecks (b : List Byte) : List Check :=
  geometryChecks b ++ intervalChecks b ++ ((Block.usedMeters b).map (referenceChecks b)).flatten ++ binChecks b ++
    journalChecks b

/-- The first check that fails (R182). -/
def configFailure (b : List Byte) : Option Check := (configChecks b).find? (fun c => !c.ok)

/-! ## Values after a CONFIGURE that passes -/

/-- The channel after a CONFIGURE that passes (R42). -/
def Channel.configured (c : Channel) (role : Role) : Channel :=
  { Channel.reset c.acq c.flt with state := if role = .unused then .unused else .offline, role }

/-- The entry of a used meter after a CONFIGURE that passes (R60). -/
def RefMeter.configuredUsed (t : Thresholds) : RefMeter :=
  { thresholds := some t, count := t.limit, urgency := .limit, cover := .pending, refs := [] }

/-- The entry of an unused meter after a CONFIGURE that passes (R60). -/
def RefMeter.configuredUnused : RefMeter :=
  { thresholds := none, count := 0, urgency := .current, cover := .none, refs := [] }

/-- The bin after a CONFIGURE that passes (R112). -/
def BinEntry.configured (b : List Byte) (chain : BitVec 64) (n : Nat) : BinEntry :=
  if n < Block.gateCount b then
    { BinEntry.reset with
      tube := chain.getLsbD n
      full := if (Block.fullSensors b).getLsbD n && chain.getLsbD (32 + n) then .sensor else .clear
      capacity := Block.capacity b }
  else BinEntry.reset

/-- The line after a CONFIGURE that passes (R185). -/
def Line.configured (l : Line) (code : Nat) : Line :=
  let low := decide (128 ≤ code)
  { l with lowActive := low, debounceMs := code % 16, stable := xor l.pin low, debounce := .settled }

/-- The direct lines after a CONFIGURE that passes (12.2). -/
def Lines.configured (x : Lines) (b : List Byte) : Lines :=
  ⟨x.index.configured (Block.lineByte b 0), x.placed.configured (Block.lineByte b 1), x.door.configured (Block.lineByte b 2),
   x.air.configured (Block.lineByte b 3), x.loadEye.configured (Block.lineByte b 4), x.clearEye.configured (Block.lineByte b 5)⟩

/-- The journal area of the block, with the values held like it (R162). -/
def Block.journalArea (b : List Byte) : JournalArea :=
  { base := Block.journalBase b, size := Block.journalSize b, t1 := Block.t1 b, t2 := Block.t2 b, t3 := Block.t3 b,
    backlog := Block.backlog b, age := Block.age b }

/-- A gate's pulse, kept by every CONFIGURE; its completion is reported no more (R9, log 43). -/
def Pulse.orphan : Pulse → Pulse
  | .idle => .idle
  | .pulsing k tube d _ => .pulsing k tube d false

/-- No hand-off completes a CLEAR item of a discarded dwell (R9). -/
def HandOff.orphan (h : HandOff) : HandOff := { h with clearDwell := none }

/-- The timers whose owners a CONFIGURE stops, passing or failing (R16, R19, R42). -/
def Timers.afterConfigure (t : Timers) : Timers :=
  { t with jam := .stopped, feed := .stopped, starvation := .stopped, take := Four.const .stopped }

/-- The area held has the base and the size of `a` (R161). -/
def Jw.sameArea (j : Jw) (a : JournalArea) : Bool :=
  match j.area with
  | none => false
  | some x => x.base == a.base && x.size == a.size

/-- The JW at a CONFIGURE that passes (R161): kept with the same area, which takes the new thresholds (log 36); set up
anew otherwise, with the earlier area's JOURNAL requests withdrawn and the header written. R161 gives the header's
writes neither number nor order: the model files one write of the 12 bytes (log 55). -/
def Part.configureJournal (p : Part) (a : JournalArea) : Part :=
  if p.jw.sameArea a then
    { p with jw := { p.jw with area := some a, waiting := p.jw.waiting.map HandOff.orphan } }
  else
    let q := { p with
      jw := { Jw.reset with area := some a }
      sa := { p.sa with journal := writeRequests (cellsAt journalHeader (List.replicate 12 0)) .plain } }
    q.setAge .stopped

/-- Every block takes its values for a CONFIGURE that passes, before the bin re-check (R182). -/
def Part.configureBlocks (p : Part) (b : List Byte) : Part :=
  let g := Block.geometry b
  let p := p.configureJournal (Block.journalArea b)
  { p with
    dt := { Dt.reset with geometry := some g, pockets := List.replicate g.pockets .vacant }
    lcu :=
      { Lcu.reset with
        pendingSet := g.stations.map (fun s => s.role != .unused)
        clearJet := p.lcu.clearJet.orphan
        intervals :=
          some { feedTimeout := Block.feedTimeout b, catchPulse := Block.catchPulse b, starvation := Block.starvation b } }
    mc :=
      { channels := Four.zipWith (fun c s => c.configured s.role) p.mc.channels g.stations
        takeTimeout := some (Block.takeTimeout b) }
    rsc :=
      (Four.mk (0 : Meter) 1 2 3).map (fun m =>
        if Block.used b m then RefMeter.configuredUsed (Block.thresholds b m) else RefMeter.configuredUnused)
    ps := { p.ps with slotA := { p.ps.slotA with refs := 0 }, slotB := { p.ps.slotB with refs := 0 } }
    gbt :=
      { bins := (List.range 32).map (BinEntry.configured b p.lct.chain.stable)
        pulses := p.gbt.pulses.map Pulse.orphan
        items :=
          some { ejectPulse := Block.ejectPulse b, defaultCapacity := Block.capacity b, missLimit := Block.missLimit b,
                 fullSensors := Block.fullSensors b } }
    lsq :=
      { p.lsq with
        presets := some { run := Block.preset b 0, hold := Block.preset b 1, halt := Block.preset b 2 } }
    rqx :=
      { p.rqx with
        base := some (Block.requestBase b)
        posts := if p.rqx.base = some (Block.requestBase b) then p.rqx.posts else [] }
    lct :=
      { lines := p.lct.lines.configured b
        chain := { p.lct.chain with scanCount := Block.scanCount b, runs := List.replicate 64 0 }
        timers := p.lct.timers.afterConfigure } }

/-- The bin items are written by every CONFIGURE that passes (R193). -/
def StatusItem.isBin : StatusItem → Bool
  | .bin _ => true
  | _ => false

/-- A CONFIGURE that passes, as one change (R182). R89 gives the re-checks of the two slots no order: the model
re-checks A first (log 50). -/
def Part.configurePass (p : Part) (b : List Byte) : Part :=
  let q := p.configureBlocks b
  let gates := Block.gateCount b
  let q := ((q.recheckSlot gates .a).recheckSlot gates .b).enterEngine .idle
  let q := { q with cfg := { work := .none, result := .ok, failing := none } }
  { q with
    changed := p.changed ++ StatusItem.all.filter (fun i => i.isBin || p.statusBytes i != q.statusBytes i) }

/-! ## Values after a CONFIGURE that fails -/

/-- A CONFIGURE that fails, as one change (R182): the geometry and what is held with it go, the journal area, the
request area, the plan slots, the lines and the catch are kept; the engine enters UNCONFIGURED. -/
def Part.configureFail (p : Part) (c : Check) : Part :=
  let q := { p with
    dt := Dt.reset
    lcu := { Lcu.reset with clearJet := p.lcu.clearJet.orphan }
    mc := { channels := p.mc.channels.map (fun c => Channel.reset c.acq c.flt), takeTimeout := none }
    rsc := Four.const RefMeter.reset
    gbt := { bins := List.replicate 32 BinEntry.reset, pulses := p.gbt.pulses.map Pulse.orphan, items := none }
    lsq := { p.lsq with presets := none }
    jw := { p.jw with waiting := p.jw.waiting.map HandOff.orphan }
    lct := { p.lct with timers := p.lct.timers.afterConfigure }
    cfg := { work := .none, result := c.code, failing := c.station } }
  Part.asOneChange p (q.enterEngine .unconfigured)

/-! ## Taking a CONFIGURE (R181) -/

/-- Work that holds a CONFIGURE back: a START LOT or METER RESTART that the RQX executes, or a close completion
(R131, log 26). -/
def Part.configureWaits (p : Part) : Bool :=
  (match p.rqx.current with
   | none => false
   | some c => c.kind == 1 || c.kind == 10) || p.lsq.completion.isSome

/-- The reads of the configuration block begin (R182). They see the store at each read's grant: posted writes that wait
in the buffer as CONTROL is written are PORT requests, behind BULK (R178), and are not waited for (log 59). -/
def Part.beginConfigure (p : Part) : Part :=
  { p with cfg := { p.cfg with work := .reading [] } }.fileBulk (readRequests configBase configLength .configuration)

/-- A CONFIGURE is refused with STATE (R181). -/
def Part.refuseConfigure (p : Part) : Part := p.setCfg { work := .none, result := .state, failing := none }

/-- A CONFIGURE is written to CONTROL with none in progress (R181). -/
def Part.configure (p : Part) : Part :=
  if p.lsq.engine.inLot then p.refuseConfigure
  else if p.lsq.engine = .idle ∧ p.configureWaits then { p with cfg := { p.cfg with work := .held } }
  else p.beginConfigure

/-- A CONFIGURE written to CONTROL; in progress it is ignored, and a waiting host cycle holds the bus (R181, log 27). -/
def execConfigure (s : State) : Host.Outcome State Fault Refusal :=
  s.onOccasion ((s.hp.cycle == .none) && !s.part.cfg.inProgress) Part.configure

/-- A held CONFIGURE is taken, by the engine state then (R181). -/
def Part.configureTaken (p : Part) : Part :=
  if p.lsq.engine.inLot then p.refuseConfigure else p.beginConfigure

/-- A held CONFIGURE whose work has ended is taken (R181). -/
def execConfigureHeldTaken (s : State) : Host.Outcome State Fault Refusal :=
  s.onOccasion ((s.part.cfg.work == .held) && !s.part.configureWaits) Part.configureTaken

/-- The bytes of the configuration block, where the whole of it has been read and no work holds the CONFIGURE back
(R182, log 26). -/
def Part.configReady (p : Part) : Option (List Byte) :=
  match p.cfg.work with
  | .none => none
  | .held => none
  | .reading data => if data.length = configLength ∧ p.configureWaits = false then some data else none

/-- The checks are made and the configuration applied, or refused (R181, R182). -/
def Part.configureRead (p : Part) (b : List Byte) : Part :=
  if p.lsq.engine.inLot then p.refuseConfigure
  else
    match configFailure b with
    | none => p.configurePass b
    | some c => p.configureFail c

/-- The last configuration block read has been granted (R182). -/
def execConfigureReadDone (s : State) : Host.Outcome State Fault Refusal :=
  match s.part.configReady with
  | none => .next s
  | some b => s.onPart (fun p => p.configureRead b)

end Sys2Proof.Machine
end

