-- ==== Sys2Proof/Machine/HostPort.lean ====
section
/-! DEFINITION. The host's cycles and register writes (R171 to R176), and the resets (R183, R184). -/

namespace Sys2Proof.Machine

/-! ## Register writes -/

/-- A register write reaches the HP only while no host store cycle holds the bus (log 27). -/
def State.onBus (s : State) (t : State) : Host.Outcome State Fault Refusal :=
  if s.hp.cycle = .none then .next t else .next s

/-- Each cause whose bit is 1 is cleared (R176). -/
def Attn.clearCauses (a : Attn) (value : HostWord) : Attn := { a with cause := a.cause &&& ~~~ value.setWidth 7 }

/-- Bits 1 to 6 take the value written; bit 0 reads 1 (R172). -/
def Attn.setEnable (a : Attn) (value : HostWord) : Attn := { a with enable := value.setWidth 7 ||| 1#7 }

/-- Put the attention registers in. -/
def State.setAttn (s : State) (a : Attn) : State := { s with part := { s.part with attn := a } }

/-- A write to ATTN CAUSE (R176). -/
def execAttnCauseWrite (value : HostWord) (s : State) : Host.Outcome State Fault Refusal :=
  s.onBus (s.setAttn (s.part.attn.clearCauses value))

/-- A write to ATTN ENABLE (R172, R175). -/
def execAttnEnableWrite (value : HostWord) (s : State) : Host.Outcome State Fault Refusal :=
  s.onBus (s.setAttn (s.part.attn.setEnable value))

/-- Bit 15 and bits 6 to 0 take the value written (R172). -/
def apertureOfWord (value : HostWord) : Aperture := { enabled := value.getLsbD 15, page := value.setWidth 7 }

/-- Replace APERTURE `number` + 1. -/
def HostPort.setAperture (h : HostPort) (number : Fin 3) (a : Aperture) : HostPort :=
  match number with
  | 0 => { h with aperture1 := a }
  | 1 => { h with aperture2 := a }
  | 2 => { h with aperture3 := a }

/-- A write to an APERTURE register (R171, R172). -/
def execApertureWrite (number : Fin 3) (value : HostWord) (s : State) : Host.Outcome State Fault Refusal :=
  s.onBus { s with hp := s.hp.setAperture number (apertureOfWord value) }

/-- A register write that has no effect (R172). -/
def execRegisterWriteIgnored (_address _value : HostWord) (s : State) : Host.Outcome State Fault Refusal := .next s

/-! ## Store cycles -/

/-- A host write cycle arrives (R173): it joins the buffer, waits, or is dropped. -/
def HostPort.writeArrives (h : HostPort) (address value : HostWord) (watched : Bool) : HostPort :=
  match h.translate address with
  | .registers => h
  | .disabled => h
  | .store _ => ({ h with cycle := .write address value }).acceptWrite watched

/-- A host store write cycle (R173). -/
def execHostStoreWrite (address value : HostWord) (s : State) : Host.Outcome State Fault Refusal :=
  s.onBus { s with hp := s.hp.writeArrives address value s.part.watching }

/-- The cells touch the 32-byte block. -/
def touchesBlock (cells : List Host.Cell) (block : Nat) : Bool := cells.any (fun c => c.1 / 32 == block)

/-- A part write in the block of a read being accepted holds that read back (R179). -/
def StoreRequest.markHolds (block : Nat) : StoreRequest → StoreRequest
  | .write cells e h => .write cells e (h || touchesBlock cells block)
  | .read a n o => .read a n o

/-- As `StoreRequest.markHolds`, for a STATUS write; no item crosses a block (R193). -/
def StatusRequest.markHolds (block : Nat) (r : StatusRequest) : StatusRequest :=
  { r with holdsRead := r.holdsRead || (r.item.address / 32 == block) }

/-- The ungranted part writes in the block are marked as holding the read back (R179). -/
def Sa.markHolds (a : Sa) (block : Nat) : Sa :=
  { journal := a.journal.map (StoreRequest.markHolds block), status := a.status.map (StatusRequest.markHolds block),
    request := a.request.map (StoreRequest.markHolds block), bulk := a.bulk.map (StoreRequest.markHolds block) }

/-- A host read is accepted: it waits for its grant (R174). -/
def State.acceptRead (s : State) (a : StoreAddr) : State :=
  { s with part := { s.part with sa := s.part.sa.markHolds (a.toNat / 32) }, hp := { s.hp with cycle := .read a } }

/-- A host read cycle arrives (R174): accepted, held while the buffer drains (R184), or answered with 0xFFFF. -/
def State.readArrives (s : State) (address : HostWord) : State :=
  match s.hp.translate address with
  | .registers => s
  | .disabled => { s with hp := { s.hp with data := 0xFFFF, cycle := .none } }
  | .store a =>
    if s.hp.draining then { s with hp := { s.hp with cycle := .readWaiting address } } else s.acceptRead a

/-- A host store read cycle (R174). -/
def execHostStoreRead (address : HostWord) (s : State) : Host.Outcome State Fault Refusal :=
  s.onBus (s.readArrives address)

/-! ## Resets -/

/-- The power-on values of every block, with the input pins as they are (R183); the free values drawn stay drawn. -/
def Part.powerOn (p : Part) : Part :=
  { dt := Dt.reset, lcu := Lcu.reset,
    mc := { channels := p.mc.channels.map (fun c => Channel.reset c.acq c.flt), takeTimeout := none },
    rsc := Four.const RefMeter.reset, ps := Ps.reset, gbt := Gbt.reset, lsq := Lsq.reset, rqx := Rqx.reset, jw := Jw.reset,
    sa := Sa.empty, attn := { cause := 0, enable := 1 }, cfg := Cfg.reset,
    lct :=
      { lines := p.lct.lines.map (fun l => Line.reset l.pin), chain := Chain.reset p.lct.chain.snapshot,
        timers := Timers.reset },
    changed := [], draws := p.draws }

/-- A write of every status item is requested, in the order of the table (R180, R193). -/
def Part.requestAllStatus (p : Part) : Part := p.requestItems StatusItem.all

/-- The data that a host read waiting at a reset is released with (R183). -/
def HostPort.dataAtReset (h : HostPort) : HostWord :=
  match h.cycle with
  | .none => h.data
  | .write _ _ => h.data
  | .readWaiting _ => 0xFFFF
  | .read _ => 0xFFFF

/-- Power-on reset (R183): the store, the pins and the commands that wait are kept. -/
def execPowerOnReset (s : State) : Host.Outcome State Fault Refusal :=
  .next { s with part := s.part.powerOn.requestAllStatus, hp := { HostPort.reset with data := s.hp.dataAtReset } }

/-- SOFT RESET, steps 1 and 2 (R184): ATTN ENABLE and the apertures are kept, and the posted writes begin to drain. -/
def State.softReset (s : State) : State :=
  { s with part := { s.part.powerOn with attn := { cause := 0, enable := s.part.attn.enable } },
           hp := { s.hp with draining := true, promotion := 0 } }

/-- SOFT RESET (R184): during the drain of an earlier one it has no further effect. -/
def execSoftReset (s : State) : Host.Outcome State Fault Refusal :=
  if s.hp.draining then .next s else s.onBus s.softReset

/-- A host cycle that waited for the drain is accepted (R184). -/
def State.acceptCycle (s : State) : State :=
  match s.hp.cycle with
  | .none => s
  | .write _ _ => { s with hp := s.hp.acceptWrite s.part.watching }
  | .readWaiting address => s.readArrives address
  | .read _ => s

/-- The posted writes have drained after a SOFT RESET: the status block is requested, and a host cycle that waits is
accepted (R184). The rule puts both at the drain's end; the model requests the writes first, so a read of the status
block that waited is held behind them (log 51). -/
def State.drainEnded (s : State) : State :=
  State.acceptCycle { s with part := s.part.requestAllStatus, hp := { s.hp with draining := false } }

/-- The end of the drain (R184). -/
def execSoftResetDrainEnd (s : State) : Host.Outcome State Fault Refusal :=
  if s.hp.draining ∧ s.hp.buffer = [] then .next s.drainEnded else .next s

end Sys2Proof.Machine
end

