-- ==== Sys2Proof/Machine/Lines.lean ====
section
/-! DEFINITION. The direct lines, the sensor chain and the interval timers (chapter 11): what each change hands on, the
expiries, and the passing of time. -/

namespace Sys2Proof.Machine

/-! ## Direct lines (R186, R187) -/

/-- A change of a line's stable value is handed on by the line's kind; `active` is the new value (R187). -/
def Part.handLine (p : Part) (l : LineId) (active : Bool) : Part :=
  match l with
  | .index => if active then p.index else p
  | .placed => if active then p.placed else p
  | .door => if active then p.raiseHold .door else p
  | .air => if active then p.raiseHold .air else p
  | .loadEye => p
  | .clearEye => p

/-- The line's stable value changes, and the change is handed on (R186). -/
def Part.changeStable (p : Part) (l : LineId) : Part :=
  let v := p.lct.lines.get l
  (p.setLine l { v with stable := !v.stable, debounce := .settled }).handLine l (!v.stable)

/-- The pin of a direct line takes a new level (R186). -/
def Part.pinChanged (p : Part) (l : LineId) (high : Bool) : Part :=
  let q := p.setLine l { p.lct.lines.get l with pin := high }
  let v := q.lct.lines.get l
  if v.raw = v.stable then q.setLine l { v with debounce := .settled }
  else
    match v.debounce with
    | .counting _ => q
    | .settled => if v.debounceMs = 0 then q.changeStable l else q.setLine l { v with debounce := .counting 0 }

/-- A direct line's pin takes a level; a level it has already is no change (R186). -/
def execDirectLineChange (line : LineId) (high : Bool) (s : State) : Host.Outcome State Fault Refusal :=
  s.onOccasion ((s.part.lct.lines.get line).pin != high) (fun p => p.pinChanged line high)

/-- The line is COUNTING. -/
def Line.isCounting (l : Line) : Bool :=
  match l.debounce with
  | .settled => false
  | .counting _ => true

/-- A direct line has held its new level for its debounce time (R186, log 5). -/
def execDebounceElapsed (line : LineId) (s : State) : Host.Outcome State Fault Refusal :=
  s.onOccasion (s.part.lct.lines.get line).isCounting (fun p => p.changeStable line)

/-! ## The sensor chain (R188) -/

/-- The run count of input `i` after a scan, whether its stable value changes. -/
def Chain.scanInput (c : Chain) (bits : BitVec 64) (i : Nat) : Nat × Bool :=
  if bits.getLsbD i = c.stable.getLsbD i then (0, false)
  else
    let run := c.runs.getD i 0 + 1
    if c.scanCount + 1 ≤ run then (0, true) else (run, false)

/-- The inputs whose stable value changes at a scan, in bit order. -/
def Chain.changed (c : Chain) (bits : BitVec 64) : List Nat := (List.range 64).filter (fun i => (c.scanInput bits i).2)

/-- The chain after a scan. -/
def Chain.scan (c : Chain) (bits : BitVec 64) : Chain :=
  { c with
    snapshot := bits
    stable := (c.changed bits).foldl (fun v i => v ^^^ (1#64 <<< i)) c.stable
    runs := (List.range 64).map (fun i => (c.scanInput bits i).1) }

/-- A complete scan: the stable values are all updated, then the changes are handed to the GBT (R188). -/
def Part.scanned (p : Part) (bits : BitVec 64) : Part :=
  (p.lct.chain.changed bits).foldl Part.chainInputChanged
    { p with lct := { p.lct with chain := p.lct.chain.scan bits } }

/-- A scan of the sensor chain (R188). -/
def execSensorScan (bits : BitVec 64) (s : State) : Host.Outcome State Fault Refusal := s.onPart (fun p => p.scanned bits)

/-! ## Expiries (R189, log 5) -/

/-- The jam timer expires (R16). -/
def execJamTimerExpiry (s : State) : Host.Outcome State Fault Refusal :=
  s.onOccasion s.part.lct.timers.jam.isRunning Part.jamExpires

/-- The feed timer expires (R27). -/
def execFeedTimerExpiry (s : State) : Host.Outcome State Fault Refusal :=
  s.onOccasion s.part.lct.timers.feed.isRunning Part.feedTimerExpires

/-- The catch timer expires (R31). -/
def execCatchTimerExpiry (s : State) : Host.Outcome State Fault Refusal :=
  s.onOccasion s.part.lct.timers.clearJet.isRunning Part.catchTimerExpires

/-- The starvation timer expires (R29). -/
def execStarvationTimerExpiry (s : State) : Host.Outcome State Fault Refusal :=
  s.onOccasion s.part.lct.timers.starvation.isRunning Part.starvationExpires

/-- The take timer of a channel expires (R51). -/
def execTakeTimerExpiry (m : Meter) (s : State) : Host.Outcome State Fault Refusal :=
  s.onOccasion (s.part.lct.timers.take.get m).isRunning (fun p => p.takeTimerExpires m)

/-- The pulse timer of gate `n` expires (R117). -/
def Part.pulseExpires (p : Part) (n : Nat) : Part := (p.setPulseTimer n .stopped).endPulse n

/-- The pulse timer of a gate. -/
def Timers.pulseOf (t : Timers) (n : Nat) : Timer := t.pulse.getD n .stopped

/-- The pulse timer of a gate expires (R117). -/
def execPulseTimerExpiry (gate : Fin 32) (s : State) : Host.Outcome State Fault Refusal :=
  s.onOccasion (s.part.lct.timers.pulseOf gate.val).isRunning (fun p => p.pulseExpires gate.val)

/-- The age timer expires (R168). -/
def execAgeTimerExpiry (s : State) : Host.Outcome State Fault Refusal :=
  s.onOccasion s.part.lct.timers.age.isRunning Part.ageExpires

/-! ## Time (log 4) -/

/-- 100 µs pass for a timer: the time remaining falls, down to 0. -/
def Timer.pass : Timer → Timer
  | .stopped => .stopped
  | .running c n => .running c (n - 1)

/-- 100 µs pass for a line: the time held rises where it is COUNTING. -/
def Line.pass (l : Line) : Line :=
  match l.debounce with
  | .settled => l
  | .counting n => { l with debounce := .counting (n + 1) }

/-- 100 µs pass for the 41 timers. -/
def Timers.pass (t : Timers) : Timers :=
  { jam := t.jam.pass, feed := t.feed.pass, clearJet := t.clearJet.pass, starvation := t.starvation.pass,
    age := t.age.pass, take := t.take.map Timer.pass, pulse := t.pulse.map Timer.pass }

/-- 100 µs pass with no command: the timers run and the debounce times are held (log 4). -/
def Part.tick (p : Part) : Part :=
  { p with lct := { p.lct with lines := p.lct.lines.map Line.pass, timers := p.lct.timers.pass } }

end Sys2Proof.Machine
end

