-- ==== Sys2Proof/Machine/Dispatch.lean ====
section
/-! DEFINITION. What each command does: one arm per row of spec/opcode_table.json, in the table's order. -/

namespace Sys2Proof.Machine

/-- The effect of a command on everything but the queue of commands. -/
def exec (i : Instr) (s : State) : Host.Outcome State Fault Refusal :=
  match i with
  | .powerOnReset => Sys2Proof.Machine.execPowerOnReset s
  | .softReset => Sys2Proof.Machine.execSoftReset s
  | .softResetDrainEnd => Sys2Proof.Machine.execSoftResetDrainEnd s
  | .configure => Sys2Proof.Machine.execConfigure s
  | .configureHeldTaken => Sys2Proof.Machine.execConfigureHeldTaken s
  | .configureReadDone => Sys2Proof.Machine.execConfigureReadDone s
  | .attnCauseWrite value => Sys2Proof.Machine.execAttnCauseWrite value s
  | .attnEnableWrite value => Sys2Proof.Machine.execAttnEnableWrite value s
  | .apertureWrite number value => Sys2Proof.Machine.execApertureWrite number value s
  | .registerWriteIgnored address value => Sys2Proof.Machine.execRegisterWriteIgnored address value s
  | .hostStoreWrite address value => Sys2Proof.Machine.execHostStoreWrite address value s
  | .hostStoreRead address => Sys2Proof.Machine.execHostStoreRead address s
  | .storeGrant => Sys2Proof.Machine.execStoreGrant s
  | .journalRecordWrite => Sys2Proof.Machine.execJournalRecordWrite s
  | .requestSlotRead => Sys2Proof.Machine.execRequestSlotRead s
  | .startLot flt => Sys2Proof.Machine.execStartLot flt s
  | .contextReadDone flt => Sys2Proof.Machine.execContextReadDone flt s
  | .startLotSetupsDone => Sys2Proof.Machine.execStartLotSetupsDone s
  | .endLot => Sys2Proof.Machine.execEndLot s
  | .abortLot => Sys2Proof.Machine.execAbortLot s
  | .stagePlan => Sys2Proof.Machine.execStagePlan s
  | .planStagingEnd => Sys2Proof.Machine.execPlanStagingEnd s
  | .switchPlan => Sys2Proof.Machine.execSwitchPlan s
  | .binControlClose => Sys2Proof.Machine.execBinControlClose s
  | .binControlOpen => Sys2Proof.Machine.execBinControlOpen s
  | .binControlCapacity => Sys2Proof.Machine.execBinControlCapacity s
  | .hold => Sys2Proof.Machine.execHold s
  | .resume => Sys2Proof.Machine.execResume s
  | .clearHalt => Sys2Proof.Machine.execClearHalt s
  | .meterRestart flt => Sys2Proof.Machine.execMeterRestart flt s
  | .setThinning => Sys2Proof.Machine.execSetThinning s
  | .portWrite => Sys2Proof.Machine.execPortWrite s
  | .unknown => Sys2Proof.Machine.execUnknown s
  | .lotClose => Sys2Proof.Machine.execLotClose s
  | .closeCompletionEnd => Sys2Proof.Machine.execCloseCompletionEnd s
  | .directLineChange line high => Sys2Proof.Machine.execDirectLineChange line high s
  | .debounceElapsed line => Sys2Proof.Machine.execDebounceElapsed line s
  | .sensorScan bits => Sys2Proof.Machine.execSensorScan bits s
  | .acqRise m => Sys2Proof.Machine.execAcqRise m s
  | .acqFall m => Sys2Proof.Machine.execAcqFall m s
  | .rdyRise m => Sys2Proof.Machine.execRdyRise m s
  | .fltRise m => Sys2Proof.Machine.execFltRise m s
  | .meterFrameSent m => Sys2Proof.Machine.execMeterFrameSent m s
  | .pendingTakeSent m => Sys2Proof.Machine.execPendingTakeSent m s
  | .report m frame => Sys2Proof.Machine.execReport m frame s
  | .jamTimerExpiry => Sys2Proof.Machine.execJamTimerExpiry s
  | .feedTimerExpiry => Sys2Proof.Machine.execFeedTimerExpiry s
  | .catchTimerExpiry => Sys2Proof.Machine.execCatchTimerExpiry s
  | .starvationTimerExpiry => Sys2Proof.Machine.execStarvationTimerExpiry s
  | .takeTimerExpiry m => Sys2Proof.Machine.execTakeTimerExpiry m s
  | .pulseTimerExpiry gate => Sys2Proof.Machine.execPulseTimerExpiry gate s
  | .ageTimerExpiry => Sys2Proof.Machine.execAgeTimerExpiry s

end Sys2Proof.Machine
end

