-- ==== Sys2Proof/Machine/Step.lean ====
section
/-! DEFINITION. One step: the command at the front of the queue, or, with the queue empty, the passing of 100 µs. -/

namespace Sys2Proof.Machine

/-- One step of the machine. With a command waiting, it is taken from the front and executed on the state with the
queue's rest. With none, time passes by one unit of the timebase (log 4). -/
def step (s : State) : Host.Outcome State Fault Refusal :=
  match s.pending with
  | [] => .next { s with part := s.part.tick }
  | c :: rest => exec c { s with pending := rest }

/-- `s` with the command that the word spells at the front of its queue; unchanged where the word spells none. -/
def State.withFetchWord (s : State) (nbits w : Nat) : State :=
  match decodeTableWord nbits w with
  | none => s
  | some c => { s with pending := c :: s.pending }

end Sys2Proof.Machine
end

