-- ==== Sys2Proof/Safety.lean ====
section
/-! DEFINITION. What the statements of the package speak of: the regions of the part and when a command keeps them, the
end of a request as its slot will show it, and the properties that every step keeps. -/

namespace Sys2Proof.Machine

/-! ## Frames -/

/-- The regions of the part. PERMIT with index expected and the jam timer, the RQX's next slot read, and the status
writes follow every command (R14, R156, R180), so `dial`, `timers`, `requests` and `queues` leave those aside. `own` is
the model's own two fields (log 11, log 46). -/
inductive Region where
  | dial | loading | meters | references | plans | bins | lots | requests | journal | queues | attention
  | configuration | lines | timers | own
  deriving DecidableEq, Repr

/-- Beyond all that `a` holds, in its place, `b` holds only what follows a command: reads of a request slot behind the
REQUEST queue (R156), and behind the STATUS queue one write each of items that had none waiting (R180). -/
def Sa.follows (a b : Sa) : Prop :=
  b.journal = a.journal ∧ b.bulk = a.bulk ∧
    (∃ reads, b.request = a.request ++ reads ∧ ∀ x ∈ reads, ∃ y n, x = .read y n .slot) ∧
    ∃ items : List StatusItem, b.status = a.status ++ items.map (fun i => { item := i, holdsRead := false }) ∧
      items.Nodup ∧ ∀ i ∈ items, ∀ r ∈ a.status, r.item ≠ i

/-- The region is the same in `p` and `q`. -/
def Region.same (p q : Part) : Region → Prop
  | .dial => { q.dt with permit := p.dt.permit, indexExpected := p.dt.indexExpected } = p.dt
  | .loading => q.lcu = p.lcu
  | .meters => q.mc = p.mc
  | .references => q.rsc = p.rsc
  | .plans => q.ps = p.ps
  | .bins => q.gbt = p.gbt
  | .lots => q.lsq = p.lsq
  | .requests => q.rqx.current = p.rqx.current ∧ q.rqx.base = p.rqx.base ∧ q.rqx.parkedRef = p.rqx.parkedRef
  | .journal => q.jw = p.jw
  | .queues => p.sa.follows q.sa
  | .attention => q.attn = p.attn
  | .configuration => q.cfg = p.cfg
  | .lines => q.lct.lines = p.lct.lines ∧ q.lct.chain = p.lct.chain
  | .timers => { q.lct.timers with jam := p.lct.timers.jam } = p.lct.timers
  | .own => q.changed = p.changed ∧ q.draws = p.draws

/-- Every region of the list is the same in `p` and `q`. -/
def Part.keeps (rs : List Region) (p q : Part) : Prop := ∀ r ∈ rs, r.same p q

/-- Every region but those of the list is the same in `p` and `q`. -/
def Part.keepsBut (rs : List Region) (p q : Part) : Prop := ∀ r, r ∉ rs → r.same p q

/-- Only the part changed: the host side of the Host Port, the store and the commands that wait are as they were. -/
def State.sameOutside (s t : State) : Prop := t.hp = s.hp ∧ t.store = s.store ∧ t.pending = s.pending

/-- The requests `rs` were filed behind the REQUEST queue of `p`, and nothing else in the arbiter's queues but what
follows a command. -/
def Part.filed (p q : Part) (rs : List StoreRequest) : Prop :=
  ({ p.sa with request := p.sa.request ++ rs } : Sa).follows q.sa

/-- The current request of `p` has ended in `q` with the result `r` (R157): there is no current request, and the result
write and then the DONE write of its slot are filed; with no current request nothing is. -/
def Part.ended (p q : Part) (r : Result) : Prop :=
  q.rqx.current = none ∧ q.rqx.base = p.rqx.base ∧ q.rqx.parkedRef = p.rqx.parkedRef ∧
    Part.filed p q (p.rqx.current.toList.flatMap (fun c => r.writes c.address c.notify .plain))

/-- The current request of `p` has ended in `q` with the result `r`, and nothing else changed: no status write is
filed. -/
def Part.endedAlone (p q : Part) (r : Result) : Prop :=
  Part.ended p q r ∧ Part.keepsBut [.requests, .queues] p q ∧ q.sa.status = p.sa.status

/-- The records handed to the JW and not yet written, in hand-off order: the staging queue, then the hand-offs that wait
on it (R164). -/
def Jw.records (j : Jw) : List JournalRecord := j.queue ++ j.waiting.map HandOff.record

/-- From `p` to `q` the JW was handed records with these bodies, in this order, and changed in nothing else (R163,
R164); while no journal area is held they are discarded (R161). -/
def Part.handed (p q : Part) (bodies : List RecordBody) : Prop :=
  { q.jw with queue := p.jw.queue, waiting := p.jw.waiting } = p.jw ∧
    q.jw.records = p.jw.records ++
      (if p.jw.area.isSome then bodies.map (fun b => { body := b, indexCount := q.indexCount }) else [])

/-- The record of this body was handed to the JW and is not yet written, where a journal area is held. -/
def Part.records (q : Part) (body : RecordBody) : Prop :=
  q.jw.area.isSome = true → ∃ r ∈ q.jw.records, r.body = body

/-- The queues of the arbiter once the head of the part's queue that a choice names has left it. -/
def Sa.popped (a : Sa) : Choice → Sa
  | .journal => { a with journal := a.journal.tail }
  | .status => { a with status := a.status.tail }
  | .request => { a with request := a.request.tail }
  | .bulk => { a with bulk := a.bulk.tail }
  | .hostWrite => a
  | .hostRead => a

/-- The queue of the arbiter that a choice other than STATUS and PORT grants from. -/
def Sa.queue (a : Sa) : Choice → List StoreRequest
  | .journal => a.journal
  | .request => a.request
  | .bulk => a.bulk
  | .status => []
  | .hostWrite => []
  | .hostRead => []

/-- The current request of `p` is one of kind `kind` that has not begun its work. -/
def Part.executes (p : Part) (kind : Nat) : Prop :=
  ∃ c, p.rqx.current = some c ∧ c.kind = kind ∧ c.executing = false

/-! ## Engine entries (R29, R148) -/

/-- The machine port latch after an entry into `e`. -/
def Lsq.latchOn (l : Lsq) (e : EngineState) : Byte :=
  match l.presets with
  | none => l.portLatch
  | some v =>
    match e with
    | .run => v.run
    | .drain => v.run
    | .hold => v.hold
    | .halt => v.halt
    | .idle => l.portLatch
    | .unconfigured => l.portLatch

/-- The starvation timer after the engine of `p` enters `e`: it starts with RUN and is cancelled with leaving RUN. -/
def Part.starvationOn (p : Part) (e : EngineState) : Timer :=
  if e = p.lsq.engine then p.lct.timers.starvation
  else if e = .run then
    match p.lcu.intervals with
    | none => p.lct.timers.starvation
    | some i =>
      if IntervalCode.count i.starvation = 0 then p.lct.timers.starvation
      else .running i.starvation (IntervalCode.units i.starvation)
  else if p.lsq.engine = .run then .stopped
  else p.lct.timers.starvation

/-- From `p` to `q` the engine has entered `e`: its state, the port latch and the starvation timer. -/
def Part.entered (p q : Part) (e : EngineState) : Prop :=
  q.lsq.engine = e ∧ q.lsq.portLatch = p.lsq.latchOn e ∧ q.lct.timers.starvation = p.starvationOn e

/-! ## Pockets routed to CATCH (R8) -/

/-- The pocket after ABORT LOT or a purge. -/
def Pocket.toCatch (k : Pocket) (reason : Reason) : Pocket :=
  match k with
  | .carry x => .routed x { row := none, route := .toCatch, reason }
  | .routed x r => if r.route = .toCatch then .routed x r else .routed x { r with route := .toCatch, reason }
  | .vacant => .vacant
  | .reserved set => .reserved set
  | .spent x r t => .spent x r t
  | .stray => .stray

/-- ABORT LOT or a purge routes the pocket: it is CARRY, or ROUTED to a gate. -/
def Pocket.catchable (k : Pocket) : Bool :=
  match k with
  | .carry _ => true
  | .routed _ r => r.route != .toCatch
  | .vacant => false
  | .reserved _ => false
  | .spent _ _ _ => false
  | .stray => false

/-- The bins release the pockets of `ks` that were ROUTED to them. -/
def Part.releases (p q : Part) (ks : List Pocket) : Prop :=
  q.gbt.pulses = p.gbt.pulses ∧ q.gbt.items = p.gbt.items ∧
    ∀ n, q.bin n = { p.bin n with pending := (p.bin n).pending - (ks.filter (fun k => k.routedTo n)).length }

/-! ## Reference takes (R63, R64) -/

/-- The urgency that the thresholds give a count (R63). -/
def Thresholds.urgencyAt (h : Thresholds) (count : Nat) : Urgency :=
  if count < h.due then .current
  else if count < h.force then .due
  else if count < h.limit then .forced
  else .limit

/-- A meter of this channel with this urgency and this cover is named owed to the LCU (R64). -/
def Channel.owesReference (c : Channel) (urgency : Urgency) (cover : Cover) : Bool :=
  c.role != .unused && cover == .none && (urgency == .forced || urgency == .limit) && c.state == .online

/-! ## Meter channels (R38, R43, R44, R55, R56) -/

/-- The channel once the transfer on its link has ended: a remembered RDY edge starts its REPORT transfer first, else a
SETUP frame that waits for the link is sent, else the link is idle (R38, R55). -/
def Channel.linkEnded (c : Channel) : Channel :=
  if c.rememberedRdy then { c with rememberedRdy := false, link := .receiving (decide (c.state = .offline)) }
  else if c.setupDue then
    match c.setup, c.nominal with
    | some w, some n => { c with setupDue := false, link := .sending (.setup w.serial n) }
    | _, _ => { c with link := .idle }
  else { c with link := .idle }

/-- The channel once it has entered SETUP, asked by `asker` with the nominal `n`: its SETUP frame is sent, or waits
while the link is busy; or the setup failed at once with the FLT input high, which ends any transfer (R38, R43, log
17, log 30). -/
def Channel.enteredSetup (c : Channel) (asker : SetupAsker) (n : Option Nominal) (flt : Bool) : Channel :=
  let d : Channel := { c with nominal := n, queue := [], pendingTake := none, rememberedRdy := false, flt }
  if flt then { d with state := .offline, setup := none, setupDue := false, link := .idle }
  else
    let e : Channel :=
      { d with
        state := .setup
        setup := some { serial := c.nextSerial, before := c.state, asker }
        nextSerial := (c.nextSerial + 1) % 65536 }
    match n, c.link with
    | some v, .idle => { e with link := .sending (.setup c.nextSerial v), setupDue := false }
    | _, _ => { e with setupDue := true }

/-- No channel but `m` changed. -/
def Part.otherChannels (p q : Part) (m : Meter) : Prop := ∀ x, x ≠ m → q.channel x = p.channel x

/-! ## Outstanding takes faulted (R6, R43, R49, R56, R68, R71, R72) -/

/-- What faulting the outstanding work of channels works on: the pockets, the lot counters, the entries of the RSC, and
the bodies of the records handed on. -/
structure Faulting where
  pockets : List Pocket
  counters : LotCounters
  meters : Four RefMeter
  bodies : List RecordBody
  deriving DecidableEq, Repr

/-- The part record with the entry of station `m` FAULT and without deviation. -/
def PartRecord.faulted (x : PartRecord) (m : Meter) (late : Bool) : PartRecord :=
  { x with
    readings :=
      x.readings.map (fun e =>
        if e.station = m then { e with status := .fault, deviation := none, late := late || e.late } else e) }

/-- A tag of channel `m` leaves with FAULT. A TAKE is a reading claim: it writes the entry of its serial in a CARRY
pocket, writes it late in a ROUTED or SPENT one, and is stale without one. A REFER is a reference result whose verdict
is NONE: the head entry leaves the meter's list, a RESERVED one ends a cover of ISSUED, and a CHECK record follows. -/
def Faulting.tag (f : Faulting) (m : Meter) (offset : Nat) (t : Tag) : Faulting :=
  match t.kind with
  | .take =>
    let pocket : Pocket := f.pockets.getD t.pocket .vacant
    let fits : Bool := (pocket.entry m).map Reading.serial == some (some t.serial)
    let late : LotCounters := { f.counters with lateReadings := countUp f.counters.lateReadings }
    match fits, pocket with
    | true, .carry x => { f with pockets := f.pockets.set t.pocket (.carry (x.faulted m false)) }
    | true, .routed x r => { f with pockets := f.pockets.set t.pocket (.routed (x.faulted m true) r), counters := late }
    | true, .spent x r n => { f with pockets := f.pockets.set t.pocket (.spent (x.faulted m true) r n), counters := late }
    | _, _ =>
      { f with
        counters := { f.counters with staleReports := countUp f.counters.staleReports }
        bodies := f.bodies ++ [.event (.staleReport t.pocket m t.serial offset)] }
  | .refer =>
    let r := f.meters.get m
    match r.refs with
    | [] => f
    | e :: rest =>
      { f with
        meters :=
          f.meters.set m { r with refs := rest, cover := if r.cover = .issued ∧ e.kind = .reserved then .none else r.cover }
        bodies := f.bodies ++ [.check m e.pocket e.kind .fault .none r.count r.count none] }

/-- The pending take is withdrawn: a product take with a FAULT no-take claim, which a CARRY pocket takes where the
entry is PENDING and has no serial. -/
def Faulting.withdraw (f : Faulting) (m : Meter) (w : Option PendingTake) : Faulting :=
  match w with
  | some { kind := .take, pocket := k, dwell := _ } =>
    match f.pockets.getD k .vacant with
    | .carry x =>
      if ((Pocket.carry x).entry m).map (fun e => (e.status, e.serial)) = some (.pending, none) then
        { f with
          pockets :=
            f.pockets.set k
              (.carry
                { x with
                  readings := x.readings.map (fun e => if e.station = m then { e with status := .fault } else e) }) }
      else f
    | _ => f
  | _ => f

/-- The outstanding work of the channel `c` of meter `m` is faulted: its tags head first, then its pending take. -/
def Faulting.work (f : Faulting) (m : Meter) (offset : Nat) (c : Channel) : Faulting :=
  (c.queue.foldl (fun g t => g.tag m offset t) f).withdraw m c.pendingTake

/-- What faulting begins with. -/
def Part.faulting (p : Part) : Faulting :=
  { pockets := p.dt.pockets, counters := p.lcu.counters, meters := p.rsc, bodies := [] }

/-- From `p` to `q` faulting has left `f`, and the items of the dwell are `items`: the rest of the dial and of the Load
and Clear Unit is as it was. -/
def Part.faultedTo (p q : Part) (f : Faulting) (items : List Item) : Prop :=
  q.dt.pockets = f.pockets ∧ q.dt.items = items ∧
    Region.same p { q with dt := { q.dt with pockets := p.dt.pockets, items := p.dt.items } } .dial ∧
    q.lcu = { p.lcu with counters := f.counters } ∧ q.rsc = f.meters

/-! ## Hold causes (R29, R142, R143, R148) -/

/-- The Lot Sequencer once the condition of a hold cause has become present: in RUN, DRAIN, HOLD and HALT the cause is
in the set, and from RUN and DRAIN the engine is in HOLD with the port latch at its preset. -/
def Lsq.raised (l : Lsq) (c : HoldCause) : Lsq :=
  if l.engine.inLot then
    { l with
      holds := l.holds.insert c
      engine := if l.engine.working then .hold else l.engine
      portLatch := if l.engine.working then l.latchOn .hold else l.portLatch }
  else l

/-- The EVENTs that the condition of a hold cause brings as it becomes present: hold cause, where the cause joins, and
then hold entered, where the engine enters HOLD. -/
def Part.holdBodies (p : Part) (c : HoldCause) : List RecordBody :=
  if p.lsq.engine.inLot then
    (if p.lsq.holds.has c then [] else [.event (.holdCause c p.lsq.engine p.dt.offset)]) ++
      (if p.lsq.engine.working then
        [.event (.holdEntered (p.lsq.holds.insert c) p.lsq.lotMode p.dt.offset)]
       else [])
  else []

/-- The Lot Sequencer of `p` once it has been told of a channel's new state (R59): cause METER is raised where a
PRIMARY or SECOND channel of `q` is not ONLINE. -/
def Part.toldOf (p q : Part) : Lsq := if q.meterCondition then p.lsq.raised .meter else p.lsq

/-- The EVENTs of that telling. -/
def Part.toldBodies (p q : Part) : List RecordBody := if q.meterCondition then p.holdBodies .meter else []

/-- The timers of `p` once channel `m` has stopped its take timer and told its state; the jam timer follows PERMIT. -/
def Part.toldTimers (p q : Part) (m : Meter) : Timers :=
  { p.lct.timers with
    jam := q.lct.timers.jam
    take := p.lct.timers.take.set m .stopped
    starvation := if q.meterCondition then p.starvationOn .hold else p.lct.timers.starvation }

/-! ## Failures and setups (R43 to R45, R56, R59) -/

/-- Channel `m` of `p`, with its inputs as in `c`, has failed in `q` with the cause (R56, R59): the records of its
faulted work stand before channel offline, and a hold's EVENTs behind it (log 16). -/
def Part.channelFailed (p q : Part) (m : Meter) (c : Channel) (cause : ChannelCause) : Prop :=
  let f := p.faulting.work m p.dt.offset c
  q.mc =
      { p.mc with
        channels :=
          p.mc.channels.set m
            { c with
              state := .offline, queue := [], pendingTake := none, link := .idle, rememberedRdy := false
              setupDue := false } } ∧
    Part.faultedTo p q f (p.dt.items.map (Item.complete (.take m))) ∧
    q.lsq = Part.toldOf p q ∧ q.lct.timers = Part.toldTimers p q m ∧ q.attn = (p.latch .meter).attn ∧
    Part.handed p q
      (f.bodies ++ [.event (.channelOffline m cause c.queue.length p.dt.offset)] ++ Part.toldBodies p q) ∧
    Part.keepsBut [.dial, .loading, .meters, .references, .lots, .journal, .attention, .timers] p q

/-- The Lot Sequencer of a START LOT keeps the outcome of channel `m`'s setup (R44, R134). -/
def Lsq.withOutcome (l : Lsq) (m : Meter) (outcome : ChannelCause) : Lsq :=
  match l.startLot with
  | some { lot, nominal, slot, context, phase := .setups resumed o } =>
    { l with startLot := some { lot, nominal, slot, context, phase := .setups resumed (o.set m (some outcome)) } }
  | _ => l

/-- From `p` to `q` the setup `w` has ended with the outcome, which reached the block that asked (R44): METER RESTART
ends with the result, and a START LOT keeps the outcome. -/
def Part.setupAnswered (p q : Part) (m : Meter) (w : SetupWork) (outcome : ChannelCause) (result : ResultCode) : Prop :=
  (w.asker = .meterRestart → q.lsq = Part.toldOf p q ∧ Part.ended p q { code := result }) ∧
    (w.asker = .startLot →
      q.lsq = (Part.toldOf p q).withOutcome m outcome ∧ Region.same p q .requests ∧ Part.filed p q [])

/-- A setup of channel `m`, with its inputs as in `c`, that `w` describes has failed in `q` with the cause (R44): any
transfer ends (log 17), and setup failed stands before a hold's EVENTs. -/
def Part.setupFailed (p q : Part) (m : Meter) (c : Channel) (w : SetupWork) (cause : ChannelCause) : Prop :=
  q.mc =
      { p.mc with
        channels :=
          p.mc.channels.set m (Channel.linkEnded { c with state := .offline, setup := none, setupDue := false }) } ∧
    q.lct.timers = Part.toldTimers p q m ∧
    Part.handed p q ([.event (.setupFailed m cause)] ++ Part.toldBodies p q) ∧
    Part.setupAnswered p q m w cause .meterFailed ∧
    Part.keepsBut [.meters, .lots, .requests, .journal, .queues, .timers] p q

/-- Channel `m` has entered SETUP, asked by METER RESTART: its outstanding work is faulted as at a failure, its state is
told, and with FLT high the setup has failed (R43, R46); the records stand in that order (log 16). -/
def Part.setupBegun (p q : Part) (m : Meter) (flt : Bool) : Prop :=
  let c := p.channel m
  let f := p.faulting.work m p.dt.offset c
  q.mc = { p.mc with channels := p.mc.channels.set m (c.enteredSetup .meterRestart c.nominal flt) } ∧
    Part.faultedTo p q f (p.dt.items.map (Item.complete (.take m))) ∧
    q.lsq = Part.toldOf p q ∧ q.lct.timers = Part.toldTimers p q m ∧
    Part.handed p q
      (f.bodies ++ Part.toldBodies p q ++ if flt then [.event (.setupFailed m .flt)] else [])

/-- The setups of a START LOT have begun on every used channel, from MC0 to MC3 (R45, R134, log 49). The engine is in
IDLE as they do, so no hold cause joins (R142). -/
def Part.setupsBegun (p q : Part) (n : Nominal) (flt : Four Bool) : Prop :=
  let begin (f : Faulting) (m : Meter) : Faulting :=
    let g := f.work m p.dt.offset (p.channel m)
    { g with bodies := g.bodies ++ if flt.get m then [.event (.setupFailed m .flt)] else [] }
  let f := (allMeters.filter p.usedMeter).foldl begin p.faulting
  let completed (i : Item) : Item :=
    match i.kind with
    | .take m => if p.usedMeter m then Item.complete (.take m) i else i
    | _ => i
  (∀ m, q.channel m =
      if p.usedMeter m then (p.channel m).enteredSetup .startLot (some n) (flt.get m) else p.channel m) ∧
    q.mc.takeTimeout = p.mc.takeTimeout ∧ Part.faultedTo p q f (p.dt.items.map completed) ∧
    (∀ m, q.lct.timers.take.get m = if p.usedMeter m then .stopped else p.lct.timers.take.get m) ∧
    (p.lsq.engine.inLot = false →
      { q.lsq with startLot := p.lsq.startLot } = p.lsq ∧
        q.lct.timers = { p.lct.timers with jam := q.lct.timers.jam, take := q.lct.timers.take } ∧
        Part.handed p q f.bodies)

/-- A take of meter `m` on pocket `k` has been sent (R50, R62, R64, R67): the tag, the serial and the frame at the
channel; for a product take the serial in the pocket's entry and the meter's count, with the meter named owed where it
has come to that; for a reference take the meter out of the pocket's reservation and the take on its list. Nothing else
changed. -/
def Part.takeSent (p q : Part) (m : Meter) (kind : TakeKind) (k dwell : Nat) : Prop :=
  let c := p.channel m
  let r := p.rsc.get m
  let reserved : Bool := (p.pocket k).reservedFor m
  let urgency : Urgency :=
    match r.thresholds with
    | none => r.urgency
    | some h => h.urgencyAt (r.count + 1)
  let owed : Bool := c.owesReference urgency r.cover
  q.channel m =
      { c with
        nextSerial := (c.nextSerial + 1) % 65536
        queue := c.queue ++ [{ kind, pocket := k, serial := c.nextSerial, dwell, stage := .sent }]
        pendingTake := none
        link := .sending (match kind with | .take => .take k c.nextSerial | .refer => .refer k c.nextSerial) } ∧
    Part.otherChannels p q m ∧ (∀ x, x ≠ m → q.rsc.get x = p.rsc.get x) ∧
    { q.dt with pockets := p.dt.pockets } = p.dt ∧ (∀ x, x ≠ k → q.pocket x = p.pocket x) ∧
    { q with dt := p.dt, lcu := p.lcu, mc := { q.mc with channels := p.mc.channels }, rsc := p.rsc,
             changed := p.changed } = p ∧
    (kind = .take →
      (q.pocket k).entry m = ((p.pocket k).entry m).map (fun e => { e with serial := some c.nextSerial }) ∧
        (∀ x, x ≠ m → (q.pocket k).entry x = (p.pocket k).entry x) ∧
        q.rsc.get m =
          { r with
            count := r.count + 1
            urgency
            cover := if owed then .pending else r.cover
            refs := r.refs.map (fun e => { e with since := e.since + 1 }) } ∧
        q.lcu = { p.lcu with pendingSet := if owed then p.lcu.pendingSet.insert m else p.lcu.pendingSet }) ∧
    (kind = .refer →
      (∀ set, p.pocket k = .reserved set → k < p.dt.pockets.length → q.pocket k = .reserved (set.erase m)) ∧
        ((∀ set, p.pocket k ≠ .reserved set) → q.pocket k = p.pocket k) ∧ q.lcu = p.lcu ∧
        q.rsc.get m =
          { r with
            cover := if reserved && r.cover == .placed then .issued else r.cover
            refs := r.refs ++ [{ pocket := k, kind := if reserved then .reserved else .opportunistic, since := 0 }] })

/-! ## The journal (R165) -/

/-- From `p` to `q` the head `r` of the staging queue has been tested with `u` unreclaimed bytes: it fits without the
end, or after a PAD, and its writes and its publish are requested; or there is no room and the writer waits. -/
def Part.headTested (p q : Part) (a : JournalArea) (u : Nat) (r : JournalRecord) : Prop :=
  let f := p.jw.fill
  let l := r.body.length
  (f + l ≤ a.size → u + l ≤ a.size - 8 →
      q.jw.writer = .writing ∧
        q.sa.journal = p.sa.journal ++ writeRequests (cellsAt (a.base + f) r.bytes) .plain ++
          (if f + l = a.size then publishWrites 0 ((p.jw.wrap + 1) % 4294967296)
           else publishWrites (f + l) p.jw.wrap)) ∧
    (a.size < f + l → f < a.size → u + (a.size - f) + l ≤ a.size - 8 →
      q.jw.writer = .writing ∧
        q.sa.journal = p.sa.journal ++
          writeRequests (cellsAt (a.base + f) (recordHeader 7 (a.size - f) p.indexCount)) .plain ++
          writeRequests (cellsAt a.base r.bytes) .plain ++
          publishWrites l ((p.jw.wrap + 1) % 4294967296)) ∧
    ((f + l ≤ a.size ∧ a.size - 8 < u + l) ∨ (a.size < f + l ∧ a.size - 8 < u + (a.size - f) + l) →
      q.jw.writer = .waiting ∧ q.sa.journal = p.sa.journal)

/-! ## Gates and the clear station (R30 to R35, R117, R118, R122 to R124) -/

/-- The pulse of gate `n` has ended and its firing claim is made (R117): a pocket still ROUTED to a gate becomes SPENT
at this one, the bin's counts follow, and the FIRE item of the pulse's dwell completes. -/
def Part.pulseEnded (p q : Part) (n k tube dwell : Nat) (reports : Bool) : Prop :=
  let b := p.bin n
  let fired := if b.tubeNumber = tube then b.fired + 1 else b.fired
  q.gbt =
      { p.gbt with
        pulses := p.gbt.pulses.set n .idle
        bins :=
          p.gbt.bins.set n
            { b with
              fired
              pending := if (p.pocket k).routedTo n then b.pending - 1 else b.pending
              full := if b.tubeNumber = tube ∧ b.capacity ≤ fired ∧ b.full = .clear then .count else b.full } } ∧
    (∀ x, x ≠ k → q.pocket x = p.pocket x) ∧
    (∀ x r, p.pocket k = .routed x r → q.pocket k = .spent x { r with route := .gate n } tube) ∧
    ((∀ x r, p.pocket k ≠ .routed x r) → q.pocket k = p.pocket k) ∧
    { q.dt with pockets := p.dt.pockets, items := p.dt.items } = p.dt ∧
    q.dt.items =
      (if reports = true ∧ dwell = p.dt.dwell then p.dt.items.map (Item.complete (.fire n)) else p.dt.items) ∧
    { q with dt := p.dt, gbt := p.gbt, changed := p.changed } = p

/-- Pocket `k`, ROUTED to gate `n`, has been rerouted (R118): bin `n` lets it go, and the first of its row's
alternates and the OVERFLOW bin above `n` that can take it is its route, or CATCH. The items become `items`; nothing
else changed. -/
def Part.rerouted (p q : Part) (n k : Nat) (items : List Item) : Prop :=
  ∀ x r, p.pocket k = .routed x r →
    let candidates : List Nat :=
      match p.planOf x.slot, r.row with
      | some pl, some i =>
        (((pl.rows[i]?).map PlanRow.alternates).getD [] ++ pl.overflow.toList).filter (fun b => n < b)
      | _, _ => []
    let claim := (p.setBin n { p.bin n with pending := (p.bin n).pending - 1 }).routeClaim candidates
    let route : Route := match claim.2 with | none => .toCatch | some (_, b) => .gate b
    q = { claim.1 with
          dt := { p.dt with pockets := p.dt.pockets.set k (.routed x { r with route, reason := .rerouted }), items } }

/-- The lot counters after a part is settled (R35). -/
def LotCounters.settle (c : LotCounters) : Disposition → LotCounters
  | .ejected => { c with ejected := countUp c.ejected }
  | .missed => { c with missed := countUp c.missed }
  | .caught => { c with caught := countUp c.caught }
  | .lost => { c with lost := countUp c.lost }

/-- Pocket `k` has been settled at the clear station, by the eye where it was `sampled` and otherwise as for an empty
eye (R13, R30, R32 to R35, R122 to R124): its record, its counter, its plan slot, the bin's claim, and what is left of
a reservation. A pocket in CARRY is settled with a reason about which nothing is said (log 22, log 46). The catch jet
and the items are not part of it. -/
def Part.cleared (p q : Part) (k : Nat) (present sampled : Bool) : Prop :=
  let c := p.lcu.counters
  let out (x : PartRecord) (d : Disposition) : Prop :=
    q.ps = p.ps.setSlot x.slot { p.ps.slot x.slot with refs := (p.ps.slot x.slot).refs - 1 } ∧
      q.lcu.counters = c.settle d ∧
      q.rsc = p.rsc ∧ q.lcu.pendingSet = p.lcu.pendingSet
  let record (x : PartRecord) (r : Routing) (d : Disposition) : RecordBody :=
    .outcome k x (p.ps.idOf (some x.slot)) r d
  let same (stray : Bool) : Prop :=
    q.ps = p.ps ∧ q.gbt = p.gbt ∧ q.attn = p.attn ∧ q.draws = p.draws ∧
      q.lcu.counters = { c with stray := if stray then countUp c.stray else c.stray }
  let found : Disposition := if present then .caught else .lost
  q.pocket k = .vacant ∧ (∀ x, x ≠ k → q.pocket x = p.pocket x) ∧
    { q.dt with pockets := p.dt.pockets, items := p.dt.items } = p.dt ∧
    { q.lcu with counters := c, clearJet := p.lcu.clearJet, pendingSet := p.lcu.pendingSet } = p.lcu ∧
    { q with dt := p.dt, lcu := p.lcu, rsc := p.rsc, ps := p.ps, gbt := p.gbt, jw := p.jw, attn := p.attn, lct := p.lct,
             changed := p.changed, draws := p.draws } = p ∧
    (∀ x r tube n, p.pocket k = .spent x r tube → r.route = .gate n →
      let b := p.bin n
      (present = false →
        out x .ejected ∧ q.draws = p.draws ∧ q.attn = p.attn ∧ Part.handed p q [record x r .ejected] ∧
          q.gbt = (if sampled then { p.gbt with bins := p.gbt.bins.set n { b with misses := 0 } } else p.gbt)) ∧
      (present = true →
        let fired := if b.tubeNumber = tube then b.fired - 1 else b.fired
        let limit := (p.gbt.items.map GbtItems.missLimit).getD 0
        let reached : Bool := decide (b.misses + 1 = limit)
        let closed : ClosedReason := if reached = true ∧ b.closed = .none then .miss else b.closed
        out x .missed ∧ q.draws = p.draws ∧ q.attn = (if reached then (p.latch .bin).attn else p.attn) ∧
          q.gbt =
            { p.gbt with
              bins :=
                p.gbt.bins.set n
                  { b with
                    fired
                    full := if b.tubeNumber = tube ∧ b.full = .count ∧ fired < b.capacity then .clear else b.full
                    misses := if b.misses < limit then b.misses + 1 else b.misses
                    closed } } ∧
          Part.handed p q
            (record x r .missed ::
              if reached then [.event (.binClosedByMisses n b.tubeNumber limit closed p.dt.offset)] else []))) ∧
    (∀ x r, p.pocket k = .routed x r →
      out x found ∧ q.draws = p.draws ∧ q.attn = p.attn ∧ Part.handed p q [record x r found] ∧
        q.gbt =
          (match r.route with
           | .toCatch => p.gbt
           | .gate n => { p.gbt with bins := p.gbt.bins.set n { p.bin n with pending := (p.bin n).pending - 1 } })) ∧
    (∀ x, p.pocket k = .carry x →
      ∃ reason, let r : Routing := { row := none, route := .toCatch, reason }
        out x found ∧ q.attn = p.attn ∧ q.gbt = p.gbt ∧ Part.handed p q [record x r found]) ∧
    (p.pocket k = .stray →
      same false ∧ q.rsc = p.rsc ∧ q.lcu.pendingSet = p.lcu.pendingSet ∧
        Part.handed p q [.event (.strayCleared k present p.dt.offset)]) ∧
    (p.pocket k = .vacant →
      same present ∧ q.rsc = p.rsc ∧ q.lcu.pendingSet = p.lcu.pendingSet ∧
        Part.handed p q (if present then [.event (.strayAtClear k false p.dt.offset)] else [])) ∧
    (∀ set, p.pocket k = .reserved set →
      same present ∧ (∀ m, q.lcu.pendingSet.get m = (p.lcu.pendingSet.get m || set.get m)) ∧
        (∀ m, q.rsc.get m =
          { p.rsc.get m with
            cover := if set.get m = true ∧ (p.rsc.get m).cover = .placed then .pending else (p.rsc.get m).cover }) ∧
        Part.handed p q (if present then [.event (.strayAtClear k true p.dt.offset)] else []))

/-! ## Properties that every step keeps -/

/-- The store's listing is in its canonical form. -/
def State.storeOk (s : State) : Prop := Memory.wf s.store = true

/-- PERMIT is high exactly while its three conditions hold (R14). -/
def State.permitOk (s : State) : Prop := s.part.dt.permit = s.part.permitConditions

/-- The posted write buffer holds at most 4 writes (R173), and the promotion count is at most 8 (R178). -/
def State.hostPortOk (s : State) : Prop := s.hp.buffer.length ≤ 4 ∧ s.hp.promotion ≤ 8

/-- The lot mode that R130 gives each engine state. -/
def Lsq.modeOk (l : Lsq) : Prop :=
  match l.engine with
  | .unconfigured => l.lotMode = .none
  | .idle => l.lotMode = .none
  | .run => l.lotMode = .run
  | .drain => l.lotMode = .drain
  | .hold => l.lotMode ≠ .none
  | .halt => l.lotMode ≠ .none

/-- The lot mode fits the engine state (R130). -/
def State.lotModeOk (s : State) : Prop := s.part.lsq.modeOk

/-- The post queue holds slot numbers from 0 to 15, none twice (R155). -/
def State.postsOk (s : State) : Prop := s.part.rqx.posts.Nodup ∧ ∀ n ∈ s.part.rqx.posts, n < 16

/-- The Bin Table and the Gate Controller hold 32 bins, pulse records and pulse timers (R112, R117, R189), and the
geometry held has at most 32 gates (R1). -/
def State.tablesOk (s : State) : Prop :=
  s.part.gbt.bins.length = 32 ∧ s.part.gbt.pulses.length = 32 ∧ s.part.lct.timers.pulse.length = 32 ∧
    s.part.gateCount ≤ 32

end Sys2Proof.Machine
end

