-- ==== Sys2Proof/Certificates/Slice0/Obligations.lean ====
section
/-! DEFINITION. The statements about the model, for the provers. -/

open Sys2Proof Sys2Proof.Machine

/-! ## The machine as a whole -/

/-- A step takes the command at the front of the queue and executes it on the state with the queue's rest. -/
def Obligations.StepTakesTheFrontCommand : Prop :=
  ∀ (c : Instr) (rest : List Instr) (s : State),
    step { s with pending := c :: rest } = exec c { s with pending := rest }

/-- The model's choice (log 4): on an empty queue 100 µs pass. A running timer's time remaining falls by one unit, a
line that counts has held its level one unit longer, and nothing else changes. -/
def Obligations.IdleStepLetsTimePass : Prop :=
  ∀ s : State, s.pending = [] →
    ∃ t, step s = .next t ∧ State.sameOutside s t ∧ { t.part with lct := s.part.lct } = s.part ∧
      t.part.lct.chain = s.part.lct.chain ∧
      (∀ l, t.part.lct.lines.get l =
        match (s.part.lct.lines.get l).debounce with
        | .settled => s.part.lct.lines.get l
        | .counting n => { s.part.lct.lines.get l with debounce := .counting (n + 1) }) ∧
      t.part.lct.timers =
        { jam := s.part.lct.timers.jam.pass, feed := s.part.lct.timers.feed.pass,
          clearJet := s.part.lct.timers.clearJet.pass, starvation := s.part.lct.timers.starvation.pass,
          age := s.part.lct.timers.age.pass, take := s.part.lct.timers.take.map Timer.pass,
          pulse := s.part.lct.timers.pulse.map Timer.pass } ∧
      Timer.pass .stopped = .stopped ∧ ∀ c n, Timer.pass (.running c n) = .running c (n - 1)

/-- No command stops the part: each answers a next state, and none touches the commands that wait. That a command given
out of its occasion, or one that repeats work begun already, answers a next state too is the model's choice (log 1, log
27, log 38). -/
def Obligations.EveryCommandAnswersNext : Prop :=
  ∀ (c : Instr) (s : State), ∃ t, exec c s = .next t ∧ t.pending = s.pending

/-- Only a store grant writes the store; every other command leaves every byte of it. -/
def Obligations.OnlyGrantsChangeTheStore : Prop :=
  ∀ (c : Instr) (s t : State), c ≠ .storeGrant → exec c s = .next t → t.store = s.store

/-- The values that the chapters state for power-on reset. The pins, the sensor snapshot, the store and the host data
are not among them. -/
def Obligations.ResetStateHoldsThePowerOnValues : Prop :=
  let p := State.reset.part
  let h := State.reset.hp
  p.dt.geometry = none ∧ p.dt.offset = 0 ∧ p.dt.pockets = [] ∧ p.dt.dwell = 0 ∧ p.dt.items = [] ∧
    p.dt.permit = false ∧ p.dt.indexExpected = false ∧
    p.lcu.nextSequence = 1 ∧ p.lcu.thinning = 7 ∧ p.lcu.forcedRatio = 1 ∧ p.lcu.pendingSet = MeterSet.empty ∧
    p.lcu.feed = .idle ∧ p.lcu.clearJet = .idle ∧ p.lcu.counters = ⟨0, 0, 0, 0, 0, 0, 0, 0, 0⟩ ∧
    p.lcu.intervals = none ∧ p.mc.takeTimeout = none ∧
    (∀ m, (p.channel m).state = .unused ∧ (p.channel m).role = .unused ∧ (p.channel m).nextSerial = 0 ∧
      (p.channel m).queue = [] ∧ (p.channel m).pendingTake = none ∧ (p.channel m).setup = none ∧
      (p.channel m).nominal = none ∧ (p.channel m).rememberedRdy = false ∧ (p.channel m).link = .idle ∧
      (p.channel m).setupDue = false ∧ p.trigLine m = false ∧
      p.ldatDriven m = false) ∧
    (∀ m, (p.rsc.get m).thresholds = none ∧ (p.rsc.get m).urgency = .limit ∧ (p.rsc.get m).cover = .none ∧
      (p.rsc.get m).refs = []) ∧
    (∀ s, (p.ps.slot s).state = .empty ∧ (p.ps.slot s).plan = none ∧ (p.ps.slot s).refs = 0) ∧
    p.ps.loadSlot = none ∧ p.ps.pendingSwitch = none ∧ p.ps.staging = none ∧
    p.gbt.bins = List.replicate 32 { tube := false, full := .clear, closed := .none, capacity := 0, fired := 0,
                                     pending := 0, tubeNumber := 1, misses := 0 } ∧
    p.gbt.pulses = List.replicate 32 .idle ∧ p.gbt.items = none ∧
    p.lsq.startLot = none ∧ p.lsq.engine = .unconfigured ∧ p.lsq.lotMode = .none ∧ p.lsq.holds = HoldCauses.none ∧ p.lsq.haltCause = .none ∧
    p.lsq.lot = none ∧ p.lsq.parked = none ∧ p.lsq.completion = none ∧ p.lsq.portLatch = 0x00 ∧ p.lsq.presets = none ∧
    p.rqx.base = none ∧ p.rqx.posts = [] ∧ p.rqx.current = none ∧ p.rqx.parkedRef = none ∧ p.rqx.reading = none ∧
    p.cfg.work = .none ∧ p.cfg.failing = none ∧ p.jw.waiting = [] ∧ p.jw.area = none ∧ p.jw.fill = 0 ∧ p.jw.reclaim = 0 ∧ p.jw.wrap = 0 ∧ p.jw.queue = [] ∧ p.jw.writer = .idle ∧
    p.jw.level = 1 ∧
    p.sa.journal = [] ∧ p.sa.request = [] ∧ p.sa.bulk = [] ∧ p.sa.status.map StatusRequest.item = StatusItem.all ∧
    (∀ r ∈ p.sa.status, r.holdsRead = false) ∧
    h.buffer = [] ∧ h.promotion = 0 ∧ h.cycle = .none ∧ h.draining = false ∧ State.reset.pending = [] ∧
    (List.range 8).map (fun i => State.readRegister State.reset (BitVec.ofNat 16 (2 * i))) =
      [0x3240, 0x0000, 0x0000, 0x0001, 0x0000, 0x0000, 0x0000, 0x0000] ∧
    (∀ l, let v := p.lct.lines.get l
      v.lowActive = false ∧ v.debounceMs = 0 ∧ v.stable = v.pin ∧ v.debounce = .settled) ∧
    p.lct.chain.stable = 0 ∧ p.lct.chain.runs = List.replicate 64 0 ∧ p.lct.chain.scanCount = 0 ∧
    p.lct.timers = { jam := .stopped, feed := .stopped, clearJet := .stopped, starvation := .stopped, age := .stopped,
                     take := Four.const .stopped, pulse := List.replicate 32 .stopped } ∧
    p.feedLine = false ∧ p.catchLine = false ∧ (∀ n, p.gateLine n = false) ∧ (∀ n, p.portLine n = false) ∧
    p.attnLine = false ∧ h.waiting = false ∧ (∀ m, p.lclkLine m = .low) ∧ p.sloadLine = .low ∧ p.sclkLine = .low

/-! ## Properties that every step keeps -/

/-- The reset state has every property that the statements below say a step keeps. -/
def Obligations.ResetHasTheKeptProperties : Prop :=
  State.reset.storeOk ∧ State.reset.permitOk ∧ State.reset.hostPortOk ∧ State.reset.lotModeOk ∧ State.reset.postsOk ∧
    State.reset.tablesOk

/-- The store's listing keeps its canonical form. -/
def Obligations.StepKeepsTheStoreCanonical : Prop :=
  ∀ s t : State, s.storeOk → step s = .next t → t.storeOk

/-- After every step PERMIT is high exactly while the engine is in RUN or DRAIN, every item of the dwell is complete and
4 places of the staging queue are free. -/
def Obligations.StepKeepsPermitAtItsConditions : Prop :=
  ∀ s t : State, s.permitOk → step s = .next t → t.permitOk

/-- The lot mode is none in UNCONFIGURED and IDLE, RUN in RUN, DRAIN in DRAIN, and one of the two in HOLD and HALT. -/
def Obligations.StepKeepsTheLotMode : Prop :=
  ∀ s t : State, s.lotModeOk → step s = .next t → t.lotModeOk

/-- The post queue holds slot numbers 0 to 15, none twice; the posted write buffer never holds more than 4 writes, the
promotion count never passes 8; and the tables of the gates keep their 32 places. -/
def Obligations.StepKeepsTheBoundsOfQueuesAndTables : Prop :=
  ∀ s t : State, step s = .next t →
    (s.postsOk → t.postsOk) ∧ (s.hostPortOk → t.hostPortOk) ∧ (s.tablesOk → t.tablesOk)

/-! ## What follows every command -/

/-- When PERMIT's conditions come to hold, PERMIT rises, index expected is set and the jam timer starts from the full
interval; when one ceases, PERMIT falls, the jam timer is cancelled and index expected stays as it is. That the
conditions are looked at as a command ends is the model's choice (log 10). -/
def Obligations.PermitFollowsItsConditions : Prop :=
  ∀ b p : Part,
    (p.permitConditions = true ↔
      (p.lsq.engine = .run ∨ p.lsq.engine = .drain) ∧ (∀ i ∈ p.dt.items, i.state = .complete) ∧
        p.jw.queue.length + 4 ≤ 16) ∧
    (Part.commit b p).dt.permit = p.permitConditions ∧
    (p.permitConditions = true → p.dt.permit = false →
      (Part.commit b p).dt.indexExpected = true ∧
        ∀ g, p.dt.geometry = some g →
          (Part.commit b p).lct.timers.jam = .running g.jam (IntervalCode.units g.jam)) ∧
    (p.permitConditions = false → p.dt.permit = true →
      (Part.commit b p).dt.indexExpected = p.dt.indexExpected ∧ (Part.commit b p).lct.timers.jam = .stopped) ∧
    (p.permitConditions = p.dt.permit →
      (Part.commit b p).dt.indexExpected = p.dt.indexExpected ∧
        (Part.commit b p).lct.timers.jam = p.lct.timers.jam)

/-- After a command the STATUS queue holds what it held, in its place; behind it stand the writes of the items that the
command noted at its changes, in the order of the changes, and then of any other item whose value differs. An item that
has a write waiting gets no second one. Every operation that replaces what an item shows notes the items whose value it
changes, and so does a change made of several operations, in the order of the table: an item changed and changed back
within a command is written too. The order of the writes of one command is the model's choice (log 11). -/
def Obligations.StatusWritesFollowTheChanges : Prop :=
  (∀ b p : Part,
    let noted := p.changed.drop b.changed.length
    let due := noted ++ StatusItem.all.filter (fun i => b.statusBytes i != p.statusBytes i)
    p.sa.status <+: (Part.commit b p).sa.status ∧ p.sa.follows (Part.commit b p).sa ∧
      (Part.commit b p).sa.status =
        due.foldl (fun q i => if ∃ r ∈ q, r.item = i then q else q ++ [{ item := i, holdsRead := false }]) p.sa.status ∧
      (∀ i, b.statusBytes i ≠ p.statusBytes i → ∃ r ∈ (Part.commit b p).sa.status, r.item = i) ∧
      (∀ i ∈ noted, ∃ r ∈ (Part.commit b p).sa.status, r.item = i) ∧
      ((p.sa.status.map StatusRequest.item).Nodup → ((Part.commit b p).sa.status.map StatusRequest.item).Nodup) ∧
      (∀ i, (Part.commit b p).statusBytes i = p.statusBytes i) ∧ (Part.commit b p).changed = b.changed) ∧
  (let notes (p q : Part) : Prop :=
    q.changed = p.changed ++ StatusItem.all.filter (fun i => p.statusBytes i != q.statusBytes i)
   (∀ p m c, notes p (p.setChannel m c)) ∧ (∀ p m r, notes p (p.setRef m r)) ∧ (∀ p n e, notes p (p.setBin n e)) ∧
    (∀ p n, notes p (p.setNextSequence n)) ∧ (∀ p x, notes p (p.setPs x)) ∧ (∀ p x, notes p (p.setLsq x)) ∧
    (∀ p x, notes p (p.setCfg x)) ∧ (∀ p q, notes p (Part.asOneChange p q)))

/-- With no current request and none being read, and no configure in progress, the RQX takes the head of the post
queue and files one read of its 32-byte slot in class REQUEST; otherwise it takes none. That it does so at the end of
a command is the model's choice (log 9). -/
def Obligations.RqxTakesTheNextPost : Prop :=
  ∀ b p : Part,
    (∀ base i rest, p.rqx.current = none → p.rqx.reading = none → p.rqx.base = some base → p.rqx.posts = i :: rest →
      p.cfg.work = .none →
      (Part.commit b p).rqx.posts = rest ∧
        (Part.commit b p).rqx.reading = some { slot := i, address := base + 32 * i, data := none } ∧
        (Part.commit b p).sa.request = p.sa.request ++ readRequests (base + 32 * i) 32 .slot) ∧
    (p.rqx.current ≠ none ∨ p.rqx.reading ≠ none ∨ p.rqx.base = none ∨ p.rqx.posts = [] ∨ p.cfg.work ≠ .none →
      (Part.commit b p).rqx = p.rqx ∧ (Part.commit b p).sa.request = p.sa.request)

/-! ## Resets -/

/-- POWER_ON_RESET from every state: each block takes its reset value, the pins and the sensor snapshot are as they
were, the store and the commands that wait are kept, the posted writes are discarded, and a host read that waited is
released with 0xFFFF. That the pins and the snapshot are kept is the model's choice (log 7), and that the free values
drawn stay drawn (log 46). -/
def Obligations.PowerOnResetPutsEveryBlockAtReset : Prop :=
  ∀ s : State, ∃ t, exec .powerOnReset s = .next t ∧ t.store = s.store ∧ t.pending = s.pending ∧
    t.part =
      { State.reset.part with
        mc :=
          { State.reset.part.mc with
            channels := s.part.mc.channels.map (fun c => { Channel.reset false false with acq := c.acq, flt := c.flt }) }
        lct :=
          { State.reset.part.lct with
            lines := s.part.lct.lines.map (fun l => { Line.reset false with pin := l.pin, stable := l.pin })
            chain := { State.reset.part.lct.chain with snapshot := s.part.lct.chain.snapshot } }
        draws := s.part.draws } ∧
    t.hp = { State.reset.hp with data := t.hp.data } ∧
    (∀ x y, s.hp.cycle = .read x ∨ s.hp.cycle = .readWaiting y → t.hp.data = 0xFFFF) ∧
    (∀ a v, s.hp.cycle = .none ∨ s.hp.cycle = .write a v → t.hp.data = s.hp.data)

/-- SOFT RESET: every block but the Host Port takes its reset value and every ungranted part request is discarded,
ATTN CAUSE is cleared, ATTN ENABLE, the apertures and the posted writes are kept, and the drain begins. During the
drain of an earlier one it changes nothing. The drain ends with the buffer empty: a write of every status item waits
in the STATUS queue, and a host store cycle that waited is taken, a write into the buffer, a read as accepted. That
the pins and the snapshot are kept is the model's choice (log 7), and that the free values drawn stay drawn (log 46).
-/
def Obligations.SoftResetAndItsDrain : Prop :=
  (∀ s : State,
    (s.hp.draining = true → exec .softReset s = .next s) ∧
    (s.hp.draining = false → s.hp.cycle = .none →
      ∃ t, exec .softReset s = .next t ∧ t.store = s.store ∧ t.pending = s.pending ∧
        t.hp = { s.hp with draining := true, promotion := 0 } ∧
        t.part =
          { State.reset.part with
            mc :=
              { State.reset.part.mc with
                channels :=
                  s.part.mc.channels.map (fun c => { Channel.reset false false with acq := c.acq, flt := c.flt }) }
            sa := { journal := [], status := [], request := [], bulk := [] }
            attn := { cause := 0, enable := s.part.attn.enable }
            lct :=
              { State.reset.part.lct with
                lines := s.part.lct.lines.map (fun l => { Line.reset false with pin := l.pin, stable := l.pin })
                chain := { State.reset.part.lct.chain with snapshot := s.part.lct.chain.snapshot } }
            draws := s.part.draws })) ∧
  (∀ s : State, s.hp.draining = true → s.hp.buffer = [] →
    ∃ t, exec .softResetDrainEnd s = .next t ∧ t.store = s.store ∧ t.pending = s.pending ∧ t.hp.draining = false ∧
      { t.part with sa := s.part.sa } = s.part ∧ (∀ i, ∃ r ∈ t.part.sa.status, r.item = i) ∧
      (s.hp.cycle = .none → t.hp = { s.hp with draining := false }) ∧
      (∀ a v x, s.hp.cycle = .write a v → s.hp.translate a = .store x →
        t.hp =
          { s.hp with
            draining := false
            buffer := [{ address := x, value := v, watched := s.part.rqx.base.isSome }]
            cycle := .none }) ∧
      (∀ a x, s.hp.cycle = .readWaiting a → s.hp.translate a = .store x →
        t.hp = { s.hp with draining := false, cycle := .read x }))

/-! ## Registers and attention -/

/-- The eight registers as the host reads them, with every other bit 0; and the outputs. FEED is high while a feed is
under way, PERMIT as the dial holds it, the valve of a gate below the gate count while its pulse runs and of any other
never, CATCH while the catch pulse runs, PORTn as bit n of the port latch, ATTN with HALT latched or a cause latched
that is enabled, TRIG and LCLK of a channel during a transfer, LDAT during a frame to the meter, the wait line while a
host cycle is held; SLOAD and SCLK are low between scans. That bits 7 to 4 of CONTROL read 0, to which R172 gives no
meaning, and that a read is a function of the state are the model's choice (log 56, log 42), and so are the gates with
no geometry held (log 43) and the clocks between two commands (log 40). -/
def Obligations.RegistersAndOutputsReadTheState : Prop :=
  (∀ s : State,
    let p := s.part
    (p.feedLine = true ↔ ∃ k dwell, p.lcu.feed = .feeding k dwell) ∧
      p.permitLine = p.dt.permit ∧
      (∀ n, p.gateLine n = true ↔
        (∃ k tube dwell reports, p.pulse n = .pulsing k tube dwell reports) ∧
          ∀ g, p.dt.geometry = some g → n < g.gates.length) ∧
      (p.catchLine = true ↔ ∃ dwell reports, p.lcu.clearJet = .pulsing dwell reports) ∧
      (∀ n, n < 8 → p.portLine n = p.lsq.portLatch.getLsbD n) ∧
      (p.attnLine = true ↔
        p.attn.cause.getLsbD 0 = true ∨
          ∃ i < 7, p.attn.cause.getLsbD i = true ∧ p.attn.enable.getLsbD i = true) ∧
      (∀ m, p.trigLine m = true ↔
        (∃ f, (p.channel m).link = .sending f) ∨ ∃ discard, (p.channel m).link = .receiving discard) ∧
      (∀ m, p.ldatDriven m = true ↔ ∃ f, (p.channel m).link = .sending f) ∧
      (∀ m, p.lclkLine m = if p.trigLine m then .pulsing else .low) ∧ p.sloadLine = .low ∧ p.sclkLine = .low ∧
      (s.hp.waiting = true ↔
        ∃ a v x, s.hp.cycle = .write a v ∨ s.hp.cycle = .readWaiting a ∨ s.hp.cycle = .read x)) ∧
  ∀ (s : State) (odd : Bool),
    let read (n : Nat) : HostWord := s.readRegister (BitVec.ofNat 16 (n + odd.toNat))
    read 0 = 0x3240 ∧
      (read 2).toNat % 8 = s.part.lsq.engine.code ∧ (read 2).getLsbD 3 = s.part.cfg.inProgress ∧
      (read 2).toNat / 16 % 16 = 0 ∧ (read 2).toNat / 256 = s.part.cfg.result.code ∧
      (∀ i < 7, (read 4).getLsbD i = s.part.attn.cause.getLsbD i) ∧ (read 4).toNat / 128 = 0 ∧
      (∀ i < 7, (read 6).getLsbD i = s.part.attn.enable.getLsbD i) ∧ (read 6).toNat / 128 = 0 ∧
      (∀ n ∈ [8, 10, 12], (read n).toNat / 128 % 256 = 0) ∧
      (read 14).toNat / 64 % 4 = 0 ∧ (read 14).toNat / 512 = 0 ∧
      (read 8).getLsbD 15 = s.hp.aperture1.enabled ∧ (read 8).toNat % 128 = s.hp.aperture1.page.toNat ∧
      (read 10).getLsbD 15 = s.hp.aperture2.enabled ∧ (read 10).toNat % 128 = s.hp.aperture2.page.toNat ∧
      (read 12).getLsbD 15 = s.hp.aperture3.enabled ∧ (read 12).toNat % 128 = s.hp.aperture3.page.toNat ∧
      (read 14).getLsbD 0 = s.part.lsq.holds.requested ∧ (read 14).getLsbD 1 = s.part.lsq.holds.door ∧
      (read 14).getLsbD 2 = s.part.lsq.holds.air ∧ (read 14).getLsbD 3 = s.part.lsq.holds.meter ∧
      (read 14).toNat / 16 % 4 = s.part.lsq.haltCause.code ∧ (read 14).getLsbD 8 = s.part.lsq.parked.isSome

/-- ATTN_CAUSE_WRITE: each cause whose bit is 1 is cleared and nothing else changes, the engine state and the block that
latched it included. A cause latched first is cleared by the write, one latched after it is latched; the ATTN line
follows. -/
def Obligations.AttnCauseWriteClearsTheCauses : Prop :=
  ∀ (v : HostWord) (s : State), s.hp.cycle = .none →
    (∃ t, exec (.attnCauseWrite v) s = .next t ∧ State.sameOutside s t ∧ { t.part with attn := s.part.attn } = s.part ∧
      t.part.attn.enable = s.part.attn.enable ∧
      (∀ i < 7, t.part.attn.cause.getLsbD i = (s.part.attn.cause.getLsbD i && !v.getLsbD i)) ∧
      (t.part.attnLine = true ↔
        t.part.attn.cause.getLsbD 0 = true ∨
          ∃ i < 7, t.part.attn.cause.getLsbD i = true ∧ t.part.attn.enable.getLsbD i = true) ∧
      (∀ c : AttnCause, (c = .halt ∨ t.part.attn.enable.getLsbD c.bit = true) →
        (t.part.latch c).attn.cause.getLsbD c.bit = true)) ∧
    (∀ c : AttnCause, v.getLsbD c.bit = true →
      ∃ t, exec (.attnCauseWrite v) { s with part := s.part.latch c } = .next t ∧
        t.part.attn.cause.getLsbD c.bit = false)

/-- ATTN_ENABLE_WRITE: bits 1 to 6 take the value written, bit 0 reads 1, the latched causes stay, and the ATTN line
follows. A cause latches only if its enable is set, but HALT always; one already latched stays; no other bit changes. -/
def Obligations.AttnEnablesGateTheLatching : Prop :=
  (∀ (v : HostWord) (s : State), s.hp.cycle = .none →
    ∃ t, exec (.attnEnableWrite v) s = .next t ∧ State.sameOutside s t ∧ { t.part with attn := s.part.attn } = s.part ∧
      t.part.attn.cause = s.part.attn.cause ∧ t.part.attn.enable.getLsbD 0 = true ∧
      (∀ i, 1 ≤ i → i < 7 → t.part.attn.enable.getLsbD i = v.getLsbD i) ∧
      (t.part.attnLine = true ↔
        t.part.attn.cause.getLsbD 0 = true ∨
          ∃ i < 7, t.part.attn.cause.getLsbD i = true ∧ t.part.attn.enable.getLsbD i = true)) ∧
  (∀ (p : Part) (c : AttnCause),
    { p.latch c with attn := p.attn } = p ∧ (p.latch c).attn.enable = p.attn.enable ∧
      ∀ i, i < 7 → (p.latch c).attn.cause.getLsbD i =
        (p.attn.cause.getLsbD i || (i == c.bit && (c == .halt || p.attn.enable.getLsbD c.bit))))

/-- APERTURE_WRITE sets the enable and the page of its register, which then reads them back, and changes nothing else.
A REGISTER_WRITE_IGNORED changes nothing at all. -/
def Obligations.ApertureAndIgnoredWrites : Prop :=
  (∀ (n : Fin 3) (v : HostWord) (s : State), s.hp.cycle = .none →
    ∃ t, exec (.apertureWrite n v) s = .next t ∧ t.part = s.part ∧ t.store = s.store ∧ t.pending = s.pending ∧
      { t.hp with aperture1 := s.hp.aperture1, aperture2 := s.hp.aperture2, aperture3 := s.hp.aperture3 } = s.hp ∧
      t.hp.aperture1 = (if n = 0 then { enabled := v.getLsbD 15, page := v.setWidth 7 } else s.hp.aperture1) ∧
      t.hp.aperture2 = (if n = 1 then { enabled := v.getLsbD 15, page := v.setWidth 7 } else s.hp.aperture2) ∧
      t.hp.aperture3 = (if n = 2 then { enabled := v.getLsbD 15, page := v.setWidth 7 } else s.hp.aperture3) ∧
      t.readRegister (BitVec.ofNat 16 (8 + 2 * n.val)) = v &&& 0x807F) ∧
  (∀ (a v : HostWord) (s : State), exec (.registerWriteIgnored a v) s = .next s)

/-! ## Host store cycles -/

/-- The regions of the host address space. Address bit 0 is ignored; an aperture translates by its page, or is
disabled. -/
def Obligations.HostAddressesTranslate : Prop :=
  ∀ (h : HostPort) (a : HostWord),
    let e := a.toNat - a.toNat % 2
    let through (ap : Aperture) (base : Nat) (x : HostTarget) : Prop :=
      x = if ap.enabled then .store (BitVec.ofNat 21 (ap.page.toNat * 0x4000 + (e - base))) else .disabled
    (e ≤ 0x000F → h.translate a = .registers) ∧
      (0x0010 ≤ e → e ≤ 0x3FFF → h.translate a = .store (BitVec.ofNat 21 e)) ∧
      (0x4000 ≤ e → e ≤ 0x7FFF → through h.aperture1 0x4000 (h.translate a)) ∧
      (0x8000 ≤ e → e ≤ 0xBFFF → through h.aperture2 0x8000 (h.translate a)) ∧
      (0xC000 ≤ e → through h.aperture3 0xC000 (h.translate a))

/-- HOST_STORE_WRITE: with room in the buffer the write joins its tail with the address translated now and with
whether a request area base is held now, and the cycle completes; with 4 writes in it, or during a drain, the cycle is
held; through a disabled aperture nothing happens. That it is dropped there with a full buffer and during a drain too
is the model's reading of section 10.1 (log 44). -/
def Obligations.HostWriteJoinsTheBuffer : Prop :=
  ∀ (a v : HostWord) (s : State), 16 ≤ a.toNat → s.hp.cycle = .none →
    (s.hp.translate a = .disabled → exec (.hostStoreWrite a v) s = .next s) ∧
    (∀ x, s.hp.translate a = .store x → s.hp.draining = false → s.hp.buffer.length < 4 →
      exec (.hostStoreWrite a v) s =
        .next
          { s with
            hp :=
              { s.hp with
                buffer := s.hp.buffer ++ [{ address := x, value := v, watched := s.part.rqx.base.isSome }] } }) ∧
    (∀ x, s.hp.translate a = .store x → (s.hp.draining = true ∨ 4 ≤ s.hp.buffer.length) →
      exec (.hostStoreWrite a v) s = .next { s with hp := { s.hp with cycle := .write a v } } ∧
        (({ s.hp with cycle := .write a v } : HostPort)).waiting = true)

/-- HOST_STORE_READ: an enabled aperture makes the read a PORT request that holds the wait line; it is not chosen
while a posted write waits, nor while a part write in its 32-byte block that was requested before it is ungranted;
with neither it is the PORT request that may be granted. Through a disabled aperture it returns 0xFFFF at once. During
a drain it waits. -/
def Obligations.HostReadWaitsForItsBlock : Prop :=
  ∀ (a : HostWord) (s : State), 16 ≤ a.toNat → s.hp.cycle = .none →
    (s.hp.translate a = .disabled →
      exec (.hostStoreRead a) s = .next { s with hp := { s.hp with data := 0xFFFF } }) ∧
    (∀ x, s.hp.translate a = .store x → s.hp.draining = false →
      ∃ t, exec (.hostStoreRead a) s = .next t ∧ t.store = s.store ∧ t.pending = s.pending ∧
        t.hp = { s.hp with cycle := .read x } ∧ t.hp.waiting = true ∧ { t.part with sa := s.part.sa } = s.part ∧
        (s.hp.buffer ≠ [] → t.portChoice = some .hostWrite) ∧
        (∀ cells e h, .write cells e h ∈ s.part.sa.journal ++ s.part.sa.request ++ s.part.sa.bulk →
          (∃ c ∈ cells, c.1 / 32 = x.toNat / 32) → t.portChoice ≠ some .hostRead) ∧
        (∀ r ∈ s.part.sa.status, r.item.address / 32 = x.toNat / 32 → t.portChoice ≠ some .hostRead) ∧
        (s.hp.buffer = [] →
          (∀ cells e h, .write cells e h ∈ s.part.sa.journal ++ s.part.sa.request ++ s.part.sa.bulk →
            h = false ∧ ∀ c ∈ cells, c.1 / 32 ≠ x.toNat / 32) →
          (∀ r ∈ s.part.sa.status, r.holdsRead = false ∧ r.item.address / 32 ≠ x.toNat / 32) →
          t.portChoice = some .hostRead)) ∧
    (∀ x, s.hp.translate a = .store x → s.hp.draining = true →
      exec (.hostStoreRead a) s = .next { s with hp := { s.hp with cycle := .readWaiting a } })

/-! ## The Store Arbiter -/

/-- Which request is granted next: with the promotion count at 8 a PORT head that may be granted; otherwise the head of
the first class in the order JOURNAL, STATUS, REQUEST, BULK, PORT. During the drain of a SOFT RESET the posted writes
alone are granted. -/
def Obligations.GrantsFollowTheClassOrder : Prop :=
  ∀ s : State,
    (s.hp.draining = true → s.choice = if s.hp.buffer = [] then none else some .hostWrite) ∧
    (s.hp.draining = false →
      (∀ c, s.hp.promotion = 8 → s.portChoice = some c → s.choice = some c) ∧
      ((s.hp.promotion ≠ 8 ∨ s.portChoice = none) →
        (s.part.sa.journal ≠ [] → s.choice = some .journal) ∧
        (s.part.sa.journal = [] → s.part.sa.status ≠ [] → s.choice = some .status) ∧
        (s.part.sa.journal = [] → s.part.sa.status = [] → s.part.sa.request ≠ [] → s.choice = some .request) ∧
        (s.part.sa.journal = [] → s.part.sa.status = [] → s.part.sa.request = [] → s.part.sa.bulk ≠ [] →
          s.choice = some .bulk) ∧
        (s.part.sa.journal = [] → s.part.sa.status = [] → s.part.sa.request = [] → s.part.sa.bulk = [] →
          s.choice = s.portChoice))) ∧
    (s.hp.buffer ≠ [] → s.portChoice = some .hostWrite) ∧
    (∀ a, s.hp.buffer = [] → s.hp.cycle = .read a →
      s.portChoice = if s.part.sa.holdsRead then none else some .hostRead)

/-- STORE_GRANT of a part write at the head of JOURNAL, REQUEST or BULK: its cells are in the store and every other
byte is as it was; the request leaves its queue; the promotion count rises by 1, up to 8, while a PORT request waits.
A DONE write latches REQUEST where its notify flag is set, a context write is one the less outstanding, and a PORT
WRITE's result carries the port latch as it stands now. The moment at which that latch is taken is the model's choice
(log 25). -/
def Obligations.PartWriteGrantStoresItsCells : Prop :=
  ∀ (s : State) (c : Choice) (cells : List Host.Cell) (e : WriteEffect) (h : Bool) (rest : List StoreRequest),
    s.choice = some c → s.part.sa.queue c = .write cells e h :: rest → s.storeOk →
    cells.Pairwise (fun x y => x.1 % storeBytes ≠ y.1 % storeBytes) →
    ∃ t, exec .storeGrant s = .next t ∧ t.pending = s.pending ∧
      (∀ x ∈ cells, Memory.read t.store x.1 =
        match e with
        | .plain => x.2
        | .publish _ _ => x.2
        | .done _ => x.2
        | .context => x.2
        | .portResult a => if x.1 = a + 28 then s.part.lsq.portLatch else x.2) ∧
      (∀ a, (∀ x ∈ cells, x.1 % storeBytes ≠ a % storeBytes) → Memory.read t.store a = Memory.read s.store a) ∧
      (s.part.sa.popped c).follows t.part.sa ∧
      t.hp = { s.hp with promotion := if s.hp.portWaits then min 8 (s.hp.promotion + 1) else s.hp.promotion } ∧
      (match e with
        | .plain => Part.keeps [.dial, .loading, .meters, .references, .plans, .bins, .lots, .requests, .journal,
            .attention, .configuration, .lines, .timers] s.part t.part
        | .portResult _ => Part.keeps [.dial, .loading, .meters, .references, .plans, .bins, .lots, .requests, .journal,
            .attention, .configuration, .lines, .timers] s.part t.part
        | .done notify =>
          Part.keeps [.dial, .loading, .meters, .references, .plans, .bins, .lots, .requests, .journal,
            .configuration, .lines, .timers] s.part t.part ∧
          t.part.attn = if notify then (s.part.latch .request).attn else s.part.attn
        | .context =>
          Part.keeps [.dial, .loading, .meters, .references, .plans, .bins, .requests, .journal, .attention,
            .configuration, .lines, .timers] s.part t.part ∧
          { t.part.lsq with completion := s.part.lsq.completion } = s.part.lsq ∧
          t.part.lsq.completion =
            s.part.lsq.completion.map (fun k => { k with writesLeft := k.writesLeft - 1 })
        | .publish _ _ => Part.keeps [.loading, .meters, .references, .plans, .bins, .requests, .configuration, .lines]
            s.part t.part)

/-- STORE_GRANT of a STATUS write: the item's place in the status block holds the item's value as it stands at the
grant, and every other byte is as it was; nothing else of the part changes. -/
def Obligations.StatusGrantWritesTheItemAsItStands : Prop :=
  ∀ (s : State) (r : StatusRequest) (rest : List StatusRequest),
    s.choice = some .status → s.part.sa.status = r :: rest → s.storeOk →
    ∃ t, exec .storeGrant s = .next t ∧ t.pending = s.pending ∧
      Memory.readBytes t.store r.item.address (s.part.statusBytes r.item).length = s.part.statusBytes r.item ∧
      (∀ a, (a % storeBytes < r.item.address ∨
          r.item.address + (s.part.statusBytes r.item).length ≤ a % storeBytes) →
        Memory.read t.store a = Memory.read s.store a) ∧
      (s.part.sa.popped .status).follows t.part.sa ∧
      Part.keeps [.dial, .loading, .meters, .references, .plans, .bins, .lots, .requests, .journal, .attention,
        .configuration, .lines, .timers] s.part t.part ∧
      t.hp = { s.hp with promotion := if s.hp.portWaits then min 8 (s.hp.promotion + 1) else s.hp.promotion }

/-- STORE_GRANT of a posted host write: the word is in the store, its lower byte at the lower address, every other
byte is as it was, the write leaves the buffer, a write cycle that waits joins it, and the promotion count is 0. The
Watch Unit offers slot i when the value 1 (POSTED) was written to the slot's state word by a write that was accepted
while a request area base was held: a slot not in the post queue joins its tail, one in it is dropped. With the RQX
free the slot at the queue's head is taken at once and its read is filed; that it is at the end of the command is the
model's choice (log 9). No other write but one to the reclaim word's upper half reaches a block. -/
def Obligations.HostWriteGrantStoresAndPosts : Prop :=
  ∀ (s : State) (a : StoreAddr) (v : HostWord) (watched : Bool) (rest : List PostedWrite),
    s.choice = some .hostWrite → s.hp.buffer = { address := a, value := v, watched } :: rest → s.storeOk →
    a.toNat + 1 < storeBytes →
    ∃ t, exec .storeGrant s = .next t ∧ t.pending = s.pending ∧
      Memory.read t.store a.toNat = v.setWidth 8 ∧ Memory.read t.store (a.toNat + 1) = (v >>> 8).setWidth 8 ∧
      (∀ x, x % storeBytes ≠ a.toNat → x % storeBytes ≠ a.toNat + 1 →
        Memory.read t.store x = Memory.read s.store x) ∧
      t.hp.promotion = 0 ∧
      ((∀ y w, s.hp.cycle ≠ .write y w) → t.hp = { s.hp with buffer := rest, promotion := 0 }) ∧
      (∀ y w x, s.hp.cycle = .write y w → s.hp.draining = false → rest.length < 4 → s.hp.translate y = .store x →
        t.hp =
          { s.hp with
            buffer := rest ++ [{ address := x, value := w, watched := s.part.rqx.base.isSome }]
            cycle := .none
            promotion := 0 }) ∧
      Part.keeps [.dial, .loading, .meters, .references, .plans, .bins, .lots, .requests, .configuration, .lines]
        s.part t.part ∧
      (a.toNat ≠ 0x000406 → Part.keeps [.journal, .queues, .attention, .timers] s.part t.part) ∧
      (let slot : Option Nat :=
        s.part.rqx.base.bind (fun base => (List.range 16).find? (fun i => a.toNat == base + 32 * i))
       let offered : List Nat :=
        match slot with
        | none => s.part.rqx.posts
        | some i => if watched = true ∧ v = 1 ∧ i ∉ s.part.rqx.posts then s.part.rqx.posts ++ [i] else s.part.rqx.posts
       (s.part.rqx.current ≠ none ∨ s.part.rqx.reading ≠ none ∨ s.part.cfg.work ≠ .none ∨ s.part.rqx.base = none ∨
          offered = [] →
        t.part.rqx = { s.part.rqx with posts := offered } ∧ t.part.sa.request = s.part.sa.request) ∧
       (∀ base i after, s.part.rqx.current = none → s.part.rqx.reading = none → s.part.cfg.work = .none →
        s.part.rqx.base = some base → offered = i :: after →
        t.part.rqx =
            { s.part.rqx with
              posts := after, reading := some { slot := i, address := base + 32 * i, data := none } } ∧
          t.part.sa.request = s.part.sa.request ++ readRequests (base + 32 * i) 32 .slot))

/-- STORE_GRANT of a part read at the head of REQUEST or BULK: the bytes of the store as they stand join what its
owner has read, the store is as it was, and the promotion count rises by 1, up to 8, while a PORT request waits. Once
a plan header of 32 bytes is whole, the reads of the rows are filed where the row count and the extent allow;
otherwise none. STORE_GRANT of the host read completes the cycle with the word as the store holds it now, and nothing
else changes. -/
def Obligations.ReadGrantsBringTheStoreBytes : Prop :=
  (∀ (s : State) (c : Choice) (a n : Nat) (o : ReadOwner) (rest : List StoreRequest),
    s.choice = some c → s.part.sa.queue c = .read a n o :: rest →
    ∃ t, exec .storeGrant s = .next t ∧ t.pending = s.pending ∧ t.store = s.store ∧
      t.hp = { s.hp with promotion := if s.hp.portWaits then min 8 (s.hp.promotion + 1) else s.hp.promotion } ∧
      (o ≠ .plan ∨ s.part.ps.staging = none → (s.part.sa.popped c).follows t.part.sa) ∧
      Part.keeps [.dial, .loading, .meters, .references, .bins, .journal, .attention, .lines, .timers] s.part t.part ∧
      (∀ d, o = .configuration → s.part.cfg.work = .reading d →
        t.part.cfg = { s.part.cfg with work := .reading (d ++ Memory.readBytes s.store a n) }) ∧
      (∀ w d, o = .context → s.part.lsq.startLot = some w → w.phase = .context d →
        t.part.lsq =
          { s.part.lsq with
            startLot := some { w with phase := .context (d ++ Memory.readBytes s.store a n) } }) ∧
      (∀ r, o = .slot → s.part.rqx.reading = some r →
        t.part.rqx.reading = some { r with data := some (r.data.getD [] ++ Memory.readBytes s.store a n) }) ∧
      (∀ w, o = .plan → s.part.ps.staging = some w →
        let d := w.data ++ Memory.readBytes s.store a n
        let rows : List StoreRequest :=
          if d.length = 32 ∧ 1 ≤ fieldAt d 4 1 ∧ fieldAt d 4 1 ≤ 48 ∧
              w.address + 32 + 16 * fieldAt d 4 1 ≤ 0x200000 then
            readRequests (w.address + 32) (16 * fieldAt d 4 1) .plan
          else []
        t.part.ps = { s.part.ps with staging := some { w with data := d } } ∧
          ({ s.part.sa.popped c with bulk := (s.part.sa.popped c).bulk ++ rows } : Sa).follows t.part.sa)) ∧
  (∀ (s : State) (a : StoreAddr), s.choice = some .hostRead → s.hp.cycle = .read a →
    ∃ t, exec .storeGrant s = .next t ∧ t.pending = s.pending ∧ t.store = s.store ∧
      t.hp = { s.hp with data := t.hp.data, cycle := .none, promotion := 0 } ∧
      t.hp.data.setWidth 8 = Memory.read s.store a.toNat ∧
      (t.hp.data >>> 8).setWidth 8 = Memory.read s.store (a.toNat + 1) ∧ t.hp.waiting = false ∧
      Part.keeps [.dial, .loading, .meters, .references, .plans, .bins, .lots, .requests, .journal, .queues, .attention,
        .configuration, .lines, .timers] s.part t.part)

/-! ## The journal -/

/-- JOURNAL_RECORD_WRITE: the head of the staging queue, of length L, is tested against the unreclaimed count U and
the fill offset F. It fits without the end, or after a PAD, or there is no room and the writer waits. That the test
waits for this row (log 9) and that a PAD takes its index count as its write is requested (log 53) are the model's
choice. -/
def Obligations.JournalWriterTestsTheHead : Prop :=
  ∀ (s : State) (a : JournalArea) (r : JournalRecord) (rest : List JournalRecord),
    s.part.jw.writer = .idle → s.part.jw.area = some a → s.part.jw.queue = r :: rest →
    ∃ t, exec .journalRecordWrite s = .next t ∧ State.sameOutside s t ∧
      Part.keeps [.dial, .loading, .meters, .references, .plans, .bins, .lots, .requests, .attention, .configuration,
        .lines, .timers] s.part t.part ∧
      t.part.sa.bulk = s.part.sa.bulk ∧ { t.part.jw with writer := s.part.jw.writer } = s.part.jw ∧
      Part.headTested s.part t.part a (circleDistance a.size s.part.jw.reclaim s.part.jw.fill) r

/-- The grant of a publish write: the fill offset and the wrap count take their new values, the head leaves the
staging queue and the first waiting hand-off takes a place: where it carries the dwell of a CLEAR item, that item
completes, unless its catch pulse still runs or a later hand-off of it waits; JOURNAL is latched where the unreclaimed
count is at the backlog threshold or above; the age timer starts where it is stopped and its interval's count is not
0; the level is worked out again. A LOT CLOSE that leaves is noted by the close completion. That the writer is IDLE
with a further head in the queue is the model's choice (log 9). -/
def Obligations.PublishGrantMovesTheFillOffset : Prop :=
  ∀ (s : State) (a : JournalArea) (cells : List Host.Cell) (f w : Nat) (h : Bool) (rest : List StoreRequest),
    s.choice = some .journal → s.part.sa.journal = .write cells (.publish f w) h :: rest → s.part.jw.area = some a →
    ∃ t, exec .storeGrant s = .next t ∧ t.part.jw.fill = f ∧ t.part.jw.wrap = w ∧ t.part.jw.writer = .idle ∧
      t.part.jw.area = s.part.jw.area ∧ t.part.jw.reclaim = s.part.jw.reclaim ∧
      t.part.jw.queue = s.part.jw.queue.tail ++ (s.part.jw.waiting.take 1).map HandOff.record ∧
      t.part.jw.waiting = s.part.jw.waiting.tail ∧
      t.part.dt.items =
        (match s.part.jw.waiting with
         | { record := _, clearDwell := some d } :: others =>
           if d = s.part.dt.dwell ∧ s.part.lcu.clearJet ≠ .pulsing d true ∧ (∀ x ∈ others, x.clearDwell ≠ some d) then
             s.part.dt.items.map (Item.complete .clear)
           else s.part.dt.items
         | _ => s.part.dt.items) ∧
      Region.same s.part { t.part with dt := { t.part.dt with items := s.part.dt.items } } .dial ∧
      (let u := circleDistance a.size s.part.jw.reclaim f
       t.part.jw.level = a.levelAt u ∧
       t.part.attn = (if a.backlog ≤ u then (s.part.latch .journal).attn else s.part.attn) ∧
       t.part.lct.timers.age =
        (if s.part.lct.timers.age = .stopped then
          (if IntervalCode.count a.age = 0 then .stopped else .running a.age (IntervalCode.units a.age))
         else s.part.lct.timers.age)) ∧
      { t.part.lsq with completion := s.part.lsq.completion } = s.part.lsq ∧
      (∀ k r, s.part.lsq.completion = some k → s.part.jw.queue.head? = some r → r.body.kind = 5 →
        t.part.lsq.completion = some { k with published := true })

/-- A reclaim write reaches the JW at its grant with the 32-bit value the reclaim word then holds. A multiple of 8
below the size that lies on the circle from the reclaim offset up to the fill offset becomes the reclaim offset: the
level is worked out again, the age timer restarts, or stops where nothing is left, and a waiting writer tests its head
again: with room its writes and its publish are requested, and without it the writer stays WAITING. Any other value
leaves the offset, latches RECLAIM and hands on the bad reclaim EVENT. With no journal area held the write is stored
and not handed on. That a timer left running by an earlier interval of the area stops where the count is now 0 (log
36), and that a PAD takes its index count as its write is requested (log 53), are the model's choice. -/
def Obligations.ReclaimWritesAreChecked : Prop :=
  (∀ (s : State) (v : HostWord) (watched : Bool) (rest : List PostedWrite) (a : JournalArea) (r : Nat),
    s.choice = some .hostWrite → s.hp.buffer = { address := 0x000406, value := v, watched } :: rest →
    s.part.jw.area = some a → s.storeOk →
    r = (Memory.read s.store 0x000404).toNat + 256 * (Memory.read s.store 0x000405).toNat + 65536 * v.toNat →
    ∃ t, exec .storeGrant s = .next t ∧
      (let valid : Prop := r % 8 = 0 ∧ r < a.size ∧
        circleDistance a.size s.part.jw.reclaim r ≤ circleDistance a.size s.part.jw.reclaim s.part.jw.fill
       let u := circleDistance a.size r s.part.jw.fill
       (valid →
        { t.part.jw with writer := s.part.jw.writer, level := s.part.jw.level } = { s.part.jw with reclaim := r } ∧
          t.part.attn = s.part.attn ∧ t.part.jw.level = a.levelAt u ∧
          (s.part.jw.writer ≠ .waiting ∨ s.part.jw.queue = [] →
            t.part.jw.writer = s.part.jw.writer ∧ t.part.sa.journal = s.part.sa.journal) ∧
          (s.part.jw.writer = .waiting → ∀ x xs, s.part.jw.queue = x :: xs → Part.headTested s.part t.part a u x) ∧
          t.part.lct.timers =
            { s.part.lct.timers with
              jam := t.part.lct.timers.jam
              age :=
                if u = 0 then .stopped
                else if IntervalCode.count a.age = 0 then .stopped
                else .running a.age (IntervalCode.units a.age) }) ∧
       (¬ valid →
        t.part.attn = (s.part.latch .reclaim).attn ∧ t.part.sa.journal = s.part.sa.journal ∧
          t.part.lct.timers = { s.part.lct.timers with jam := t.part.lct.timers.jam } ∧
          Part.handed s.part t.part [.event (.badReclaim r s.part.jw.reclaim s.part.jw.fill)]))) ∧
  (∀ (s : State) (v : HostWord) (watched : Bool) (rest : List PostedWrite),
    s.choice = some .hostWrite → s.hp.buffer = { address := 0x000406, value := v, watched } :: rest →
    s.part.jw.area = none → s.storeOk →
    ∃ t, exec .storeGrant s = .next t ∧ Memory.readBytes t.store 0x000406 2 = leBytes 2 v.toNat ∧
      Part.keepsBut [] s.part t.part)

/-! ## Request slots -/

/-- REQUEST_SLOT_READ, with the slot read next to be granted, or granted already by STORE_GRANT: a slot whose state
word is 1 (POSTED) becomes the current request with the kind, the notify flag and the arguments it holds, and the
TAKEN write is filed; any other is dropped, with no write and no attention, and the RQX is free again: with no current
request and no CONFIGURE in progress it takes the next post at once. The store is as it was. That this row makes the
grant of the slot read (log 8), and that the next post is taken in the same step (log 9), are the model's choice. -/
def Obligations.SlotReadTakesAPostedSlot : Prop :=
  let kept : List Region := [.dial, .loading, .meters, .references, .plans, .bins, .lots, .journal, .attention,
    .configuration, .lines, .timers, .own]
  let taken (r : SlotRead) (bytes : List Byte) : CurrentRequest :=
    { slot := r.slot, address := r.address, kind := fieldAt bytes 2 1, notify := decide (fieldAt bytes 3 1 % 2 = 1),
      args := (bytes.drop 4).take 20, executing := false }
  let dropped (s : State) (q : Part) (queue : List StoreRequest) : Prop :=
    (∀ base i after, s.part.rqx.current = none → s.part.cfg.work = .none → s.part.rqx.base = some base →
      s.part.rqx.posts = i :: after →
      q.rqx =
          { s.part.rqx with
            posts := after, reading := some { slot := i, address := base + 32 * i, data := none } } ∧
        q.sa.request = queue ++ readRequests (base + 32 * i) 32 .slot) ∧
    (s.part.rqx.current ≠ none ∨ s.part.cfg.work ≠ .none ∨ s.part.rqx.base = none ∨ s.part.rqx.posts = [] →
      q.rqx = { s.part.rqx with reading := none } ∧ q.sa.request = queue)
  (∀ (s : State) (r : SlotRead) (a n : Nat) (rest : List StoreRequest),
    s.part.rqx.reading = some r → r.data = none → s.choice = some .request →
    s.part.sa.request = .read a n .slot :: rest →
    let bytes := Memory.readBytes s.store a n
    ∃ t, exec .requestSlotRead s = .next t ∧ t.store = s.store ∧ t.pending = s.pending ∧
      t.hp = { s.hp with promotion := if s.hp.portWaits then min 8 (s.hp.promotion + 1) else s.hp.promotion } ∧
      Part.keeps kept s.part t.part ∧ t.part.rqx.base = s.part.rqx.base ∧
      t.part.rqx.parkedRef = s.part.rqx.parkedRef ∧
      (fieldAt bytes 0 2 = 1 →
        t.part.rqx.current = some (taken r bytes) ∧ t.part.rqx.reading = none ∧
        t.part.rqx.posts = s.part.rqx.posts ∧
        ({ s.part.sa with request := rest ++ writeRequests (cellsAt r.address [0x02, 0x00]) .plain } : Sa).follows
          t.part.sa) ∧
      (fieldAt bytes 0 2 ≠ 1 →
        t.part.rqx.current = s.part.rqx.current ∧
          ({ s.part.sa with request := rest } : Sa).follows t.part.sa ∧ dropped s t.part rest)) ∧
  (∀ (s : State) (r : SlotRead) (bytes : List Byte), s.part.rqx.reading = some r → r.data = some bytes →
    ∃ t, exec .requestSlotRead s = .next t ∧ State.sameOutside s t ∧
      Part.keeps kept s.part t.part ∧ t.part.rqx.base = s.part.rqx.base ∧
      t.part.rqx.parkedRef = s.part.rqx.parkedRef ∧
      (fieldAt bytes 0 2 = 1 →
        t.part.rqx.current = some (taken r bytes) ∧ t.part.rqx.reading = none ∧
        t.part.rqx.posts = s.part.rqx.posts ∧
        Part.filed s.part t.part (writeRequests (cellsAt r.address [0x02, 0x00]) .plain)) ∧
      (fieldAt bytes 0 2 ≠ 1 →
        t.part.rqx.current = s.part.rqx.current ∧ Part.filed s.part t.part [] ∧
          dropped s t.part s.part.sa.request))

/-! ## CONFIGURE -/

/-- CONFIGURE written to CONTROL, and CONFIGURE_HELD_TAKEN: in progress it is ignored; in RUN, DRAIN, HOLD or HALT it
is refused with STATE; in IDLE it is held while a START LOT, a METER RESTART or a close completion is under way;
otherwise the 132 bytes of the configuration block are requested in class BULK. Which current requests hold it is the
model's choice (log 26). -/
def Obligations.ConfigureIsTakenByTheState : Prop :=
  (∀ s : State, s.part.cfg.work ≠ .none → exec .configure s = .next s) ∧
  (∀ s : State, s.hp.cycle = .none → s.part.cfg.work = .none →
    ∃ t, exec .configure s = .next t ∧ State.sameOutside s t ∧
      Part.keeps [.dial, .loading, .meters, .references, .plans, .bins, .lots, .requests, .journal, .attention, .lines,
        .timers] s.part t.part ∧
      (s.part.lsq.engine.inLot = true →
        t.part.cfg = { work := .none, result := .state, failing := none } ∧ t.part.sa.bulk = s.part.sa.bulk) ∧
      (s.part.lsq.engine = .idle → s.part.configureWaits = true →
        t.part.cfg = { s.part.cfg with work := .held } ∧ t.part.sa.bulk = s.part.sa.bulk) ∧
      (s.part.lsq.engine = .unconfigured ∨ (s.part.lsq.engine = .idle ∧ s.part.configureWaits = false) →
        t.part.cfg = { s.part.cfg with work := .reading [] } ∧
          t.part.sa.bulk = s.part.sa.bulk ++ readRequests 0x000040 132 .configuration)) ∧
  (∀ s : State, s.part.cfg.work = .held → s.part.configureWaits = false →
    ∃ t, exec .configureHeldTaken s = .next t ∧ State.sameOutside s t ∧
      Part.keeps [.dial, .loading, .meters, .references, .plans, .bins, .lots, .requests, .journal, .attention, .lines,
        .timers] s.part t.part ∧
      (s.part.lsq.engine.inLot = true →
        t.part.cfg = { work := .none, result := .state, failing := none } ∧ t.part.sa.bulk = s.part.sa.bulk) ∧
      (s.part.lsq.engine.inLot = false →
        t.part.cfg = { s.part.cfg with work := .reading [] } ∧
          t.part.sa.bulk = s.part.sa.bulk ++ readRequests 0x000040 132 .configuration)) ∧
  (∀ s : State, s.part.configureWaits = true ↔
    (∃ c, s.part.rqx.current = some c ∧ (c.kind = 1 ∨ c.kind = 10)) ∨ s.part.lsq.completion ≠ none)

/-- CONFIGURE_READ_DONE with every check passed: every block takes its values for a CONFIGURE that passes. The dial,
the load station, the channels with their roles and the take timeout, the meters (the unused ones too), the bins with
their items, the presets, the request area, the lines and the scan count are set from the block; a plan slot keeps its
state and its plan unless it is STAGED with a plan that names a bin the geometry lacks, which is dropped with its
EVENT; the journal goes on in the same area and begins anew in another; the engine enters IDLE with the port latch as
it was; and a write of every bin item waits. That no request holds it then (log 26), the location reported for a
dropped plan (log 31), the level and the age timer kept with the same area (log 36), the pulses kept (log 21, log 43)
and the one write of the header of a new area (log 55) are the model's choice. -/
def Obligations.ConfigureThatPasses : Prop :=
  ∀ (s : State) (b : List Byte),
    s.part.cfg.work = .reading b → b.length = 132 → s.part.configureWaits = false →
    s.part.lsq.engine.inLot = false → configFailure b = none →
    let gates := fieldAt b 4 1
    let area : JournalArea :=
      { base := fieldAt b 0x20 4, size := fieldAt b 0x24 4, t1 := fieldAt b 0x28 4, t2 := fieldAt b 0x2C 4,
        t3 := fieldAt b 0x30 4, backlog := fieldAt b 0x34 4, age := BitVec.ofNat 8 (fieldAt b 0x16 1) }
    let sameArea : Prop := ∃ a, s.part.jw.area = some a ∧ a.base = area.base ∧ a.size = area.size
    let special (pl : Plan) : Prop :=
      ∀ n, (pl.reject = some n ∨ pl.fail = some n ∨ pl.spread = some n ∨ pl.overflow = some n) → n < gates
    let rowOk (r : PlanRow) : Prop := r.target < gates ∧ ∀ n ∈ r.alternates, n < gates
    let posts := if s.part.rqx.base = some (fieldAt b 0x1C 4) then s.part.rqx.posts else []
    ∃ t, exec .configureReadDone s = .next t ∧ State.sameOutside s t ∧
      t.part.cfg = { work := .none, result := .ok, failing := none } ∧
      t.part.lsq =
        { s.part.lsq with
          engine := .idle
          presets :=
            some { run := BitVec.ofNat 8 (fieldAt b 0x38 1), hold := BitVec.ofNat 8 (fieldAt b 0x39 1),
                   halt := BitVec.ofNat 8 (fieldAt b 0x3A 1) } } ∧
      t.part.dt.geometry = some (Block.geometry b) ∧ t.part.dt.offset = 0 ∧ t.part.dt.dwell = 0 ∧
      t.part.dt.items = [] ∧ t.part.dt.permit = false ∧ t.part.dt.indexExpected = false ∧
      t.part.dt.pockets = List.replicate (fieldAt b 0 2) .vacant ∧
      t.part.lcu.nextSequence = 1 ∧ t.part.lcu.thinning = 7 ∧ t.part.lcu.forcedRatio = 1 ∧
      t.part.lcu.feed = .idle ∧ t.part.lcu.counters = LotCounters.zero ∧
      (∀ m, t.part.lcu.pendingSet.get m = Block.used b m) ∧
      t.part.lcu.intervals =
        some { feedTimeout := BitVec.ofNat 8 (fieldAt b 0x06 1), catchPulse := BitVec.ofNat 8 (fieldAt b 0x07 1),
               starvation := BitVec.ofNat 8 (fieldAt b 0x10 1) } ∧
      (t.part.lcu.clearJet = .idle ↔ s.part.lcu.clearJet = .idle) ∧
      t.part.mc.takeTimeout = some (BitVec.ofNat 8 (fieldAt b 0x11 1)) ∧
      (∀ m, t.part.channel m =
        { state := if Block.used b m then .offline else .unused
          role :=
            (match fieldAt b (0x08 + 2 * m.val) 1 with
             | 1 => .primary
             | 2 => .second
             | 3 => .backup
             | _ => .unused)
          nextSerial := 0, queue := [], pendingTake := none, setup := none, nominal := none, rememberedRdy := false,
          link := .idle, setupDue := false, acq := (s.part.channel m).acq, flt := (s.part.channel m).flt }) ∧
      (∀ m, Block.used b m = true →
        t.part.rsc.get m =
          { thresholds := some (Block.thresholds b m), count := (Block.thresholds b m).limit, urgency := .limit,
            cover := .pending, refs := [] }) ∧
      (∀ m, Block.used b m = false →
        t.part.rsc.get m = { thresholds := none, count := 0, urgency := .current, cover := .none, refs := [] }) ∧
      (∀ n, n < Block.gateCount b → n < 32 →
        t.part.bin n =
          { tube := s.part.tubeInput n,
            full := if (Block.fullSensors b).getLsbD n && s.part.fullInput n then .sensor else .clear,
            closed := .none, capacity := fieldAt b 0x14 2, fired := 0, pending := 0, tubeNumber := 1, misses := 0 }) ∧
      (∀ n, Block.gateCount b ≤ n → t.part.bin n = BinEntry.reset) ∧
      t.part.gbt.items =
        some { ejectPulse := BitVec.ofNat 8 (fieldAt b 0x12 1), defaultCapacity := fieldAt b 0x14 2,
               missLimit := fieldAt b 0x13 1, fullSensors := BitVec.ofNat 32 (fieldAt b 0x18 4) } ∧
      (∀ n, t.part.pulse n = .idle ↔ s.part.pulse n = .idle) ∧
      (∀ x, (t.part.ps.slot x).refs = 0) ∧ t.part.ps.loadSlot = s.part.ps.loadSlot ∧
      t.part.ps.pendingSwitch = s.part.ps.pendingSwitch ∧ t.part.ps.staging = s.part.ps.staging ∧
      (∀ x, (s.part.ps.slot x).state ≠ .staged ∨ (s.part.ps.slot x).plan = none →
        t.part.ps.slot x = { s.part.ps.slot x with refs := 0 }) ∧
      (∀ x pl, (s.part.ps.slot x).state = .staged → (s.part.ps.slot x).plan = some pl →
        (special pl ∧ (∀ r ∈ pl.rows, rowOk r) → t.part.ps.slot x = { s.part.ps.slot x with refs := 0 }) ∧
        (¬ special pl →
          t.part.ps.slot x = { state := .empty, plan := none, refs := 0 } ∧
            t.part.records (.event (.planDropped x pl.id 255))) ∧
        (special pl → ∀ i r, pl.rows[i]? = some r → ¬ rowOk r →
          (∀ j y, j < i → pl.rows[j]? = some y → rowOk y) →
          t.part.ps.slot x = { state := .empty, plan := none, refs := 0 } ∧
            t.part.records (.event (.planDropped x pl.id i)))) ∧
      t.part.rqx.base = some (fieldAt b 0x1C 4) ∧
      t.part.rqx.current = s.part.rqx.current ∧ t.part.rqx.parkedRef = s.part.rqx.parkedRef ∧
      (s.part.rqx.current ≠ none ∨ s.part.rqx.reading ≠ none ∨ posts = [] →
        t.part.rqx.posts = posts ∧ t.part.rqx.reading = s.part.rqx.reading) ∧
      (∀ i after, s.part.rqx.current = none → s.part.rqx.reading = none → posts = i :: after →
        t.part.rqx.posts = after ∧
          t.part.rqx.reading = some { slot := i, address := fieldAt b 0x1C 4 + 32 * i, data := none }) ∧
      (∀ l : LineId,
        let code := fieldAt b
          (match l with
           | .index => 0x3C | .placed => 0x3D | .door => 0x3E | .air => 0x3F | .loadEye => 0x40 | .clearEye => 0x41) 1
        let v := s.part.lct.lines.get l
        t.part.lct.lines.get l =
          { pin := v.pin, lowActive := decide (128 ≤ code), debounceMs := code % 16,
            stable := xor v.pin (decide (128 ≤ code)), debounce := .settled }) ∧
      t.part.lct.chain =
        { s.part.lct.chain with scanCount := fieldAt b 0x17 1 % 16, runs := List.replicate 64 0 } ∧
      (∀ n, ∃ r ∈ t.part.sa.status, r.item = .bin n) ∧
      ({ s.part.sa with journal := t.part.sa.journal } : Sa).follows t.part.sa ∧
      Part.keeps [.attention, .own] s.part t.part ∧ t.part.jw.area = some area ∧
      (sameArea →
        t.part.jw.fill = s.part.jw.fill ∧ t.part.jw.reclaim = s.part.jw.reclaim ∧ t.part.jw.wrap = s.part.jw.wrap ∧
          t.part.jw.writer = s.part.jw.writer ∧ t.part.jw.level = s.part.jw.level ∧
          (∃ dropped, t.part.jw.records = s.part.jw.records ++ dropped ∧
            ∀ r ∈ dropped, ∃ x i l, r = { body := .event (.planDropped x i l), indexCount := 0 }) ∧
          t.part.sa.journal = s.part.sa.journal ∧
          t.part.lct.timers =
            { s.part.lct.timers with
              jam := .stopped, feed := .stopped, starvation := .stopped, take := Four.const .stopped }) ∧
      (¬ sameArea →
        t.part.jw.fill = 0 ∧ t.part.jw.reclaim = 0 ∧ t.part.jw.wrap = 0 ∧ t.part.jw.writer = .idle ∧
          t.part.jw.level = 1 ∧
          (∀ r ∈ t.part.jw.records, ∃ x i l, r = { body := .event (.planDropped x i l), indexCount := 0 }) ∧
          t.part.sa.journal = writeRequests (cellsAt 0x000400 (List.replicate 12 0)) .plain ∧
          t.part.lct.timers =
            { s.part.lct.timers with
              jam := .stopped, feed := .stopped, starvation := .stopped, take := Four.const .stopped, age := .stopped })

/-- CONFIGURE_READ_DONE with a failing check: the result is the code of the first check that fails, with the station
of a reference check; the geometry and what is held with it take their power-on values: the dial, the load station, the
channels and the take timeout, the meters, the bins and their items, and the presets; the jam, feed, starvation and take
timers stop; the engine enters UNCONFIGURED, and the journal with its age timer, the request area, the plan slots, the
lines, the port latch and the rest of the Lot Sequencer are kept. That no request holds it then (log 26) and that the
pulses run on without their items (log 21, log 43) are the model's choice. -/
def Obligations.ConfigureThatFails : Prop :=
  ∀ (s : State) (b : List Byte) (c : Check),
    s.part.cfg.work = .reading b → b.length = 132 → s.part.configureWaits = false →
    s.part.lsq.engine.inLot = false → configFailure b = some c →
    ∃ t, exec .configureReadDone s = .next t ∧ State.sameOutside s t ∧
      t.part.cfg = { work := .none, result := c.code, failing := c.station } ∧
      t.part.lsq = { s.part.lsq with engine := .unconfigured, presets := none } ∧
      t.part.dt = State.reset.part.dt ∧
      { t.part.lcu with clearJet := .idle } = State.reset.part.lcu ∧
      (t.part.lcu.clearJet = .idle ↔ s.part.lcu.clearJet = .idle) ∧
      t.part.mc.takeTimeout = none ∧
      (∀ m, t.part.channel m =
        { state := .unused, role := .unused, nextSerial := 0, queue := [], pendingTake := none, setup := none,
          nominal := none, rememberedRdy := false, link := .idle, setupDue := false,
          acq := (s.part.channel m).acq, flt := (s.part.channel m).flt }) ∧
      t.part.rsc = State.reset.part.rsc ∧ t.part.gbt.bins = State.reset.part.gbt.bins ∧ t.part.gbt.items = none ∧
      (∀ n, t.part.pulse n = .idle ↔ s.part.pulse n = .idle) ∧
      { t.part.jw with waiting := s.part.jw.waiting } = s.part.jw ∧
      t.part.jw.waiting.map HandOff.record = s.part.jw.waiting.map HandOff.record ∧
      t.part.lct.timers =
        { s.part.lct.timers with
          jam := .stopped, feed := .stopped, starvation := .stopped, take := Four.const .stopped } ∧
      Part.keeps [.plans, .requests, .attention, .lines, .queues, .own] s.part t.part

/-- The first check of R2 to R162 that fails, in the order of R182, ends the checking with its code: a block passes
exactly when every check does, and a failing one is preceded by passing ones alone. The checks are those of the tables
of R2, R20, R42, R61, R113 and R162 in order, those of R61 once for each used station and with its number; and each
passes exactly where the values it names satisfy its condition (where an earlier check is what makes the condition
plain, with that check passed). -/
def Obligations.ConfigurationChecksStopAtTheFirstFailure : Prop :=
  ∀ b : List Byte,
    let pockets := fieldAt b 0 2
    let decision := fieldAt b 2 1
    let clear := fieldAt b 3 1
    let gates := fieldAt b 4 1
    let role (m : Meter) : Nat := fieldAt b (0x08 + 2 * m.val) 1
    let position (m : Meter) : Nat := fieldAt b (0x09 + 2 * m.val) 1
    let due (m : Meter) : Nat := fieldAt b (0x44 + 8 * m.val) 2
    let force (m : Meter) : Nat := fieldAt b (0x46 + 8 * m.val) 2
    let limit (m : Meter) : Nat := fieldAt b (0x48 + 8 * m.val) 2
    let drift (m : Meter) : Nat := fieldAt b (0x4A + 8 * m.val) 2
    let gate (i : Nat) : Nat := fieldAt b (0x64 + i) 1
    let base := fieldAt b 0x20 4
    let size := fieldAt b 0x24 4
    let t1 := fieldAt b 0x28 4
    let t2 := fieldAt b 0x2C 4
    let t3 := fieldAt b 0x30 4
    let backlog := fieldAt b 0x34 4
    let area := fieldAt b 0x1C 4
    let used : List Meter := allMeters.filter (fun m => role m != 0)
    let passesAt (n : Nat) : Prop := ∀ c, (configChecks b)[n]? = some c → c.ok = true
    let passes (code : ConfigResult) (station : Option Meter) : Prop :=
      ∀ c ∈ configChecks b, c.code = code → c.station = station → c.ok = true
    (configFailure b = none ↔ ∀ c ∈ configChecks b, c.ok = true) ∧
    (∀ c, configFailure b = some c →
      c.ok = false ∧ ∃ before after, configChecks b = before ++ c :: after ∧ ∀ x ∈ before, x.ok = true) ∧
    (configChecks b).map (fun c => (c.code, c.station)) =
      [ConfigResult.pocketCount, .stationRoles, .stationOrder, .stationRoles, .decisionPosition, .gateCount, .gateOrder,
          .clearPosition, .jamInterval, .feedInterval, .catchPulse, .takeInterval].map (fun code => (code, none)) ++
        used.flatMap
          (fun m => [(ConfigResult.referenceOrder, some m), (.referenceMargin, some m), (.driftLimit, some m)]) ++
        [ConfigResult.ejectPulse, .capacity, .missLimit, .journalSize, .journalPlace, .thinningLevels, .backlog,
          .requestArea].map (fun code => (code, none)) ∧
    (passesAt 0 ↔ 24 ≤ pockets ∧ pockets ≤ 192) ∧
    (passesAt 1 ↔
      (∀ m, role m ≤ 3) ∧ (∃ m, role m = 1 ∧ ∀ x, role x = 1 → x = m) ∧
        (∀ m x, role m = 2 → role x = 2 → x = m) ∧ ∀ m x, role m = 3 → role x = 3 → x = m) ∧
    (passesAt 2 ↔
      (∀ m ∈ used, 1 ≤ position m ∧ position m < pockets) ∧
        ∀ m ∈ used, ∀ x ∈ used, m < x → position m < position x) ∧
    (passesAt 1 → (passesAt 3 ↔ ∀ m x, role m = 1 → role x = 3 → position m < position x)) ∧
    (passesAt 1 → passesAt 2 → (passesAt 4 ↔ (∀ m ∈ used, position m < decision) ∧ decision < pockets)) ∧
    (passesAt 5 ↔ 1 ≤ gates ∧ gates ≤ 32) ∧
    (passesAt 6 ↔ ∀ i < gates, (if i = 0 then decision else gate (i - 1)) < gate i) ∧
    (passesAt 5 → (passesAt 7 ↔ gate (gates - 1) < clear ∧ clear < pockets)) ∧
    (passesAt 8 ↔ fieldAt b 0x05 1 % 64 ≠ 0) ∧
    (passesAt 9 ↔ fieldAt b 0x06 1 % 64 ≠ 0) ∧
    (passesAt 10 ↔ fieldAt b 0x07 1 % 64 ≠ 0) ∧
    (passesAt 11 ↔ fieldAt b 0x11 1 % 64 ≠ 0) ∧
    (∀ m ∈ used,
      (passes .referenceOrder (some m) ↔ due m ≤ force m ∧ force m < limit m) ∧
        (force m < limit m → (passes .referenceMargin (some m) ↔ position m + force m ≤ limit m)) ∧
        (passes .driftLimit (some m) ↔ drift m ≠ 0)) ∧
    (passes .ejectPulse none ↔ fieldAt b 0x12 1 % 64 ≠ 0) ∧
    (passes .capacity none ↔ fieldAt b 0x14 2 ≠ 0) ∧
    (passes .missLimit none ↔ 1 ≤ fieldAt b 0x13 1 ∧ fieldAt b 0x13 1 ≤ 15) ∧
    (passes .journalSize none ↔ ∃ i ≤ 8, size = 4096 * 2 ^ i) ∧
    (passes .journalPlace none ↔ base % size = 0 ∧ base ≠ 0 ∧ base + size ≤ 0x200000) ∧
    (passes .thinningLevels none ↔ 1 ≤ t3 ∧ t3 < t2 ∧ t2 < t1 ∧ t1 ≤ size) ∧
    (passes .backlog none ↔ 8 ≤ backlog ∧ backlog + 8 ≤ size) ∧
    (passes .requestArea none ↔
      area % 512 = 0 ∧ 0x1000 ≤ area ∧ area + 512 ≤ 0x200000 ∧ (area + 512 ≤ base ∨ base + size ≤ area))

/-! ## Requests of the Lot Sequencer -/

/-- START LOT: the tests of the engine, of a close completion and of the arguments, each refusing it alone; else the
request is executed: with no context every used channel enters SETUP with the nominal, its outstanding work faulted
as at a failure; with one its 48 bytes are requested in class BULK. That the FLT levels come with the command (log 30),
that a setup that fails at once with FLT high ends any transfer on its link and that the take timer stops on entering
SETUP (log 17), the order of the records of one channel (log 16) and the channels' order (log 49) are the model's
choice. -/
def Obligations.StartLotIsTestedThenBegins : Prop :=
  ∀ (flt : Four Bool) (s : State), s.part.executes 1 →
    let a := s.part.arg
    let n : Nominal := { mantissa := a 8 4, exponent := a 17 1, current := a 18 1 }
    let bad : Prop := a 4 4 = 0 ∨ n.mantissa = 0 ∨ 7 < n.exponent ∨ 15 < n.current ∨
      (∀ x, slotOfCode (a 16 1) = some x → (s.part.ps.slot x).state ≠ .staged) ∨
      (a 12 4 ≠ 0xFFFFFFFF ∧ (a 12 4 % 8 ≠ 0 ∨ 0x1FFFD0 < a 12 4))
    ∃ t, exec (.startLot flt) s = .next t ∧ State.sameOutside s t ∧
      (s.part.lsq.engine ≠ .idle → Part.endedAlone s.part t.part { code := .refusedState }) ∧
      (s.part.lsq.engine = .idle → s.part.lsq.completion ≠ none →
        Part.endedAlone s.part t.part { code := .busy }) ∧
      (s.part.lsq.engine = .idle → s.part.lsq.completion = none → bad →
        Part.endedAlone s.part t.part { code := .refusedArgument }) ∧
      (s.part.lsq.engine = .idle → s.part.lsq.completion = none → ¬ bad → ∀ x, slotOfCode (a 16 1) = some x →
        t.part.rqx.current = s.part.rqx.current.map (fun c => { c with executing := true }) ∧
        { t.part.lsq with startLot := s.part.lsq.startLot } = s.part.lsq ∧
        (a 12 4 = 0xFFFFFFFF →
          Part.setupsBegun s.part t.part n flt ∧
          Part.keepsBut [.dial, .loading, .meters, .references, .lots, .requests, .journal, .timers] s.part t.part ∧
          ∃ o : Four (Option ChannelCause),
            (∀ m, o.get m = if s.part.usedMeter m && flt.get m then some .flt else none) ∧
            t.part.lsq.startLot =
              some { lot := a 4 4, nominal := n, slot := x, context := none, phase := .setups none o }) ∧
        (a 12 4 ≠ 0xFFFFFFFF →
          Part.keepsBut [.lots, .requests, .queues] s.part t.part ∧
          t.part.lsq.startLot =
            some { lot := a 4 4, nominal := n, slot := x, context := some (a 12 4), phase := .context [] } ∧
          ({ s.part.sa with bulk := s.part.sa.bulk ++ readRequests (a 12 4) 48 .context } : Sa).follows t.part.sa))

/-- CONTEXT_READ_DONE: with another lot's number the request ends with CONTEXT INVALID and the number found; else its
next sequence number and counters are kept aside and the setups begin. START_LOT_SETUPS_DONE: with every PRIMARY and
SECOND channel set up the lot opens, into RUN or, with a hold cause present, into HOLD; otherwise the request ends
with METER FAILED. The result word carries the outcomes. That the FLT levels come with the command (log 30), that a
setup that fails at once with FLT high ends any transfer on its link and that the take timer stops on entering SETUP
(log 17), the order of the records of one channel (log 16) and the channels' order (log 49), and that a catch pulse
still running completes nothing after the opening (log 21), are the model's choice. -/
def Obligations.TheLotOpensWhenItsSetupsPass : Prop :=
  (∀ (flt : Four Bool) (s : State) (w : StartLotWork) (d : List Byte),
    s.part.lsq.startLot = some w → w.phase = .context d → d.length = 48 →
    ∃ t, exec (.contextReadDone flt) s = .next t ∧ State.sameOutside s t ∧
      (fieldAt d 0 4 ≠ w.lot →
        Part.ended s.part t.part { code := .contextInvalid, word := fieldAt d 0 4 } ∧
          Part.keepsBut [.lots, .requests, .queues] s.part t.part ∧
          t.part.lsq = { s.part.lsq with startLot := none }) ∧
      (fieldAt d 0 4 = w.lot →
        Part.setupsBegun s.part t.part w.nominal flt ∧
          Part.keepsBut [.dial, .loading, .meters, .references, .lots, .journal, .timers] s.part t.part ∧
          ∃ o : Four (Option ChannelCause),
            (∀ m, o.get m = if s.part.usedMeter m && flt.get m then some .flt else none) ∧
            t.part.lsq.startLot =
              some { w with phase := .setups (some (fieldAt d 4 4, Context.counters d)) o })) ∧
  (∀ (s : State) (w : StartLotWork) (resumed : Option (Nat × LotCounters)) (o : Four (Option ChannelCause)),
    s.part.lsq.startLot = some w → w.phase = .setups resumed o →
    (∀ m, s.part.usedMeter m = true → o.get m ≠ none) →
    let passed : Prop := ∀ m, ((s.part.channel m).role = .primary ∨ (s.part.channel m).role = .second) →
      o.get m = some .online
    ∃ t, exec .startLotSetupsDone s = .next t ∧ State.sameOutside s t ∧
      (¬ passed →
        Part.ended s.part t.part { code := .meterFailed, word := setupWord o } ∧
          Part.keepsBut [.lots, .requests, .queues] s.part t.part ∧
          t.part.lsq = { s.part.lsq with startLot := none }) ∧
      (passed →
        Part.ended s.part t.part { code := .ok, word := setupWord o } ∧
          Part.keepsBut [.loading, .plans, .lots, .requests, .journal, .queues, .timers] s.part t.part ∧
          t.part.lsq.lot = some { number := w.lot, context := w.context } ∧ t.part.lsq.lotMode = .run ∧
          t.part.lsq.startLot = none ∧ t.part.ps = { s.part.ps with loadSlot := some w.slot } ∧
          t.part.lcu =
            { s.part.lcu with
              nextSequence := (resumed.map Prod.fst).getD 1
              thinning := 7
              feed := .idle
              clearJet := s.part.lcu.clearJet.orphan
              counters := (resumed.map Prod.snd).getD LotCounters.zero } ∧
          t.part.lsq.holds =
            { requested := s.part.lsq.holds.requested
              door := s.part.lsq.holds.door || s.part.lct.lines.door.stable
              air := s.part.lsq.holds.air || s.part.lct.lines.air.stable
              meter := s.part.lsq.holds.meter || s.part.meterCondition } ∧
          Part.entered s.part t.part (if t.part.lsq.holds = HoldCauses.none then .run else .hold) ∧
          t.part.records
            (.lotOpen w.lot t.part.lcu.nextSequence (t.part.ps.idOf (some w.slot)) w.slot resumed.isSome)))

/-- END LOT: refused outside RUN, DRAIN and HOLD, and while a request is parked; else it is parked, its slot staying
TAKEN, the lot mode becomes DRAIN, and from RUN the engine enters DRAIN. -/
def Obligations.EndLotParksAndDrains : Prop :=
  ∀ s : State, s.part.executes 2 →
    let e := s.part.lsq.engine
    let taken : Prop := e = .run ∨ e = .drain ∨ e = .hold
    ∃ t, exec .endLot s = .next t ∧ State.sameOutside s t ∧
      (¬ taken → Part.endedAlone s.part t.part { code := .refusedState }) ∧
      (taken → s.part.lsq.parked ≠ none → Part.endedAlone s.part t.part { code := .busy }) ∧
      (taken → s.part.lsq.parked = none →
        Part.keepsBut [.lots, .requests, .timers] s.part t.part ∧
        t.part.rqx.base = s.part.rqx.base ∧ t.part.rqx.current = none ∧
        t.part.rqx.parkedRef = s.part.rqx.current.map (fun c => { address := c.address, notify := c.notify }) ∧
        t.part.lsq =
          { s.part.lsq with
            parked := some { kind := .endLot, routed := 0 }
            lotMode := .drain
            engine := if e = .run then .drain else e
            portLatch := if e = .run then s.part.lsq.latchOn .drain else s.part.lsq.portLatch } ∧
        t.part.lct.timers =
          { s.part.lct.timers with
            jam := t.part.lct.timers.jam
            starvation := if e = .run then .stopped else s.part.lct.timers.starvation })

/-- ABORT LOT: refused outside RUN, DRAIN, HOLD and HALT, and while an ABORT LOT is parked; else a parked END LOT ends
with SUPERSEDED, the request is parked, every CARRY pocket and every pocket ROUTED to a gate is routed to CATCH with
reason ABORTED and its bin's pending count released, the feed is withdrawn with its LOAD item complete, and the lot
drains; the rest of the dial and of the Load and Clear Unit is as it was. A LOAD item that waited on the feed then works
its own pocket. When it does so is the model's choice (log 33). -/
def Obligations.AbortLotRoutesEveryPartToCatch : Prop :=
  ∀ s : State, s.part.executes 3 →
    let e := s.part.lsq.engine
    ∃ t, exec .abortLot s = .next t ∧ State.sameOutside s t ∧
      (e.inLot = false → Part.endedAlone s.part t.part { code := .refusedState }) ∧
      (e.inLot = true → s.part.lsq.parked.map Parked.kind = some .abortLot →
        Part.endedAlone s.part t.part { code := .busy }) ∧
      (e.inLot = true → s.part.lsq.parked.map Parked.kind ≠ some .abortLot →
        let count := (s.part.dt.pockets.filter Pocket.catchable).length
        let aborted (q : Part) : Prop :=
          q.dt.offset = s.part.dt.offset ∧ q.dt.dwell = s.part.dt.dwell ∧
          Part.releases s.part q s.part.dt.pockets ∧ q.lcu.feed = .idle ∧
          q.rqx.current = none ∧ q.rqx.base = s.part.rqx.base ∧
          q.rqx.parkedRef = s.part.rqx.current.map (fun c => { address := c.address, notify := c.notify }) ∧
          Part.filed s.part q
            (s.part.rqx.parkedRef.toList.flatMap
              (fun r => Result.writes { code := .superseded } r.address r.notify .plain)) ∧
          q.lsq =
            { s.part.lsq with
              parked := some { kind := .abortLot, routed := count }
              lotMode := .drain
              engine := if e = .run then .drain else e
              portLatch := if e = .run then s.part.lsq.latchOn .drain else s.part.lsq.portLatch } ∧
          q.lct.timers =
            { s.part.lct.timers with
              jam := q.lct.timers.jam
              feed := if s.part.lcu.feed = .idle then s.part.lct.timers.feed else .stopped
              starvation := if e = .run then .stopped else s.part.lct.timers.starvation } ∧
          Part.handed s.part q [.event (.lotAborted s.part.lotNumber count s.part.dt.offset)]
        let items : List Item :=
          match s.part.lcu.feed with
          | .idle => s.part.dt.items
          | .feeding _ d =>
            if d = s.part.dt.dwell then s.part.dt.items.map (Item.complete .load) else s.part.dt.items
        let changed : List Region := [.dial, .loading, .bins, .lots, .requests, .journal, .queues, .timers]
        Part.keepsBut changed s.part t.part ∧ aborted t.part ∧
        (∀ k, s.part.waitingLoad ≠ some k → t.part.pocket k = (s.part.pocket k).toCatch .aborted) ∧
        ∃ w : Part, aborted w ∧ Part.keepsBut (.own :: changed) s.part w ∧ w.draws = s.part.draws ∧
          w.dt = { s.part.dt with pockets := s.part.dt.pockets.map (fun k => k.toCatch .aborted), items } ∧
          w.lcu = { s.part.lcu with feed := .idle } ∧
          (w.waitingLoad = none → t.part = Part.commit s.part w) ∧
          ∀ k, w.waitingLoad = some k →
            t.part = Part.commit s.part (w.startItem { kind := .load, pocket := k, state := .started }))

/-- LOT_CLOSE, where the engine is in DRAIN, no pocket is in CARRY, ROUTED, SPENT or STRAY, and the staging queue is
empty: the engine enters IDLE, PERMIT falls, the feed and the reservations are withdrawn, the plan slots are left, the
LOT CLOSE record is handed on and the lot's context written. The close completion ends once that record is published
and those writes are granted: the parked request then ends with OK. The result carries the numbers whole.
That the bytes between one field and the next hold the upper bytes of a number is the model's reading (log 45). -/
def Obligations.LotCloseAndItsCompletion : Prop :=
  (∀ s : State, s.part.lsq.engine = .drain → (∀ k ∈ s.part.dt.pockets, k.holdsLotOpen = false) →
    s.part.jw.queue = [] →
    let c : LotContext :=
      { lot := (s.part.lsq.lot.map Lot.number).getD 0, nextSequence := s.part.lcu.nextSequence,
        counters := s.part.lcu.counters, ended := (s.part.lsq.parked.map Parked.kind).getD .endLot }
    let writes := ((s.part.lsq.lot.bind Lot.context).map
      (fun a => writeRequests (cellsAt a c.bytes) .context)).getD []
    let rejoins (m : Meter) : Bool := s.part.dt.pockets.any (fun k => k.reservedFor m)
    ∃ t, exec .lotClose s = .next t ∧ State.sameOutside s t ∧
      Part.keepsBut [.dial, .loading, .references, .plans, .lots, .journal, .queues, .timers] s.part t.part ∧
      t.part.dt.pockets = List.replicate s.part.dt.pockets.length .vacant ∧ t.part.dt.permit = false ∧
      t.part.dt.offset = s.part.dt.offset ∧ t.part.dt.dwell = s.part.dt.dwell ∧
      t.part.lcu = { s.part.lcu with feed := .idle, pendingSet := t.part.lcu.pendingSet } ∧
      (∀ m, t.part.lcu.pendingSet.get m = (s.part.lcu.pendingSet.get m || rejoins m)) ∧
      (∀ m, t.part.rsc.get m =
        { s.part.rsc.get m with
          cover :=
            if rejoins m = true ∧ (s.part.rsc.get m).cover = .placed then .pending else (s.part.rsc.get m).cover }) ∧
      t.part.ps = { s.part.ps with loadSlot := none, pendingSwitch := none } ∧
      t.part.lsq =
        { s.part.lsq with
          engine := .idle
          lotMode := .none
          lot := none
          completion := some { snapshot := c, published := false, writesLeft := writes.length } } ∧
      ({ s.part.sa with bulk := s.part.sa.bulk ++ writes } : Sa).follows t.part.sa ∧
      t.part.lct.timers =
        { s.part.lct.timers with
          jam := t.part.lct.timers.jam
          feed := if s.part.lcu.feed = .idle then s.part.lct.timers.feed else .stopped } ∧
      Part.handed s.part t.part
        (s.part.ps.pendingSwitch.toList.map
            (fun w => .event (.switchWithdrawn w.slot w.sequence s.part.lcu.nextSequence)) ++ [.lotClose c])) ∧
  (∀ (s : State) (k : CloseCompletion), s.part.lsq.completion = some k → k.published = true → k.writesLeft = 0 →
    ∃ t, exec .closeCompletionEnd s = .next t ∧ State.sameOutside s t ∧
      Part.keepsBut [.lots, .requests, .queues] s.part t.part ∧
      t.part.lsq = { s.part.lsq with completion := none, parked := none } ∧
      t.part.rqx.current = s.part.rqx.current ∧ t.part.sa.journal = s.part.sa.journal ∧
      t.part.sa.bulk = s.part.sa.bulk ∧
      (∀ r q, s.part.lsq.parked = some r → s.part.rqx.parkedRef = some q →
        let c := k.snapshot
        let word : Nat := match r.kind with | .endLot => c.lot | .abortLot => r.routed
        let fields : List Nat :=
          match r.kind with
          | .endLot => [c.nextSequence, c.counters.loaded]
          | .abortLot => [c.counters.ejected, c.counters.caught, c.counters.missed, c.counters.lost]
        t.part.rqx.parkedRef = none ∧
          Part.filed s.part t.part
            (Result.writes { code := .ok, word, extension := some (fields.flatMap (leBytes 4)) } q.address q.notify
              .plain)) ∧
      (s.part.lsq.parked = none ∨ s.part.rqx.parkedRef = none → Part.filed s.part t.part []))

/-- HOLD: in RUN, DRAIN, HOLD and HALT it adds REQUESTED to the hold-cause set and ends with OK; from RUN and DRAIN the
engine enters HOLD, and in HALT it stays, with the cause in the set. In UNCONFIGURED and IDLE it is refused. -/
def Obligations.HoldAddsRequested : Prop :=
  ∀ s : State, s.part.executes 7 →
    let e := s.part.lsq.engine
    ∃ t, exec .hold s = .next t ∧ State.sameOutside s t ∧
      (e = .unconfigured ∨ e = .idle → Part.endedAlone s.part t.part { code := .refusedState }) ∧
      (e = .run ∨ e = .drain ∨ e = .hold ∨ e = .halt →
        let causes := { s.part.lsq.holds with requested := true }
        let after : EngineState := if e = .run ∨ e = .drain then .hold else e
        Part.ended s.part t.part { code := .ok } ∧
        Part.keepsBut [.lots, .requests, .journal, .queues, .timers] s.part t.part ∧
        t.part.lsq =
          { s.part.lsq with
            holds := causes
            engine := after
            portLatch := if after = e then s.part.lsq.portLatch else s.part.lsq.latchOn .hold } ∧
        t.part.lct.timers =
          { s.part.lct.timers with
            jam := t.part.lct.timers.jam
            starvation := if e = .run then .stopped else s.part.lct.timers.starvation } ∧
        Part.handed s.part t.part
          ((if s.part.lsq.holds.requested then [] else [.event (.holdCause .requested e s.part.dt.offset)]) ++
            (if after = e then [] else [.event (.holdEntered causes s.part.lsq.lotMode s.part.dt.offset)])))

/-- RESUME: refused outside HOLD; in HOLD every cause whose condition is absent leaves the set, REQUESTED always. With
a cause left the engine stays in HOLD and the result is PARTIAL with the causes left; with none it enters the state
the lot mode names, with the port latch and the starvation timer as that entry has them, the DEFERRED items of the
dwell start in item order, and the result is OK. The resume EVENT is handed on in both. The order of the items (log
12), that the resume EVENT stands behind their records (log 15), and that the hold set's change and the entry are two
changes of the status block (log 11) are the model's choice. -/
def Obligations.ResumeRemovesTheAbsentCauses : Prop :=
  ∀ s : State, s.part.executes 8 →
    let h := s.part.lsq.holds
    let left : HoldCauses :=
      { requested := false, door := h.door && s.part.lct.lines.door.stable,
        air := h.air && s.part.lct.lines.air.stable, meter := h.meter && s.part.meterCondition }
    let gone : HoldCauses :=
      { requested := h.requested, door := h.door && !left.door, air := h.air && !left.air,
        meter := h.meter && !left.meter }
    ∃ t, exec .resume s = .next t ∧ State.sameOutside s t ∧
      (s.part.lsq.engine ≠ .hold → Part.endedAlone s.part t.part { code := .refusedState }) ∧
      (s.part.lsq.engine = .hold → left ≠ HoldCauses.none →
        Part.ended s.part t.part { code := .partialHold, word := left.code } ∧
          Part.keepsBut [.lots, .requests, .journal, .queues] s.part t.part ∧
          t.part.lsq = { s.part.lsq with holds := left } ∧
          Part.handed s.part t.part [.event (.resumed gone left s.part.dt.offset)]) ∧
      (s.part.lsq.engine = .hold → left = HoldCauses.none → ∀ e : EngineState,
        (e = .run ∧ s.part.lsq.lotMode = .run) ∨ (e = .drain ∧ s.part.lsq.lotMode = .drain) →
        Part.ended s.part t.part { code := .ok } ∧
          t.part.lsq =
            { s.part.lsq with holds := HoldCauses.none, engine := e, portLatch := s.part.lsq.latchOn e } ∧
          (∀ i ∈ t.part.dt.items, i.state ≠ .deferred) ∧
          t.part.dt.items.map (fun i => (i.kind, i.pocket)) = s.part.dt.items.map (fun i => (i.kind, i.pocket)) ∧
          t.part.dt.offset = s.part.dt.offset ∧ t.part.dt.dwell = s.part.dt.dwell ∧
          t.part.records (.event (.resumed gone left s.part.dt.offset)) ∧
          Part.keeps [.configuration, .lines] s.part t.part ∧
          (let entered : Part := (s.part.setLsq { s.part.lsq with holds := HoldCauses.none }).enterEngine e
           let items := s.part.dt.items.map (fun i => if i.state = .deferred then { i with state := .started } else i)
           let started : Part :=
            (s.part.dt.items.filter (fun i => i.state == .deferred)).foldl Part.startItem
              { entered with dt := { entered.dt with items } }
           Part.entered s.part entered e ∧ entered.lsq = t.part.lsq ∧
            entered.lct =
              { s.part.lct with timers := { s.part.lct.timers with starvation := s.part.starvationOn e } } ∧
            { entered with lsq := s.part.lsq, lct := s.part.lct, changed := s.part.changed } = s.part ∧
            t.part =
              Part.commit s.part
                ((started.event (.resumed gone left s.part.dt.offset)).endRequest { code := .ok })) ∧
          ((∀ i ∈ s.part.dt.items, i.state ≠ .deferred) →
            Part.keepsBut [.lots, .requests, .journal, .queues, .timers] s.part t.part ∧
              Part.entered s.part t.part e ∧
              Part.handed s.part t.part [.event (.resumed gone left s.part.dt.offset)]))

/-- CLEAR HALT: refused outside HALT; in HALT, with the purge flag, every CARRY pocket and every pocket ROUTED to a gate
is routed to CATCH with reason PURGED and its bin's pending count released; the halt cause becomes none, REQUESTED joins
the set, the engine enters HOLD, and the result carries the number of pockets purged. -/
def Obligations.ClearHaltEntersHold : Prop :=
  ∀ s : State, s.part.executes 9 →
    let purge : Bool := s.part.arg 4 1 % 2 == 1
    let count := if purge then (s.part.dt.pockets.filter Pocket.catchable).length else 0
    ∃ t, exec .clearHalt s = .next t ∧ State.sameOutside s t ∧
      (s.part.lsq.engine ≠ .halt → Part.endedAlone s.part t.part { code := .refusedState }) ∧
      (s.part.lsq.engine = .halt →
        Part.ended s.part t.part { code := .ok, word := count } ∧
        Part.keepsBut [.dial, .bins, .lots, .requests, .journal, .queues] s.part t.part ∧
        { t.part.dt with pockets := s.part.dt.pockets, permit := s.part.dt.permit,
                         indexExpected := s.part.dt.indexExpected } = s.part.dt ∧
        t.part.dt.pockets =
          (if purge then s.part.dt.pockets.map (fun k => k.toCatch .purged) else s.part.dt.pockets) ∧
        Part.releases s.part t.part (if purge then s.part.dt.pockets else []) ∧
        t.part.lsq =
          { s.part.lsq with
            haltCause := .none
            holds := { s.part.lsq.holds with requested := true }
            engine := .hold
            portLatch := s.part.lsq.latchOn .hold } ∧
        Part.handed s.part t.part
          ((if s.part.lsq.holds.requested then [] else [.event (.holdCause .requested .halt s.part.dt.offset)]) ++
            [.event (.haltCleared purge count s.part.dt.offset)]))

/-! ## Requests of the other blocks -/

/-- STAGE PLAN: tested in order; a failing test refuses it alone, IN USE with the tests that fail and the slot's
count; else the slot enters LOADING without its plan and the 32 bytes of the header are requested in class BULK. The
order of the three bits of the IN USE word is the model's reading (log 24). -/
def Obligations.StagePlanLoadsTheSlot : Prop :=
  ∀ s : State, s.part.executes 4 →
    let a := s.part.arg 8 4
    let bad : Prop := slotOfCode (s.part.arg 4 1) = none ∨ a % 8 ≠ 0 ∨ 0x1FFFE0 < a
    ∃ t, exec .stagePlan s = .next t ∧ State.sameOutside s t ∧
      (s.part.lsq.engine = .unconfigured → Part.endedAlone s.part t.part { code := .refusedState }) ∧
      (s.part.lsq.engine ≠ .unconfigured → bad → Part.endedAlone s.part t.part { code := .refusedArgument }) ∧
      (s.part.lsq.engine ≠ .unconfigured → ¬ bad → ∀ x, slotOfCode (s.part.arg 4 1) = some x →
        let load : Bool := s.part.ps.loadSlot == some x
        let target : Bool := s.part.ps.pendingSwitch.map PendingSwitch.slot == some x
        let refs := (s.part.ps.slot x).refs
        (load = true ∨ target = true ∨ refs ≠ 0 →
          Part.endedAlone s.part t.part
            { code := .inUse
              word := load.toNat + 2 * target.toNat + (if refs = 0 then 0 else 4) + 256 * (refs % 256) }) ∧
        (load = false → target = false → refs = 0 →
          Part.keepsBut [.plans, .requests, .queues] s.part t.part ∧
          t.part.rqx.current = s.part.rqx.current.map (fun c => { c with executing := true }) ∧
          t.part.ps.slot x = { state := .loading, plan := none, refs := 0 } ∧
          (∀ y, y ≠ x → t.part.ps.slot y = s.part.ps.slot y) ∧ t.part.ps.loadSlot = s.part.ps.loadSlot ∧
          t.part.ps.pendingSwitch = s.part.ps.pendingSwitch ∧
          t.part.ps.staging = some { slot := x, address := a, data := [] } ∧
          ({ s.part.sa with bulk := s.part.sa.bulk ++ readRequests a 32 .plan } : Sa).follows t.part.sa))

/-- PLAN_STAGING_END, with every read of the staging granted (the header, and its rows where the row count and the
extent allow): an image that passes every check becomes the slot's plan and the result is OK with the plan id;
otherwise the slot is EMPTY and the result is PLAN INVALID with the location and the code. The plan staged EVENT is
handed on in both. An image passes exactly where its row count, its extent, a geometry held, its special bins, its
spread limit and each row pass; the location and the code are those of the first check that fails, in the order of
R80. -/
def Obligations.StagingEndsWithTheChecks : Prop :=
  (∀ (s : State) (w : Staging), s.part.ps.staging = some w →
    (let n := fieldAt w.data 4 1
     w.data.length = if 1 ≤ n ∧ n ≤ 48 ∧ w.address + 32 + 16 * n ≤ 0x200000 then 32 + 16 * n else 32) →
    let id := fieldAt w.data 0 4
    let rows := fieldAt w.data 4 1
    ∃ t, exec .planStagingEnd s = .next t ∧ State.sameOutside s t ∧
      Part.keepsBut [.plans, .requests, .journal, .queues] s.part t.part ∧
      (∀ y, y ≠ w.slot → t.part.ps.slot y = s.part.ps.slot y) ∧ t.part.ps.loadSlot = s.part.ps.loadSlot ∧
      t.part.ps.pendingSwitch = s.part.ps.pendingSwitch ∧ t.part.ps.staging = none ∧
      (t.part.ps.slot w.slot).refs = (s.part.ps.slot w.slot).refs ∧
      (imageFailure s.part.dt.geometry w.address w.data = none →
        (t.part.ps.slot w.slot).state = .staged ∧ (t.part.ps.slot w.slot).plan = some (Image.plan w.data) ∧
          Part.ended s.part t.part { code := .ok, word := id } ∧
          Part.handed s.part t.part [.event (.planStaged w.slot .ok id rows 0 0)]) ∧
      (∀ location code, imageFailure s.part.dt.geometry w.address w.data = some (location, code) →
        (t.part.ps.slot w.slot).state = .empty ∧ (t.part.ps.slot w.slot).plan = none ∧
          Part.ended s.part t.part { code := .planInvalid, word := location + 256 * code } ∧
          Part.handed s.part t.part [.event (.planStaged w.slot .planInvalid id rows location code)])) ∧
  (∀ (geometry : Option Geometry) (a : Nat) (b : List Byte),
    let failure := imageFailure geometry a b
    let rows := fieldAt b 4 1
    let bin (n : Nat) : Prop := n < (geometry.map (fun g => g.gates.length)).getD 0
    let special (n : Nat) : Prop := n = 255 ∨ bin n
    let countOk : Prop := 1 ≤ rows ∧ rows ≤ 48
    let extentOk : Prop := a + 32 + 16 * rows ≤ 0x200000
    let specialOk : Prop :=
      special (fieldAt b 5 1) ∧ special (fieldAt b 6 1) ∧ special (fieldAt b 7 1) ∧ special (fieldAt b 8 1)
    let spreadOk : Prop := fieldAt b 9 1 % 2 = 1 → 1 ≤ fieldAt b 12 4 ∧ fieldAt b 12 4 ≤ 9999999
    let headerOk : Prop := countOk ∧ extentOk ∧ geometry ≠ none ∧ specialOk ∧ spreadOk
    let range (r : Nat) : Prop :=
      (signedAt b (32 + 16 * r)).natAbs ≤ 9999999 ∧ (signedAt b (36 + 16 * r)).natAbs ≤ 9999999
    let order (r : Nat) : Prop := signedAt b (32 + 16 * r) ≤ signedAt b (36 + 16 * r)
    let target (r : Nat) : Nat := fieldAt b (40 + 16 * r) 1
    let count (r : Nat) : Nat := fieldAt b (41 + 16 * r) 1
    let alternate (r i : Nat) : Nat := fieldAt b (42 + i + 16 * r) 1
    let alternatesOk (r : Nat) : Prop := ∀ i, i < count r → bin (alternate r i)
    let distinct (r : Nat) : Prop :=
      (∀ i, i < count r → alternate r i ≠ target r) ∧ (count r = 2 → alternate r 0 ≠ alternate r 1)
    let rowOk (r : Nat) : Prop :=
      range r ∧ order r ∧ bin (target r) ∧ count r ≤ 2 ∧ alternatesOk r ∧ distinct r
    (failure = none ↔ headerOk ∧ ∀ r, r < rows → rowOk r) ∧
      (¬ countOk → failure = some (255, 1)) ∧
      (countOk → ¬ extentOk → failure = some (255, 2)) ∧
      (countOk → extentOk → geometry = none → failure = some (255, 3)) ∧
      (countOk → extentOk → geometry ≠ none → ¬ specialOk → failure = some (255, 4)) ∧
      (countOk → extentOk → geometry ≠ none → specialOk → ¬ spreadOk → failure = some (255, 5)) ∧
      (headerOk → ∀ r, r < rows → (∀ x, x < r → rowOk x) →
        (¬ range r → failure = some (r, 6)) ∧
          (range r → ¬ order r → failure = some (r, 7)) ∧
          (range r → order r → ¬ bin (target r) → failure = some (r, 8)) ∧
          (range r → order r → bin (target r) → 2 < count r → failure = some (r, 9)) ∧
          (range r → order r → bin (target r) → count r ≤ 2 → ¬ alternatesOk r → failure = some (r, 10)) ∧
          (range r → order r → bin (target r) → count r ≤ 2 → alternatesOk r → ¬ distinct r →
            failure = some (r, 11)))) ∧
  (∀ (g : Geometry) (a : Nat) (b : List Byte), imageFailure (some g) a b = none →
    let bin (n : Nat) : Prop := n < g.gates.length
    let special (n : Nat) : Prop := n = 255 ∨ bin n
    1 ≤ fieldAt b 4 1 ∧ fieldAt b 4 1 ≤ 48 ∧ a + 32 + 16 * fieldAt b 4 1 ≤ 0x200000 ∧ special (fieldAt b 5 1) ∧
      special (fieldAt b 6 1) ∧ special (fieldAt b 7 1) ∧ special (fieldAt b 8 1) ∧
      (fieldAt b 9 1 % 2 = 1 → 1 ≤ fieldAt b 12 4 ∧ fieldAt b 12 4 ≤ 9999999) ∧
      ∀ r, r < fieldAt b 4 1 →
        let row := Image.row b r
        row.low.natAbs ≤ 9999999 ∧ row.high.natAbs ≤ 9999999 ∧ row.low ≤ row.high ∧ bin row.target ∧
          row.alternates.length ≤ 2 ∧ (∀ n ∈ row.alternates, bin n ∧ n ≠ row.target) ∧ row.alternates.Nodup) ∧
  (∀ (a : Nat) (b : List Byte), imageFailure none a b ≠ none)

/-- SWITCH PLAN: refused in UNCONFIGURED and IDLE, for a slot or a sequence number of none, and for a slot that is not
STAGED; else a pending switch to the load slot's other is set, one to the load slot withdrawn, and the result carries
the switch replaced or withdrawn. That the three bytes behind the extension's field hold the upper
bytes of the sequence number (log 45), and that a refusal carries the word and the extension too (log 24), are the
model's reading. -/
def Obligations.SwitchPlanSetsThePendingSwitch : Prop :=
  ∀ s : State, s.part.executes 5 →
    let a := s.part.arg
    let e := s.part.lsq.engine
    let bad : Prop := slotOfCode (a 4 1) = none ∨ a 8 4 = 0
    let refused (code : ResultCode) : Result := { code, word := 0, extension := some [0, 0, 0, 0] }
    let before := s.part.ps.pendingSwitch
    let sequence : Nat := (before.map PendingSwitch.sequence).getD 0
    ∃ t, exec .switchPlan s = .next t ∧ State.sameOutside s t ∧
      (e = .unconfigured ∨ e = .idle → Part.endedAlone s.part t.part (refused .refusedState)) ∧
      (e ≠ .unconfigured → e ≠ .idle → bad → Part.endedAlone s.part t.part (refused .refusedArgument)) ∧
      (e ≠ .unconfigured → e ≠ .idle → ¬ bad → ∀ x, slotOfCode (a 4 1) = some x →
        ((s.part.ps.slot x).state ≠ .staged → Part.endedAlone s.part t.part (refused .refusedState)) ∧
        ((s.part.ps.slot x).state = .staged →
          Part.ended s.part t.part
            { code := .ok
              word := (before.map (fun x => match x.slot with | .a => 1 | .b => 2)).getD 0
              extension := some (leBytes 4 sequence) } ∧
          Part.keepsBut [.plans, .requests, .queues] s.part t.part ∧
          t.part.ps =
            { s.part.ps with
              pendingSwitch := if s.part.ps.loadSlot = some x then none else some { slot := x, sequence := a 8 4 } }))

/-- BIN CONTROL with action CLOSE (0), OPEN (1) or CAPACITY (2): refused in UNCONFIGURED and for a bin at or above the
gate count; else the bin follows the action, and the result carries the bin as it then stands. A capacity of 0 is
refused, one below the fired and pending parts is IN USE. An action above 2 is refused (by any of the three rows, log
23). -/
def Obligations.BinControlChangesTheBin : Prop :=
  ∀ (s : State) (i : Instr) (action : Nat),
    (i, action) ∈ [(Instr.binControlClose, 0), (.binControlOpen, 1), (.binControlCapacity, 2)] →
    s.part.executes 6 → s.part.arg 5 1 = action ∨ 2 < s.part.arg 5 1 → s.tablesOk →
    let n := s.part.arg 4 1
    let v := s.part.arg 6 2
    let b := s.part.bin n
    let ok : Prop := s.part.lsq.engine ≠ .unconfigured ∧ n < s.part.gateCount
    let result (code : ResultCode) (x : BinEntry) : Result :=
      { code, word := x.fired + 65536 * x.pending,
        extension := some (byte x.availability.code ++ byte 0 ++ leBytes 2 x.capacity) }
    let becomes (t : State) (x : BinEntry) : Prop :=
      Part.ended s.part t.part (result .ok x) ∧ Part.keepsBut [.bins, .requests, .queues] s.part t.part ∧
        t.part.bin n = x ∧ (∀ m, m ≠ n → t.part.bin m = s.part.bin m) ∧
        t.part.gbt.pulses = s.part.gbt.pulses ∧ t.part.gbt.items = s.part.gbt.items
    ∃ t, exec i s = .next t ∧ State.sameOutside s t ∧
      (s.part.lsq.engine = .unconfigured →
        Part.endedAlone s.part t.part { code := .refusedState, extension := some [] }) ∧
      (s.part.lsq.engine ≠ .unconfigured → s.part.gateCount ≤ n →
        Part.endedAlone s.part t.part { code := .refusedArgument, extension := some [] }) ∧
      (ok → 2 < s.part.arg 5 1 → Part.endedAlone s.part t.part (result .refusedArgument b)) ∧
      (ok → s.part.arg 5 1 = 0 → becomes t { b with closed := .host }) ∧
      (ok → s.part.arg 5 1 = 1 → becomes t { b with closed := .none, misses := 0 }) ∧
      (ok → s.part.arg 5 1 = 2 → v = 0 → Part.endedAlone s.part t.part (result .refusedArgument b)) ∧
      (ok → s.part.arg 5 1 = 2 → v ≠ 0 → v < b.fired + b.pending →
        Part.endedAlone s.part t.part (result .inUse b)) ∧
      (ok → s.part.arg 5 1 = 2 → v ≠ 0 → b.fired + b.pending ≤ v →
        becomes t
          { b with
            capacity := v
            full := if b.full = .sensor then .sensor else if b.fired = v then .count else .clear })

/-- METER RESTART: refused in UNCONFIGURED, for a channel above 3 or UNUSED, and for one that is ONLINE, in SETUP (log
38) or without a nominal; else the channel enters SETUP, its outstanding work faulted as at a failure and its state
told to the LSQ, and the RQX is held, or, with its FLT input high, the setup fails at once and the result is METER
FAILED; in both a write of the channel's status item waits, also where its state ends as it began. That the FLT level
comes with the command (log 30), that the take timer stops on entering SETUP and that the failing setup ends any
transfer on the link (log 17), the order of the records (log 16) and how the status write follows (log 11) are the
model's choice. -/
def Obligations.MeterRestartSetsUpTheChannel : Prop :=
  ∀ (flt : Bool) (s : State), s.part.executes 10 →
    let n := s.part.arg 4 1
    ∃ t, exec (.meterRestart flt) s = .next t ∧ State.sameOutside s t ∧
      (s.part.lsq.engine = .unconfigured → Part.endedAlone s.part t.part { code := .refusedState }) ∧
      (s.part.lsq.engine ≠ .unconfigured → 3 < n → Part.endedAlone s.part t.part { code := .refusedArgument }) ∧
      (s.part.lsq.engine ≠ .unconfigured → ∀ m : Meter, m.val = n →
        let c := s.part.channel m
        (c.state = .unused → Part.endedAlone s.part t.part { code := .refusedArgument }) ∧
        (c.state = .online ∨ c.state = .setup ∨ (c.state ≠ .unused ∧ c.nominal = none) →
          Part.endedAlone s.part t.part { code := .refusedState }) ∧
        (c.state = .offline ∨ c.state = .suspect → c.nominal ≠ none →
          Part.setupBegun s.part t.part m flt ∧ (∃ r ∈ t.part.sa.status, r.item = .channel m) ∧
          (flt = false →
            t.part.rqx.current = s.part.rqx.current.map (fun x => { x with executing := true }) ∧
            Part.keepsBut [.dial, .loading, .meters, .references, .lots, .requests, .journal, .timers]
              s.part t.part) ∧
          (flt = true →
            Part.ended s.part t.part { code := .meterFailed } ∧
            Part.keepsBut [.dial, .loading, .meters, .references, .lots, .requests, .journal, .queues, .timers]
              s.part t.part)))

/-- SET THINNING takes the ratios 1, 2, 4 and 8, PORT WRITE the values up to 0xFF; both are refused in UNCONFIGURED and
for any other argument, and the result word of PORT WRITE is the latch as its result write finds it (log 25). A request
of any other kind ends with UNKNOWN. -/
def Obligations.ThinningPortAndUnknownRequests : Prop :=
  (∀ s : State, s.part.executes 11 →
    let r := s.part.arg 4 1
    let good : Prop := r = 1 ∨ r = 2 ∨ r = 4 ∨ r = 8
    ∃ t, exec .setThinning s = .next t ∧ State.sameOutside s t ∧
      (s.part.lsq.engine = .unconfigured → Part.endedAlone s.part t.part { code := .refusedState }) ∧
      (s.part.lsq.engine ≠ .unconfigured → ¬ good → Part.endedAlone s.part t.part { code := .refusedArgument }) ∧
      (s.part.lsq.engine ≠ .unconfigured → good →
        Part.ended s.part t.part { code := .ok } ∧ Part.keepsBut [.loading, .requests, .queues] s.part t.part ∧
          t.part.lcu = { s.part.lcu with forcedRatio := r })) ∧
  (∀ s : State, s.part.executes 12 →
    let v := s.part.arg 4 2
    ∃ t, exec .portWrite s = .next t ∧ State.sameOutside s t ∧
      Part.keepsBut [.lots, .requests, .queues] s.part t.part ∧ t.part.rqx.current = none ∧
      t.part.rqx.base = s.part.rqx.base ∧ t.part.rqx.parkedRef = s.part.rqx.parkedRef ∧
      t.part.lsq =
        { s.part.lsq with
          portLatch :=
            if s.part.lsq.engine ≠ .unconfigured ∧ v ≤ 0xFF then BitVec.ofNat 8 v else s.part.lsq.portLatch } ∧
      ∀ c, s.part.rqx.current = some c →
        let code : ResultCode :=
          if s.part.lsq.engine = .unconfigured then .refusedState else if v ≤ 0xFF then .ok else .refusedArgument
        Part.filed s.part t.part
          (Result.writes { code, word := t.part.lsq.portLatch.toNat } c.address c.notify (.portResult c.address))) ∧
  (∀ (s : State) (c : CurrentRequest), s.part.rqx.current = some c → c.executing = false →
    (c.kind = 0 ∨ 12 < c.kind) →
    ∃ t, exec .unknown s = .next t ∧ State.sameOutside s t ∧ Part.endedAlone s.part t.part { code := .unknown })

/-! ## Lines, the dial and the load station -/

/-- DIRECT_LINE_CHANGE and DEBOUNCE_ELAPSED: a raw level that equals the stable value ends the counting; one that
differs begins it, or, with a debounce time of 0 ms, changes the stable value at once; a line that counts changes its
stable value when the time has elapsed. A change to ACTIVE is handed to the DT (INDEX), the LCU (PLACED) or the LSQ
(DOOR, AIR); no other change is handed on. With a lot open DOOR and AIR join the hold-cause set, with the hold cause
EVENT, and take the engine from RUN or DRAIN to HOLD, with the hold entered EVENT, the port latch's preset and, from
RUN, the starvation timer cancelled. That a line that counts may elapse at any time is the model's choice (log 5). -/
def Obligations.DirectLinesAreDebounced : Prop :=
  let changes (s t : State) (l : LineId) (v : Line) : Prop :=
    let q := s.part.setLine l { v with stable := !v.stable, debounce := .settled }
    t.part.lct.lines = q.lct.lines ∧ t.part.lct.chain = s.part.lct.chain ∧
      (v.stable = true ∨ l = .loadEye ∨ l = .clearEye → Part.keepsBut [.lines] s.part t.part) ∧
      (v.stable = false → l = .index → t.part = Part.commit s.part q.index) ∧
      (v.stable = false → l = .placed → t.part = Part.commit s.part q.placed) ∧
      (v.stable = false → l = .door ∨ l = .air →
        let c : HoldCause := if l = .door then .door else .air
        (s.part.lsq.engine.inLot = false → Part.keepsBut [.lines] s.part t.part) ∧
          (s.part.lsq.engine.inLot = true →
            t.part.lsq = s.part.lsq.raised c ∧
              t.part.lct.timers =
                { s.part.lct.timers with jam := t.part.lct.timers.jam, starvation := s.part.starvationOn .hold } ∧
              Part.handed s.part t.part (s.part.holdBodies c) ∧
              Part.keepsBut [.lots, .journal, .lines, .timers] s.part t.part))
  (∀ (l : LineId) (high : Bool) (s : State), (s.part.lct.lines.get l).pin ≠ high →
    let v := { s.part.lct.lines.get l with pin := high }
    ∃ t, exec (.directLineChange l high) s = .next t ∧ State.sameOutside s t ∧
      (v.raw = v.stable →
        Part.keepsBut [.lines] s.part t.part ∧ t.part.lct.chain = s.part.lct.chain ∧
          t.part.lct.lines = s.part.lct.lines.set l { v with debounce := .settled }) ∧
      (∀ n, v.raw ≠ v.stable → v.debounce = .counting n →
        Part.keepsBut [.lines] s.part t.part ∧ t.part.lct.chain = s.part.lct.chain ∧
          t.part.lct.lines = s.part.lct.lines.set l v) ∧
      (v.raw ≠ v.stable → v.debounce = .settled → v.debounceMs ≠ 0 →
        Part.keepsBut [.lines] s.part t.part ∧ t.part.lct.chain = s.part.lct.chain ∧
          t.part.lct.lines = s.part.lct.lines.set l { v with debounce := .counting 0 }) ∧
      (v.raw ≠ v.stable → v.debounce = .settled → v.debounceMs = 0 → changes s t l v)) ∧
  (∀ (l : LineId) (n : Nat) (s : State), (s.part.lct.lines.get l).debounce = .counting n →
    ∃ t, exec (.debounceElapsed l) s = .next t ∧ State.sameOutside s t ∧ changes s t l (s.part.lct.lines.get l))

/-- An index with a geometry held and the engine configured: D and the dwell number rise, the new dwell has its items
at the pockets under their places, or none in IDLE, and the jam timer is cancelled. With the index expected the items
start in RUN and DRAIN and stay DEFERRED in HOLD and HALT; without it RUN, DRAIN and HOLD go to HALT with cause
MOTION, and IDLE and HALT hand on an EVENT. In UNCONFIGURED, where no geometry is held, nothing happens. An item of
the replaced dwell that is DEFERRED, or STARTED with no output, is skipped first, in item order, and where there is
one the dwell skipped EVENT follows; every other runs on. Then the items that start do so in item order. The order of
the items is the model's choice (log 12), and that the dwell skipped EVENT stands before the EVENTs of the index
itself (log 13). -/
def Obligations.IndexTurnsTheDial : Prop :=
  (∀ p : Part, p.dt.geometry = none → p.index = p) ∧
  ∀ (p : Part) (g : Geometry), p.dt.geometry = some g →
    let q := p.index
    let e := p.lsq.engine
    let taken : Bool := p.dt.indexExpected
    (e = .unconfigured → q = p) ∧
    (e ≠ .unconfigured →
      let offset := (p.dt.offset + 1) % g.pockets
      let dwell := (p.dt.dwell + 1) % 4294967296
      q.dt.geometry = some g ∧ q.dt.offset = offset ∧ q.dt.dwell = dwell ∧ q.dt.permit = false ∧
        q.dt.indexExpected = false ∧ q.dt.openedIn = e ∧ q.lct.timers.jam = .stopped ∧
        q.lct.lines = p.lct.lines ∧ q.lct.chain = p.lct.chain ∧ q.cfg = p.cfg ∧ q.rqx = p.rqx ∧ q.sa = p.sa ∧
        q.dt.items.map (fun i => (i.kind, i.pocket)) =
          (if e = .idle then []
           else
            ((ItemKind.load, 0) ::
              ((allMeters.filter g.used).map (fun m => (ItemKind.take m, (g.stations.get m).position)) ++
                (ItemKind.decision, g.decision) ::
                  (g.gates.zipIdx.map (fun x => (ItemKind.fire x.2, x.1)) ++ [(ItemKind.clear, g.clear)]))).map
              (fun x => (x.1, g.pocketAt offset x.2))) ∧
        (e = .run ∨ e = .drain → taken = true → q.lsq.engine = e ∧ ∀ i ∈ q.dt.items, i.state ≠ .deferred) ∧
        (e = .hold ∨ e = .halt ∨ taken = false → ∀ i ∈ q.dt.items, i.state = .deferred) ∧
        (e = .idle ∨ e = .hold ∨ e = .halt → taken = true → q.lsq = p.lsq) ∧
        (e = .run ∨ e = .drain ∨ e = .hold → taken = false →
          Part.entered p q .halt ∧ q.lsq.haltCause = .motion ∧ q.lsq.lotMode = p.lsq.lotMode ∧
            q.lsq.holds = p.lsq.holds ∧ q.attn.cause.getLsbD 0 = true ∧
            q.records (.event (.haltEntered .motion e offset dwell))) ∧
        (e = .halt → taken = false → q.lsq = p.lsq ∧ q.records (.event (.motionInHalt offset dwell))) ∧
        (e = .idle → taken = false → q.lsq = p.lsq ∧ q.records (.event (.indexWhileIdle offset))) ∧
        (let turned : Part :=
          { p with
            dt :=
              { p.dt with
                offset, dwell, permit := false, indexExpected := false, items := [] }
            lct := { p.lct with timers := { p.lct.timers with jam := .stopped } } }
         let output (i : Item) : Bool :=
          match i.kind with
          | .load => (match p.lcu.feed with | .idle => false | .feeding _ d => d == p.dt.dwell)
          | .take m => (p.channel m).pendingTake.map PendingTake.dwell != some p.dt.dwell
          | .decision => false
          | .fire _ => true
          | .clear => true
         let skipped :=
          p.dt.items.filter (fun i => i.state == .deferred || (i.state == .started && !output i))
         let closed : Part :=
          if skipped = [] then turned
          else (skipped.foldl (Part.skipItem p.dt.dwell) turned).event (.dwellSkipped p.dt.dwell p.dt.offset skipped.length)
         let items : List Item := if e = .idle then [] else g.items offset
         let opened : Part := { closed with dt := { closed.dt with items, openedIn := e } }
         (e = .run ∨ e = .drain → taken = true →
          q = items.foldl Part.startItem
            { opened with dt := { opened.dt with items := items.map (fun i => { i with state := .started }) } }) ∧
         (e = .idle ∨ e = .hold ∨ e = .halt → taken = true → q = opened) ∧
         (e = .run ∨ e = .drain ∨ e = .hold → taken = false → q = opened.raiseHalt .motion) ∧
         (e = .idle → taken = false → q = opened.event (.indexWhileIdle offset)) ∧
         (e = .halt → taken = false → q = opened.event (.motionInHalt offset dwell))))

/-- A LOAD item waits while a feed is under way. Then: a pocket that is not VACANT, a part at the load eye (the pocket
becomes STRAY) and loading not allowed each complete it, with the thinning counter risen; else the pocket is offered:
a pending reservation set makes it a reservation, and without one it is fed. A skipped LOAD item raises the thinning
counter. A PLACED edge while a feed is under way: with the load eye showing a part the pocket becomes CARRY with the
next sequence number, the plan slot in force for it and one PENDING entry for each used station, the counts follow,
and in RUN the starvation timer starts from the full interval, where its count is not 0; with the eye empty the
load-loss counter rises. The feed ends, and a LOAD item of a later dwell that waited on it proceeds. With no feed an
EVENT alone follows. What the EVENTs carry with no lot or no plan (log 35, log 37), that a part loaded in RUN starts
the starvation timer also where it is stopped (log 20), and that a LIMIT suspension lasts while the urgency is LIMIT
and the cover PLACED or ISSUED, after a pass too (log 61), are the model's choice. -/
def Obligations.PlacedLoadsThePart : Prop :=
  let loads (p q : Part) (k : Nat) : Prop :=
    let n := p.lcu.nextSequence
    let slot : SlotId :=
      match p.ps.pendingSwitch with
      | none => p.ps.loadSlot.getD .a
      | some w => if w.sequence ≤ n then w.slot else p.ps.loadSlot.getD .a
    let starvation : Timer :=
      match p.lcu.intervals with
      | none => p.lct.timers.starvation
      | some i =>
        if p.lsq.engine = .run ∧ IntervalCode.count i.starvation ≠ 0 then
          .running i.starvation (IntervalCode.units i.starvation)
        else p.lct.timers.starvation
    q.lcu.feed = .idle ∧
      (∀ x, x ≠ k → q.pocket x = p.pocket x) ∧ q.mc = p.mc ∧ q.rsc = p.rsc ∧ q.gbt = p.gbt ∧ q.lsq = p.lsq ∧
      q.rqx = p.rqx ∧ q.sa = p.sa ∧ q.attn = p.attn ∧ q.cfg = p.cfg ∧
      (p.lct.lines.loadEye.stable = true →
        q.lct = { p.lct with timers := { p.lct.timers with feed := .stopped, starvation } } ∧
        q.pocket k =
          .carry
            { sequence := n, slot
              readings :=
                match p.dt.geometry with
                | none => []
                | some g =>
                  (allMeters.filter g.used).map (fun m =>
                    { station := m, serial := none, status := .pending, deviation := none, late := false }) } ∧
          q.lcu =
            { p.lcu with
              feed := .idle
              nextSequence := if n = 4294967295 then 0 else n + 1
              counters := { p.lcu.counters with loaded := countUp p.lcu.counters.loaded } } ∧
          (q.ps.slot slot).refs = (p.ps.slot slot).refs + 1 ∧ (q.ps.slot slot.other).refs = (p.ps.slot slot.other).refs ∧
          (n = 4294967295 → q.records (.event (.sequenceExhausted p.lotNumber))) ∧
          (∀ w, p.ps.pendingSwitch = some w → w.sequence ≤ n →
            q.ps.loadSlot = some w.slot ∧ q.ps.pendingSwitch = none ∧
              q.records (.event (.planSwitched p.ps.loadSlot (p.ps.idOf p.ps.loadSlot) w.slot
                (p.ps.idOf (some w.slot)) n)))) ∧
      (p.lct.lines.loadEye.stable = false →
        q.pocket k = p.pocket k ∧ q.ps = p.ps ∧ q.jw = p.jw ∧
          q.lct = { p.lct with timers := { p.lct.timers with feed := .stopped } } ∧
          q.lcu =
            { p.lcu with
              feed := .idle, counters := { p.lcu.counters with loadLoss := countUp p.lcu.counters.loadLoss } })
  (∀ (p : Part) (k : Nat), p.lcu.feed = .feeding k p.dt.dwell → k < p.dt.pockets.length →
    loads p p.placed k ∧ ∀ i ∈ p.placed.dt.items, i.kind = .load → i.state ≠ .started) ∧
  (∀ (p : Part) (k dwell : Nat), p.lcu.feed = .feeding k dwell → dwell ≠ p.dt.dwell → k < p.dt.pockets.length →
    ∃ r : Part, loads p r k ∧ { r.dt with pockets := p.dt.pockets } = p.dt ∧
      p.placed =
        (match r.waitingLoad with
         | none => r
         | some j => r.startItem { kind := .load, pocket := j, state := .started })) ∧
  (∀ p : Part, p.lcu.feed = .idle →
    Part.keepsBut [.journal] p p.placed ∧ Part.handed p p.placed [.event (.placedWithoutFeed p.dt.offset)]) ∧
  (∀ (p : Part) (k : Nat) (st : ItemState),
    let q := p.startItem { kind := .load, pocket := k, state := st }
    let passed := if p.lcu.thinning < 7 then p.lcu.thinning + 1 else p.lcu.thinning
    let done := p.dt.items.map (Item.complete .load)
    let suspended : Prop := ∃ m, (p.channel m).role ≠ .unused ∧ (p.rsc.get m).urgency = .limit ∧
      ((p.rsc.get m).cover = .placed ∨ (p.rsc.get m).cover = .issued)
    let allowed : Prop := p.lsq.engine = .run ∧ max p.lcu.forcedRatio p.jw.level ≤ p.lcu.thinning + 1 ∧
      p.lcu.nextSequence ≠ 0 ∧ ¬ suspended
    let owed : Prop := ∃ m, p.lcu.pendingSet.get m = true
    (p.lcu.feed ≠ .idle → q = p) ∧
    (p.lcu.feed = .idle → p.pocket k ≠ .vacant →
      q = { p with lcu := { p.lcu with thinning := passed }, dt := { p.dt with items := done } }) ∧
    (p.lcu.feed = .idle → p.pocket k = .vacant → p.lct.lines.loadEye.stable = true →
      q = { p with
            lcu :=
              { p.lcu with
                thinning := passed, counters := { p.lcu.counters with stray := countUp p.lcu.counters.stray } }
            dt := { p.dt with pockets := p.dt.pockets.set k .stray, items := done } }) ∧
    (p.lcu.feed = .idle → p.pocket k = .vacant → p.lct.lines.loadEye.stable = false → ¬ allowed →
      q = { p with lcu := { p.lcu with thinning := passed }, dt := { p.dt with items := done } }) ∧
    (p.lcu.feed = .idle → p.pocket k = .vacant → p.lct.lines.loadEye.stable = false → allowed → ¬ owed →
      { q with lct := p.lct } = { p with lcu := { p.lcu with thinning := 0, feed := .feeding k p.dt.dwell } } ∧
        ∀ i, p.lcu.intervals = some i →
          q.lct =
            { p.lct with
              timers := { p.lct.timers with feed := .running i.feedTimeout (IntervalCode.units i.feedTimeout) } }) ∧
    (p.lcu.feed = .idle → p.pocket k = .vacant → p.lct.lines.loadEye.stable = false → allowed → owed →
      { q with rsc := p.rsc } =
          { p with
            lcu := { p.lcu with thinning := 0, pendingSet := MeterSet.empty }
            dt := { p.dt with pockets := p.dt.pockets.set k (.reserved p.lcu.pendingSet), items := done } } ∧
        ∀ m, q.rsc.get m =
          { p.rsc.get m with
            cover :=
              if p.lcu.pendingSet.get m = true ∧ (p.rsc.get m).cover = .pending then .placed
              else (p.rsc.get m).cover }) ∧
    ∀ dwell, Part.skipItem dwell p { kind := .load, pocket := k, state := st } =
      { p with lcu := { p.lcu with thinning := passed } })

/-- SENSOR_SCAN: each input's run of scans that differ from its stable value is counted, and the stable value changes
once the run is longer than the stable scan count. A tube's removal hands on its TUBE record, its insertion begins the
next tube, and a rise of a fitted full input sets the full flag; inputs at or above the gate count change no bin. The
order of the records is the model's choice (log 34). -/
def Obligations.SensorScanMovesTheTubes : Prop :=
  ∀ (bits : BitVec 64) (s : State), s.tablesOk →
    let c := s.part.lct.chain
    let run (i : Nat) : Nat := c.runs.getD i 0 + 1
    let differs (i : Nat) : Bool := bits.getLsbD i != c.stable.getLsbD i
    let changes (i : Nat) : Bool := differs i && decide (c.scanCount < run i)
    ∃ t, exec (.sensorScan bits) s = .next t ∧ State.sameOutside s t ∧
      Part.keepsBut [.bins, .journal, .lines] s.part t.part ∧ t.part.lct.lines = s.part.lct.lines ∧
      t.part.lct.chain.snapshot = bits ∧ t.part.lct.chain.scanCount = c.scanCount ∧
      (∀ i, i < 64 →
        t.part.lct.chain.stable.getLsbD i = (if changes i then bits.getLsbD i else c.stable.getLsbD i) ∧
          t.part.lct.chain.runs.getD i 0 = (if differs i && !changes i then run i else 0)) ∧
      t.part.gbt.pulses = s.part.gbt.pulses ∧ t.part.gbt.items = s.part.gbt.items ∧
      (∀ n, s.part.gateCount ≤ n → t.part.bin n = s.part.bin n) ∧
      (∀ n, n < s.part.gateCount →
        let b := s.part.bin n
        let fitted : Bool := s.part.hasFullSensor n
        let full := t.part.lct.chain.stable.getLsbD (32 + n)
        let inserted : Bool := changes n && bits.getLsbD n
        t.part.bin n =
          { b with
            tube := if changes n then bits.getLsbD n else b.tube
            fired := if inserted then 0 else b.fired
            tubeNumber := if inserted then (b.tubeNumber + 1) % 65536 else b.tubeNumber
            full :=
              if inserted then (if fitted && full then .sensor else .clear)
              else if changes (32 + n) && full && fitted then .sensor else b.full }) ∧
      Part.handed s.part t.part
        (((List.range s.part.gateCount).filter (fun n => changes n && !bits.getLsbD n)).map
          (fun n => .tube n (s.part.bin n).tubeNumber (s.part.bin n).fired s.part.lotNumber))

/-! ## Meter channels -/

/-- The edges of a meter's lines, by the channel's state. ACQ_RISE takes the SENT tag to ACQUIRING, and is a protocol
fault without one; ACQ_FALL takes the ACQUIRING tag to CONVERTING and completes its TAKE item; RDY_RISE begins a
REPORT transfer, or is remembered while the link is busy; FLT_RISE fails a setup or the channel. A failing channel's
tags leave head first with FAULT, its pending take is withdrawn with a FAULT no-take claim, and its TAKE item
completes. When ACQ_FALL stops the take timer (log 19), that the levels of ACQ and FLT follow their edges in OFFLINE
and UNUSED (log 30), that a setup that fails ends any transfer on the link (log 17) and the order of a failure's
records (log 16) are the model's choice. -/
def Obligations.MeterEdgesActByTheState : Prop :=
  (∀ (m : Meter) (s : State),
    let c := s.part.channel m
    ∃ t, exec (.acqRise m) s = .next t ∧ State.sameOutside s t ∧
      (∀ w, c.state = .setup → c.setup = some w → Part.setupFailed s.part t.part m { c with acq := true } w (.protocol .acq)) ∧
      (∀ a k b, c.state = .online ∨ c.state = .suspect → c.queue = a ++ k :: b → (∀ x ∈ a, x.stage ≠ .sent) →
        k.stage = .sent →
        t.part.channel m = { c with acq := true, queue := a ++ { k with stage := .acquiring } :: b } ∧
          Part.otherChannels s.part t.part m ∧ Part.keepsBut [.meters] s.part t.part) ∧
      (c.state = .online ∨ c.state = .suspect → (∀ x ∈ c.queue, x.stage ≠ .sent) →
        Part.channelFailed s.part t.part m { c with acq := true } (.protocol .acq)) ∧
      (c.state = .offline ∨ c.state = .unused →
        t.part.channel m = { c with acq := true } ∧ Part.otherChannels s.part t.part m ∧
          Part.keepsBut [.meters] s.part t.part)) ∧
  (∀ (m : Meter) (s : State),
    let c := s.part.channel m
    ∃ t, exec (.acqFall m) s = .next t ∧ State.sameOutside s t ∧ Part.otherChannels s.part t.part m ∧
      (∀ a k b, c.state = .online ∨ c.state = .suspect → c.queue = a ++ k :: b → (∀ x ∈ a, x.stage ≠ .acquiring) →
        k.stage = .acquiring →
        t.part.channel m = { c with acq := false, queue := a ++ { k with stage := .converting } :: b } ∧
          (k.dwell = s.part.dt.dwell → ∀ i ∈ t.part.dt.items, i.kind = .take m → i.state ≠ .started) ∧
          (k.dwell ≠ s.part.dt.dwell → t.part.dt.items = s.part.dt.items) ∧
          t.part.dt.pockets = s.part.dt.pockets ∧
          t.part.lct.timers.take =
            (if c.pendingTake = none then s.part.lct.timers.take.set m .stopped else s.part.lct.timers.take) ∧
          Part.keepsBut [.dial, .meters, .timers] s.part t.part) ∧
      (c.state = .offline ∨ c.state = .unused ∨ c.state = .setup ∨ (∀ x ∈ c.queue, x.stage ≠ .acquiring) →
        t.part.channel m = { c with acq := false } ∧ Part.keepsBut [.meters] s.part t.part)) ∧
  (∀ (m : Meter) (s : State),
    let c := s.part.channel m
    ∃ t, exec (.rdyRise m) s = .next t ∧ State.sameOutside s t ∧ Part.otherChannels s.part t.part m ∧
      Part.keepsBut [.meters] s.part t.part ∧
      t.part.channel m =
        (if c.state = .unused then c
         else if c.link = .idle then { c with link := .receiving (decide (c.state = .offline)) }
         else { c with rememberedRdy := true })) ∧
  (∀ (m : Meter) (s : State),
    let c := s.part.channel m
    ∃ t, exec (.fltRise m) s = .next t ∧ State.sameOutside s t ∧
      (c.state = .online ∨ c.state = .suspect → Part.channelFailed s.part t.part m { c with flt := true } .flt) ∧
      (∀ w, c.state = .setup → c.setup = some w → Part.setupFailed s.part t.part m { c with flt := true } w .flt) ∧
      (c.state = .offline ∨ c.state = .unused →
        t.part.channel m = { c with flt := true } ∧ Part.otherChannels s.part t.part m ∧
          Part.keepsBut [.meters] s.part t.part))

/-- METER_FRAME_SENT: the link goes to a remembered REPORT, or to a SETUP frame that waited for it, or idle; the take
timer starts for a setup and for a take whose acquisition is open. PENDING_TAKE_SENT, where a take may be sent: a
product take whose pocket is no longer CARRY is withdrawn; any other is sent, with its serial, its tag in stage SENT,
the serial in the pocket's entry, and the meter's count, with the meter owed where it has come to that, or its
reference list. A TAKE item that starts: a part owed a take has it sent where it may be, or else it waits as the
pending take; with the meter at LIMIT its entry takes REFUSED, and with the channel not ONLINE FAULT; a VACANT or
RESERVED pocket takes a reference where the meter is due or in its set; otherwise the item completes. A skipped TAKE
item withdraws its pending take. Which frames start the timer, and that a withdrawn take settles it (log 19), and that a
pending reference take is sent whatever its pocket has become (log 60), are the model's choice. -/
def Obligations.TakesAreSentWhenTheyMay : Prop :=
  (∀ (m : Meter) (s : State) (f : Frame), (s.part.channel m).link = .sending f →
    let c := s.part.channel m
    let timed : Prop :=
      match f with
      | .setup _ _ => c.state = .setup
      | .take _ _ => c.state ≠ .setup ∧ (c.pendingTake ≠ none ∨ ∃ x ∈ c.queue, x.stage ≠ .converting)
      | .refer _ _ => c.state ≠ .setup ∧ (c.pendingTake ≠ none ∨ ∃ x ∈ c.queue, x.stage ≠ .converting)
    ∃ t, exec (.meterFrameSent m) s = .next t ∧ State.sameOutside s t ∧ Part.otherChannels s.part t.part m ∧
      Part.keepsBut [.meters, .timers] s.part t.part ∧
      t.part.channel m = c.linkEnded ∧
      (∀ x, timed → s.part.mc.takeTimeout = some x →
        t.part.lct.timers.take = s.part.lct.timers.take.set m (.running x (IntervalCode.units x))) ∧
      (¬ timed → t.part.lct.timers.take = s.part.lct.timers.take)) ∧
  (∀ (m : Meter) (s : State) (k : PendingTake), (s.part.channel m).pendingTake = some k →
    (s.part.channel m).state = .online → (s.part.channel m).acq = false → (s.part.channel m).queue.length < 2 →
    (∀ x ∈ (s.part.channel m).queue, x.stage = .converting) → (s.part.channel m).link = .idle →
    let c := s.part.channel m
    let r := s.part.rsc.get m
    let carried : Bool := (s.part.pocket k.pocket).isCarry
    let reserved : Bool := (s.part.pocket k.pocket).reservedFor m
    let urgency : Urgency :=
      match r.thresholds with
      | none => r.urgency
      | some h => h.urgencyAt (r.count + 1)
    let owed : Bool := c.owesReference urgency r.cover
    let tag : Tag := { kind := k.kind, pocket := k.pocket, serial := c.nextSerial, dwell := k.dwell, stage := .sent }
    ∃ t, exec (.pendingTakeSent m) s = .next t ∧ State.sameOutside s t ∧ Part.otherChannels s.part t.part m ∧
      Part.keepsBut [.dial, .loading, .meters, .references, .timers] s.part t.part ∧
      (∀ x, x ≠ m → t.part.rsc.get x = s.part.rsc.get x) ∧
      Region.same s.part
        { t.part with dt := { t.part.dt with pockets := s.part.dt.pockets, items := s.part.dt.items } } .dial ∧
      (k.kind = .take → carried = false →
        t.part.channel m = { c with pendingTake := none } ∧
          t.part.lct.timers.take = s.part.lct.timers.take.set m .stopped ∧
          t.part.dt.pockets = s.part.dt.pockets ∧
          (k.dwell = s.part.dt.dwell → ∀ i ∈ t.part.dt.items, i.kind = .take m → i.state ≠ .started) ∧
          Part.keepsBut [.dial, .meters, .timers] s.part t.part) ∧
      (k.kind = .refer ∨ carried = true →
        t.part.channel m =
          { c with
            nextSerial := (c.nextSerial + 1) % 65536, queue := c.queue ++ [tag], pendingTake := none,
            link :=
              .sending (match k.kind with | .take => .take k.pocket c.nextSerial | .refer => .refer k.pocket c.nextSerial) } ∧
          t.part.lct.timers.take = s.part.lct.timers.take ∧ t.part.dt.items = s.part.dt.items ∧
          (∀ x, x ≠ k.pocket → t.part.pocket x = s.part.pocket x)) ∧
      (k.kind = .take → carried = true →
        (t.part.pocket k.pocket).entry m =
            ((s.part.pocket k.pocket).entry m).map (fun e => { e with serial := some c.nextSerial }) ∧
          (∀ x, x ≠ m → (t.part.pocket k.pocket).entry x = (s.part.pocket k.pocket).entry x) ∧
          t.part.rsc.get m =
            { r with
              count := r.count + 1
              urgency
              cover := if owed then .pending else r.cover
              refs := r.refs.map (fun e => { e with since := e.since + 1 }) } ∧
          t.part.lcu =
            { s.part.lcu with
              pendingSet := if owed then s.part.lcu.pendingSet.insert m else s.part.lcu.pendingSet }) ∧
      (k.kind = .refer →
        t.part.rsc.get m =
            { r with
              cover := if reserved = true ∧ r.cover = .placed then .issued else r.cover
              refs := r.refs ++
                [{ pocket := k.pocket, kind := if reserved then .reserved else .opportunistic, since := 0 }] } ∧
          t.part.lcu = s.part.lcu ∧
          (∀ set, s.part.pocket k.pocket = .reserved set → t.part.pocket k.pocket = .reserved (set.erase m)))) ∧
  (∀ (p : Part) (m : Meter) (k : Nat) (st : ItemState),
    let q := p.startItem { kind := .take m, pocket := k, state := st }
    let c := p.channel m
    let u := (p.rsc.get m).urgency
    let good (x : Meter) : Prop := ∃ e, (p.pocket k).entry x = some e ∧ e.status = .good
    let owed : Prop := (p.pocket k).isCarry = true ∧
      (c.role = .primary ∨ c.role = .second ∨
        (c.role = .backup ∧ ∀ g x, p.dt.geometry = some g → g.withRole .primary = some x → ¬ good x))
    let reference : Prop := (p.pocket k = .vacant ∧ u ≠ .current) ∨
      ∃ set, p.pocket k = .reserved set ∧ (u ≠ .current ∨ set.get m = true)
    let clear : Prop := c.acq = false ∧ c.queue.length < 2 ∧ (∀ x ∈ c.queue, x.stage = .converting) ∧ c.link = .idle
    let completed : Part := { p with dt := { p.dt with items := p.dt.items.map (Item.complete (.take m)) } }
    let claimed (v : ReadingStatus) : Prop :=
      { q with dt := p.dt } = p ∧ { q.dt with pockets := p.dt.pockets } = completed.dt ∧
        (∀ x, x ≠ k → q.pocket x = p.pocket x) ∧ (q.pocket k).isCarry = true ∧
        (∀ x, x ≠ m → (q.pocket k).entry x = (p.pocket k).entry x) ∧
        (q.pocket k).entry m =
          ((p.pocket k).entry m).map
            (fun e => if e.status = .pending ∧ e.serial = none then { e with status := v } else e)
    let issued (kind : TakeKind) : Prop :=
      (clear → Part.takeSent p q m kind k p.dt.dwell) ∧
      (¬ clear →
        q.channel m = { c with pendingTake := some { kind, pocket := k, dwell := p.dt.dwell } } ∧
          Part.otherChannels p q m ∧
          { q with mc := { q.mc with channels := p.mc.channels }, lct := p.lct, changed := p.changed } = p ∧
          (p.lct.timers.take.get m ≠ .stopped → q.lct = p.lct) ∧
          ∀ x, p.mc.takeTimeout = some x → p.lct.timers.take.get m = .stopped →
            q.lct =
              { p.lct with
                timers :=
                  { p.lct.timers with
                    take := p.lct.timers.take.set m (.running x (IntervalCode.units x)) } })
    (c.state = .online → owed → u ≠ .limit → issued .take) ∧
    (c.state = .online → owed → u = .limit → claimed .refused) ∧
    (c.state ≠ .online → owed → claimed .fault) ∧
    (c.state = .online → reference → issued .refer) ∧
    (¬ owed → c.state ≠ .online ∨ ¬ reference → q = completed)) ∧
  (∀ (p : Part) (m : Meter) (k dwell : Nat) (st : ItemState),
    let q := Part.skipItem dwell p { kind := .take m, pocket := k, state := st }
    let c := p.channel m
    ((∀ x, c.pendingTake = some x → x.dwell ≠ dwell) → q = p) ∧
    (∀ x, c.pendingTake = some x → x.dwell = dwell →
      q.channel m = { c with pendingTake := none } ∧ Part.otherChannels p q m ∧
        { q with mc := { q.mc with channels := p.mc.channels }, lct := p.lct, changed := p.changed } = p ∧
        ((∃ y ∈ c.queue, y.stage ≠ .converting) → q.lct = p.lct) ∧
        ((∀ y ∈ c.queue, y.stage = .converting) →
          q.lct =
            { p.lct with timers := { p.lct.timers with take := p.lct.timers.take.set m .stopped } })))

/-- REPORT: the frame's checksum, status, deviation and tag are tested in that order, and the first that fails fails
the setup or the channel with its cause; a frame whose transfer began in OFFLINE is discarded, and the link goes on to a
remembered REPORT or to a SETUP frame that waited for it. A setup's answer ends it: any status but GOOD is REJECTED;
GOOD brings the channel ONLINE, sets the meter's count to LIMIT or leaves it, names the meter owed where it has come to
that, and answers the METER RESTART or is kept as the outcome for START LOT; the channel's new state is told to the LSQ.
That the discarding lasts past OFFLINE (log 18) and the order of a failure's records (log 16) are the model's choice. -/
def Obligations.ReportsAreTestedInOrder : Prop :=
  ∀ (m : Meter) (f : List Byte) (s : State) (discard : Bool), (s.part.channel m).link = .receiving discard →
    let c := s.part.channel m
    let status := fieldAt f 4 1
    let broken : Option ProtocolCause :=
      if byteSum f ≠ 0 then some .check
      else if 2 < status then some .status
      else if status < 2 ∧ 9999999 < (signedAt f 5).natAbs then some .range
      else none
    let tagged (kind pocket serial : Nat) : Bool :=
      fieldAt f 0 1 == kind && fieldAt f 1 1 == pocket && fieldAt f 2 2 == serial
    let takes : Prop := discard = false ∧ (c.state = .online ∨ c.state = .suspect)
    ∃ t, exec (.report m f) s = .next t ∧ State.sameOutside s t ∧ Part.otherChannels s.part t.part m ∧
      (discard = true ∨ c.state = .offline ∨ c.state = .unused →
        Part.keepsBut [.meters] s.part t.part ∧ t.part.channel m = c.linkEnded) ∧
      (∀ x, takes → broken = some x → Part.channelFailed s.part t.part m c (.protocol x)) ∧
      (takes → broken = none → c.queue = [] → Part.channelFailed s.part t.part m c (.protocol .noTag)) ∧
      (∀ k rest, takes → broken = none → c.queue = k :: rest → k.stage ≠ .converting →
        Part.channelFailed s.part t.part m c (.protocol .early)) ∧
      (∀ k rest, takes → broken = none → c.queue = k :: rest → k.stage = .converting →
        tagged (match k.kind with | .take => 2 | .refer => 3) k.pocket k.serial = false →
        Part.channelFailed s.part t.part m c (.protocol .tag)) ∧
      (∀ w, discard = false → c.state = .setup → c.setup = some w →
        (∀ x, broken = some x → Part.setupFailed s.part t.part m c w (.protocol x)) ∧
          (broken = none → tagged 1 255 w.serial = false → Part.setupFailed s.part t.part m c w (.protocol .tag)) ∧
          (broken = none → tagged 1 255 w.serial = true → status ≠ 0 →
            Part.setupFailed s.part t.part m c w .rejected) ∧
          (broken = none → tagged 1 255 w.serial = true → status = 0 →
            t.part.channel m = Channel.linkEnded { c with state := .online, setup := none, setupDue := false } ∧
              Part.handed s.part t.part ([.event (.channelOnline m w.before)] ++ Part.toldBodies s.part t.part) ∧
              t.part.lct.timers = Part.toldTimers s.part t.part m ∧
              (∀ x, x ≠ m → t.part.rsc.get x = s.part.rsc.get x) ∧
              (∀ h, (s.part.rsc.get m).thresholds = some h →
                let r := s.part.rsc.get m
                let kept : Prop := w.asker = .startLot ∧ w.before = .online
                let judged (count : Nat) (urgency : Urgency) : Prop :=
                  let owed := Channel.owesReference { c with state := .online } urgency r.cover
                  t.part.rsc.get m = { r with count, urgency, cover := if owed then .pending else r.cover } ∧
                    t.part.lcu =
                      { s.part.lcu with
                        pendingSet := if owed then s.part.lcu.pendingSet.insert m else s.part.lcu.pendingSet }
                (kept → judged r.count r.urgency) ∧ (¬ kept → judged h.limit (h.urgencyAt h.limit))) ∧
              Part.setupAnswered s.part t.part m w .online .ok ∧
              Part.keepsBut [.loading, .meters, .references, .lots, .requests, .journal, .queues, .timers]
                s.part t.part))

/-- A REPORT that passes its tests answers the head tag, and the link goes on. For a TAKE the entry of a CARRY pocket
takes the status and the deviation, that of a ROUTED or SPENT one takes them late, with the pocket's phase, its row,
route and reason and its other entries as they were; and without an entry of the serial the report is stale. For a
REFER the head entry leaves the meter's list and the result is judged: a pass sets the count to the takes since, with
the urgency it gives, and a cover of PENDING ends with the meter out of the pending set; a failure makes the channel
SUSPECT, withdraws its pending take and latches METER; none changes neither. A RESERVED entry ends a cover of ISSUED,
and after a pass or none a meter FORCED or LIMIT whose cover is NONE is owed anew, its cover PENDING and the meter in
the pending set. In SUSPECT the answer counts as FAULT. That the meter is looked at again after a pass (log 39), that
the take timer of a withdrawn take stops only where no acquisition is open (log 19) and that at a failure the hold's
EVENTs stand before the CHECK record, on which nothing is said here (log 54), are the model's choice. -/
def Obligations.AcceptedReportsAnswerTheHeadTag : Prop :=
  ∀ (m : Meter) (f : List Byte) (s : State) (k : Tag) (rest : List Tag) (v : ReadingStatus),
    let c := s.part.channel m
    c.link = .receiving false → c.state = .online ∨ c.state = .suspect → c.queue = k :: rest →
    k.stage = .converting → byteSum f = 0 →
    fieldAt f 0 1 = (match k.kind with | .take => 2 | .refer => 3) → fieldAt f 1 1 = k.pocket → fieldAt f 2 2 = k.serial →
    (fieldAt f 4 1, v) ∈ [(0, ReadingStatus.good), (1, .over), (2, .opened)] →
    (v = .opened ∨ (signedAt f 5).natAbs ≤ 9999999) →
    let trusted : Bool := decide (c.state = .online)
    let status : ReadingStatus := if trusted then v else .fault
    let deviation : Option Int := if trusted = true ∧ v ≠ .opened then some (signedAt f 5) else none
    ∃ t, exec (.report m f) s = .next t ∧ State.sameOutside s t ∧ Part.otherChannels s.part t.part m ∧
      Part.keepsBut [.dial, .loading, .meters, .references, .lots, .journal, .attention, .timers] s.part t.part ∧
      (k.kind = .take →
        let pocket := s.part.pocket k.pocket
        let written (late : Bool) (x : PartRecord) : PartRecord :=
          { x with
            readings :=
              x.readings.map (fun e => if e.station = m then { e with status, deviation, late := late || e.late } else e) }
        let counted (counters : LotCounters) : Lcu := { s.part.lcu with counters }
        let fits : Prop := ∃ e, pocket.entry m = some e ∧ e.serial = some k.serial
        t.part.channel m = Channel.linkEnded { c with queue := rest } ∧
        Part.keeps [.references, .lots, .attention, .timers] s.part t.part ∧
        (∀ x, x ≠ k.pocket → t.part.pocket x = s.part.pocket x) ∧
        Region.same s.part { t.part with dt := { t.part.dt with pockets := s.part.dt.pockets } } .dial ∧
        (¬ fits →
          t.part.pocket k.pocket = pocket ∧
            t.part.lcu =
              counted { s.part.lcu.counters with staleReports := countUp s.part.lcu.counters.staleReports } ∧
            Part.handed s.part t.part [.event (.staleReport k.pocket m k.serial s.part.dt.offset)]) ∧
        (fits →
          t.part.jw = s.part.jw ∧
          (∀ x, pocket = .carry x →
            t.part.pocket k.pocket = .carry (written false x) ∧ t.part.lcu = s.part.lcu) ∧
          (pocket.isCarry = false →
            t.part.lcu =
              counted { s.part.lcu.counters with lateReadings := countUp s.part.lcu.counters.lateReadings }) ∧
          (∀ x r, pocket = .routed x r → t.part.pocket k.pocket = .routed (written true x) r) ∧
          ∀ x r n, pocket = .spent x r n → t.part.pocket k.pocket = .spent (written true x) r n)) ∧
      (k.kind = .refer → ∀ e es h, (s.part.rsc.get m).refs = e :: es → (s.part.rsc.get m).thresholds = some h →
        let r := s.part.rsc.get m
        let set := s.part.lcu.pendingSet
        let check (x : Verdict) (after : Nat) : RecordBody := .check m e.pocket e.kind status x r.count after deviation
        let freed : Cover := if r.cover = .issued ∧ e.kind = .reserved then .none else r.cover
        let judged (count : Nat) (urgency : Urgency) (cover : Cover) (left : MeterSet) : Prop :=
          let owed := c.owesReference urgency cover
          t.part.rsc.get m = { r with count, urgency, refs := es, cover := if owed then .pending else cover } ∧
            t.part.lcu = { s.part.lcu with pendingSet := if owed then left.insert m else left }
        let goesOn : Prop :=
          t.part.channel m = Channel.linkEnded { c with queue := rest } ∧
            Part.keeps [.dial, .lots, .attention, .timers] s.part t.part
        (∀ x, x ≠ m → t.part.rsc.get x = s.part.rsc.get x) ∧
        (status = .good → (signedAt f 5).natAbs ≤ h.drift →
          goesOn ∧ Part.handed s.part t.part [check .pass e.since] ∧
            judged e.since (h.urgencyAt e.since) (if r.cover = .pending then .none else freed)
              (if r.cover = .pending then set.erase m else set)) ∧
        (status = .opened ∨ status = .fault →
          goesOn ∧ Part.handed s.part t.part [check .none r.count] ∧ judged r.count r.urgency freed set) ∧
        (status = .over ∨ (status = .good ∧ h.drift < (signedAt f 5).natAbs) →
          t.part.channel m = Channel.linkEnded { c with state := .suspect, queue := rest, pendingTake := none } ∧
            t.part.rsc.get m = { r with refs := es, cover := freed } ∧ t.part.lcu = s.part.lcu ∧
            t.part.records (check .fail r.count) ∧ t.part.attn = (s.part.latch .meter).attn ∧
            t.part.lsq = Part.toldOf s.part t.part ∧
            (∀ b ∈ Part.toldBodies s.part t.part, t.part.records b) ∧
            t.part.lct.timers =
              { Part.toldTimers s.part t.part m with take := t.part.lct.timers.take } ∧
            (c.pendingTake = none → Part.keeps [.dial] s.part t.part ∧ t.part.lct.timers.take = s.part.lct.timers.take) ∧
            ∀ x, c.pendingTake = some x →
              t.part.lct.timers.take =
                  (if ∃ y ∈ rest, y.stage ≠ .converting then s.part.lct.timers.take
                   else s.part.lct.timers.take.set m .stopped) ∧
                t.part.dt.items =
                  (if x.dwell = s.part.dt.dwell then s.part.dt.items.map (Item.complete (.take m)) else s.part.dt.items) ∧
                (∀ y, y ≠ x.pocket ∨ x.kind = .refer → t.part.pocket y = s.part.pocket y) ∧
                (x.kind = .take → ∀ y, y ≠ m →
                  (t.part.pocket x.pocket).entry y = (s.part.pocket x.pocket).entry y) ∧
                (x.kind = .take → (s.part.pocket x.pocket).isCarry = true →
                  (t.part.pocket x.pocket).entry m =
                    ((s.part.pocket x.pocket).entry m).map
                      (fun y => if y.status = .pending ∧ y.serial = none then { y with status := .fault } else y))))

/-! ## Timers -/

/-- The expiries, each of a running timer, which stops. JAM: the engine halts with cause JAM from RUN, DRAIN and HOLD.
FEED: the pocket stays and the feed ends, with its EVENT. CATCH: the jet ends. STARVATION: STARVED is latched, with
its EVENT. TAKE: a setup or the channel fails with TIMEOUT. PULSE: a pocket routed to the gate becomes SPENT and the
bin's counts follow. AGE: JOURNAL is latched. And the items that start those pulses. FIRE: a pocket ROUTED to the gate
is fired at where its bin is OPEN, an earlier pulse of the gate ending first, and is rerouted where it is not, or
where the item is skipped; any other completes the item. CLEAR: the pocket is settled by its phase and the clear eye,
the catch jet fires where the eye shows a part, and the item completes with the pulse and the record; a skipped one
settles the pocket as for an empty eye. That a running timer may expire at any time, which pulses report, what a late
pulse finds, how a pocket in CARRY is settled, that a skipped item of a STRAY pocket hands on its EVENT, that a setup
that fails ends any transfer on the link and the order of a failure's records are the model's choice (log 5, log 14,
log 16, log 17, log 21, log 22, log 43, log 46, log 47, log 52). -/
def Obligations.ExpiriesDoTheirWork : Prop :=
  (∀ s : State, s.part.lct.timers.jam ≠ .stopped →
    ∃ t, exec .jamTimerExpiry s = .next t ∧ State.sameOutside s t ∧ t.part.lct.timers.jam = .stopped ∧
      (s.part.lsq.engine = .run ∨ s.part.lsq.engine = .drain ∨ s.part.lsq.engine = .hold →
        t.part.lsq =
            { s.part.lsq with engine := .halt, haltCause := .jam, portLatch := s.part.lsq.latchOn .halt } ∧
          Part.entered s.part t.part .halt ∧ t.part.attn = (s.part.latch .halt).attn ∧
          Part.keepsBut [.lots, .journal, .attention, .timers] s.part t.part ∧
          Part.handed s.part t.part
            [.event (.haltEntered .jam s.part.lsq.engine s.part.dt.offset s.part.dt.dwell)])) ∧
  (∀ (s : State) (k : Nat), s.part.lct.timers.feed ≠ .stopped → s.part.lcu.feed = .feeding k s.part.dt.dwell →
    ∃ t, exec .feedTimerExpiry s = .next t ∧ State.sameOutside s t ∧
      t.part.lcu = { s.part.lcu with feed := .idle } ∧ t.part.dt.pockets = s.part.dt.pockets ∧
      (∀ i ∈ t.part.dt.items, i.kind = .load → i.state ≠ .started) ∧
      t.part.lct.timers = { s.part.lct.timers with jam := t.part.lct.timers.jam, feed := .stopped } ∧
      Part.keepsBut [.dial, .loading, .journal, .timers] s.part t.part ∧
      Part.handed s.part t.part [.event (.feedTimeout k s.part.dt.offset)]) ∧
  (∀ s : State, s.part.lct.timers.clearJet ≠ .stopped →
    ∃ t, exec .catchTimerExpiry s = .next t ∧ State.sameOutside s t ∧
      t.part.lcu = { s.part.lcu with clearJet := .idle } ∧ t.part.dt.pockets = s.part.dt.pockets ∧
      (s.part.lcu.clearJet = .pulsing s.part.dt.dwell true → s.part.jw.waiting = [] →
        ∀ i ∈ t.part.dt.items, i.kind = .clear → i.state ≠ .started) ∧
      t.part.lct.timers = { s.part.lct.timers with jam := t.part.lct.timers.jam, clearJet := .stopped } ∧
      Part.keepsBut [.dial, .loading, .timers] s.part t.part) ∧
  (∀ s : State, s.part.lct.timers.starvation ≠ .stopped →
    ∃ t, exec .starvationTimerExpiry s = .next t ∧ State.sameOutside s t ∧
      t.part.attn = (s.part.latch .starved).attn ∧
      t.part.lct.timers = { s.part.lct.timers with jam := t.part.lct.timers.jam, starvation := .stopped } ∧
      Part.keepsBut [.journal, .attention, .timers] s.part t.part ∧
      Part.handed s.part t.part [.event (.starvation s.part.lcu.nextSequence s.part.dt.offset)]) ∧
  (∀ (m : Meter) (s : State), s.part.lct.timers.take.get m ≠ .stopped →
    let c := s.part.channel m
    ∃ t, exec (.takeTimerExpiry m) s = .next t ∧ State.sameOutside s t ∧
      (c.state = .online ∨ c.state = .suspect → Part.channelFailed s.part t.part m c .timeout) ∧
      (∀ w, c.state = .setup → c.setup = some w → Part.setupFailed s.part t.part m c w .timeout) ∧
      (c.state = .offline ∨ c.state = .unused →
        t.part.lct.timers.take = s.part.lct.timers.take.set m .stopped ∧ Part.keepsBut [.timers] s.part t.part)) ∧
  (∀ (n : Fin 32) (s : State) (k tube dwell : Nat) (reports : Bool),
    s.tablesOk → s.part.lct.timers.pulse.getD n.val .stopped ≠ .stopped →
    s.part.pulse n.val = .pulsing k tube dwell reports →
    let b := s.part.bin n.val
    let routed : Bool := (s.part.pocket k).routedTo n.val
    let fired := if b.tubeNumber = tube then b.fired + 1 else b.fired
    ∃ t, exec (.pulseTimerExpiry n) s = .next t ∧ State.sameOutside s t ∧ t.part.pulse n.val = .idle ∧
      (∀ x, x ≠ n.val → t.part.pulse x = s.part.pulse x ∧ t.part.bin x = s.part.bin x) ∧
      t.part.bin n.val =
        { b with
          fired
          pending := if routed then b.pending - 1 else b.pending
          full := if b.tubeNumber = tube ∧ b.capacity ≤ fired ∧ b.full = .clear then .count else b.full } ∧
      (∀ x, x ≠ k → t.part.pocket x = s.part.pocket x) ∧
      (∀ x r, s.part.pocket k = .routed x r →
        t.part.pocket k = .spent x { r with route := .gate n.val } tube) ∧
      (reports = true → dwell = s.part.dt.dwell →
        ∀ i ∈ t.part.dt.items, i.kind = .fire n.val → i.state ≠ .started) ∧
      t.part.lct.timers.pulse = s.part.lct.timers.pulse.set n.val .stopped ∧
      Part.keepsBut [.dial, .bins, .timers] s.part t.part) ∧
  (∀ s : State, s.part.lct.timers.age ≠ .stopped →
    ∃ t, exec .ageTimerExpiry s = .next t ∧ State.sameOutside s t ∧
      t.part.attn = (s.part.latch .journal).attn ∧
      t.part.lct.timers = { s.part.lct.timers with jam := t.part.lct.timers.jam, age := .stopped } ∧
      Part.keepsBut [.attention, .timers] s.part t.part) ∧
  (∀ (p : Part) (k dwell : Nat), p.lcu.feed = .feeding k dwell → dwell ≠ p.dt.dwell →
    let e := p.event (.feedTimeout k p.dt.offset)
    let r : Part :=
      { e with
        lcu := { e.lcu with feed := .idle }
        lct := { e.lct with timers := { e.lct.timers with feed := .stopped } } }
    p.feedTimerExpires =
      (match r.waitingLoad with
       | none => r
       | some j => r.startItem { kind := .load, pocket := j, state := .started })) ∧
  (∀ (p : Part) (n k : Nat) (st : ItemState), n < p.gbt.bins.length → n < p.gbt.pulses.length →
    let q := p.startItem { kind := .fire n, pocket := k, state := st }
    let b := p.bin n
    let r := p.endPulse n
    let opened : Prop := b.tube = true ∧ b.closed = .none ∧ b.full = .clear
    let done := p.dt.items.map (Item.complete (.fire n))
    (p.pulse n = .idle → r = p) ∧
    (∀ x tube d reports, p.pulse n = .pulsing x tube d reports → Part.pulseEnded p r n x tube d reports) ∧
    ((p.pocket k).routedTo n = false → q = { p with dt := { p.dt with items := done } }) ∧
    ((p.pocket k).routedTo n = true → opened →
      { q with lct := p.lct } =
          { r with
            gbt := { r.gbt with pulses := r.gbt.pulses.set n (.pulsing k b.tubeNumber p.dt.dwell true) } } ∧
        ∀ i, p.gbt.items = some i →
          q.lct =
            { p.lct with
              timers :=
                { p.lct.timers with
                  pulse := p.lct.timers.pulse.set n (.running i.ejectPulse (IntervalCode.units i.ejectPulse)) } }) ∧
    ((p.pocket k).routedTo n = true → ¬ opened → Part.rerouted p q n k done) ∧
    ∀ dwell, let y := Part.skipItem dwell p { kind := .fire n, pocket := k, state := st }
      ((p.pocket k).routedTo n = true → Part.rerouted p y n k p.dt.items) ∧
        ((p.pocket k).routedTo n = false → y = p)) ∧
  (∀ (p : Part) (k : Nat) (st : ItemState),
    let q := p.startItem { kind := .clear, pocket := k, state := st }
    let present := p.lct.lines.clearEye.stable
    let waits : Bool := q.jw.waiting.any (fun h => h.clearDwell == some p.dt.dwell)
    Part.cleared p q k present true ∧
    (present = false → q.lcu.clearJet = p.lcu.clearJet ∧ q.lct = p.lct) ∧
    (present = true →
      q.lcu.clearJet = .pulsing p.dt.dwell true ∧
        ∀ i, p.lcu.intervals = some i →
          q.lct =
            { p.lct with
              timers := { p.lct.timers with clearJet := .running i.catchPulse (IntervalCode.units i.catchPulse) } }) ∧
    (p.lcu.clearJet ≠ .pulsing p.dt.dwell true →
      q.dt.items = if present || waits then p.dt.items else p.dt.items.map (Item.complete .clear)) ∧
    ∀ dwell, let y := Part.skipItem dwell p { kind := .clear, pocket := k, state := st }
      Part.cleared p y k false false ∧ y.lcu.clearJet = p.lcu.clearJet ∧ y.lct = p.lct ∧ y.dt.items = p.dt.items)

/-! ## The decision -/

/-- The base reading is the first that matches of PRIMARY GOOD, BACKUP GOOD, PRIMARY OVER, BACKUP OVER (R94). The row
walk answers the first row whose window holds the deviation (R99). A route claim tests its candidates in order: the
first whose bin is OPEN with its fired and pending parts below its capacity is taken, and its pending count rises;
with none, nothing changes (R101, R102). With no base reading, or with the spread check applied and no SECOND GOOD,
the decision is FAIL; with an over-range one, or with no row that holds it, REJECT; with a spread above the limit,
SPREAD: each has the special bin of its name for its one candidate and no row (R95 to R98, R100, R104). Otherwise the
wanted row is the pocket's row, its target, its alternates and the OVERFLOW bin are the candidates, and the reason
follows from the place in the list (R103). The route is the gate of the bin taken, or CATCH. A DECIDE item, started or
skipped, writes the decision into a pocket in CARRY and into no other (R92, R105). -/
def Obligations.DecisionReadsWalksAndClaims : Prop :=
  (∀ primary backup : Option Reading,
    let has (e : Option Reading) (v : ReadingStatus) : Prop := ∃ r, e = some r ∧ r.status = v
    let value (e : Option Reading) : Base := .measured ((e.bind Reading.deviation).getD 0)
    (has primary .good → baseReading primary backup = value primary) ∧
      (¬ has primary .good → has backup .good → baseReading primary backup = value backup) ∧
      (¬ has primary .good → ¬ has backup .good → (has primary .over ∨ has backup .over) →
        baseReading primary backup = .overRange) ∧
      (¬ has primary .good → ¬ has backup .good → ¬ has primary .over → ¬ has backup .over →
        baseReading primary backup = .none)) ∧
  (∀ (d : Int) (rows : List PlanRow),
    (wantedRow d rows 0 = none ↔ ∀ r ∈ rows, ¬ (r.low ≤ d ∧ d ≤ r.high)) ∧
      ∀ n r, wantedRow d rows 0 = some (n, r) →
        rows[n]? = some r ∧ r.low ≤ d ∧ d ≤ r.high ∧
          ∀ i x, i < n → rows[i]? = some x → ¬ (x.low ≤ d ∧ d ≤ x.high)) ∧
  (∀ (p : Part) (candidates : List Nat),
    let takes (n : Nat) : Prop :=
      (p.bin n).tube = true ∧ (p.bin n).closed = .none ∧ (p.bin n).full = .clear ∧
        (p.bin n).fired + (p.bin n).pending < (p.bin n).capacity
    ((∀ n ∈ candidates, ¬ takes n) → p.routeClaim candidates = (p, none)) ∧
      ∀ a n b, candidates = a ++ n :: b → (∀ x ∈ a, ¬ takes x) → takes n →
        p.routeClaim candidates = (p.setBin n { p.bin n with pending := (p.bin n).pending + 1 }, some (a.length, n))) ∧
  (∀ (p : Part) (plan : Plan) (rs : List Reading) (d : Int) (n : Nat) (r : PlanRow),
    baseReading (p.entryOfRole rs .primary) (p.entryOfRole rs .backup) = .measured d →
    (plan.spreadCheck = true → ∀ g, p.dt.geometry = some g → g.withRole .second ≠ none →
      ∃ e, p.entryOfRole rs .second = some e ∧ e.status = .good ∧
        (e.deviation.getD 0 - d).natAbs ≤ plan.spreadLimit) →
    wantedRow d plan.rows 0 = some (n, r) →
    let claim := p.routeClaim (r.target :: (r.alternates ++ plan.overflow.toList))
    (p.decision plan rs).1 = claim.1 ∧ (p.decision plan rs).2.row = some n ∧
      (p.decision plan rs).2.route = (match claim.2 with | none => .toCatch | some (_, b) => .gate b)) ∧
  (∀ (p : Part) (k : Nat) (x : PartRecord) (plan : Plan), p.pocket k = .carry x → p.planOf x.slot = some plan →
    (p.decidePocket k).pocket k = .routed x (p.decision plan x.readings).2) ∧
  (∀ (p : Part) (plan : Plan) (rs : List Reading),
    let base := baseReading (p.entryOfRole rs .primary) (p.entryOfRole rs .backup)
    let applied : Prop := plan.spreadCheck = true ∧ ∃ g, p.dt.geometry = some g ∧ g.withRole .second ≠ none
    let second := p.entryOfRole rs .second
    let good : Prop := ∃ e, second = some e ∧ e.status = .good
    let spread (d : Int) : Nat := (((second.bind Reading.deviation).getD 0) - d).natAbs
    let ends (bin : Option Nat) (reason : Reason) : Prop :=
      let claim := p.routeClaim bin.toList
      p.decision plan rs =
        (claim.1,
          { row := none, route := (match claim.2 with | none => .toCatch | some (_, b) => .gate b), reason })
    (base = .none → ends plan.fail .fail) ∧ (base = .overRange → ends plan.reject .reject) ∧
    (∀ d, base = .measured d →
      (applied → ¬ good → ends plan.fail .fail) ∧
      (applied → good → plan.spreadLimit < spread d → ends plan.spread .spread) ∧
      (¬ applied ∨ (good ∧ spread d ≤ plan.spreadLimit) →
        (wantedRow d plan.rows 0 = none → ends plan.reject .reject) ∧
        (∀ n r, wantedRow d plan.rows 0 = some (n, r) →
          let claim := p.routeClaim (r.target :: (r.alternates ++ plan.overflow.toList))
          p.decision plan rs =
            (claim.1,
              { row := some n
                route := (match claim.2 with | none => .toCatch | some (_, b) => .gate b)
                reason :=
                  (match claim.2 with
                   | none => .noroom
                   | some (0, _) => .sorted
                   | some (i + 1, _) => if i < r.alternates.length then .alternate else .overflow) }))))) ∧
  (∀ (p : Part) (k dwell : Nat) (st : ItemState),
    let i : Item := { kind := .decision, pocket := k, state := st }
    let done := p.dt.items.map (Item.complete .decision)
    ((p.pocket k).isCarry = false →
      p.startItem i = { p with dt := { p.dt with items := done } } ∧ Part.skipItem dwell p i = p) ∧
    (∀ x plan, p.pocket k = .carry x → p.planOf x.slot = some plan →
      let d := p.decision plan x.readings
      let decided (items : List Item) : Part :=
        { d.1 with dt := { p.dt with pockets := p.dt.pockets.set k (.routed x d.2), items } }
      p.startItem i = decided done ∧ Part.skipItem dwell p i = decided p.dt.items))

/-- The model's choice (log 1, log 27): a command whose occasion does not hold changes nothing: a request row where
the current request is not of its kind or has begun, the end of a work that is not under way, an expiry of a stopped
timer, a frame's end on a link without one; and a write to a register or a store cycle while the host's bus is held.
-/
def Obligations.CommandsOutOfPlaceChangeNothing : Prop :=
  ∀ s : State,
    (∀ flt, ¬ s.part.executes 1 → exec (.startLot flt) s = .next s) ∧
    (¬ s.part.executes 2 → exec .endLot s = .next s) ∧ (¬ s.part.executes 3 → exec .abortLot s = .next s) ∧
    (¬ s.part.executes 4 → exec .stagePlan s = .next s) ∧ (¬ s.part.executes 5 → exec .switchPlan s = .next s) ∧
    (¬ s.part.executes 6 →
      exec .binControlClose s = .next s ∧ exec .binControlOpen s = .next s ∧
        exec .binControlCapacity s = .next s) ∧
    (¬ s.part.executes 7 → exec .hold s = .next s) ∧ (¬ s.part.executes 8 → exec .resume s = .next s) ∧
    (¬ s.part.executes 9 → exec .clearHalt s = .next s) ∧
    (∀ flt, ¬ s.part.executes 10 → exec (.meterRestart flt) s = .next s) ∧
    (¬ s.part.executes 11 → exec .setThinning s = .next s) ∧ (¬ s.part.executes 12 → exec .portWrite s = .next s) ∧
    (s.part.rqx.current = none → exec .unknown s = .next s) ∧
    (s.part.lsq.startLot = none → exec .startLotSetupsDone s = .next s ∧
      ∀ flt, exec (.contextReadDone flt) s = .next s) ∧
    (s.part.ps.staging = none → exec .planStagingEnd s = .next s) ∧
    (s.part.lsq.engine ≠ .drain → exec .lotClose s = .next s) ∧
    (s.part.lsq.completion = none → exec .closeCompletionEnd s = .next s) ∧
    (s.part.cfg.work = .none → exec .configureReadDone s = .next s ∧ exec .configureHeldTaken s = .next s) ∧
    (s.hp.draining = false → exec .softResetDrainEnd s = .next s) ∧
    (s.part.rqx.reading = none → exec .requestSlotRead s = .next s) ∧
    (s.part.jw.writer ≠ .idle ∨ s.part.jw.queue = [] ∨ s.part.jw.area = none →
      exec .journalRecordWrite s = .next s) ∧
    (s.choice = none → exec .storeGrant s = .next s) ∧
    (∀ l, (s.part.lct.lines.get l).debounce = .settled → exec (.debounceElapsed l) s = .next s) ∧
    (∀ l high, (s.part.lct.lines.get l).pin = high → exec (.directLineChange l high) s = .next s) ∧
    (∀ m, (s.part.channel m).link = .idle →
      exec (.meterFrameSent m) s = .next s ∧ ∀ f, exec (.report m f) s = .next s) ∧
    (∀ m, (s.part.channel m).pendingTake = none → exec (.pendingTakeSent m) s = .next s) ∧
    (s.part.lct.timers.jam = .stopped → exec .jamTimerExpiry s = .next s) ∧
    (s.part.lct.timers.feed = .stopped → exec .feedTimerExpiry s = .next s) ∧
    (s.part.lct.timers.clearJet = .stopped → exec .catchTimerExpiry s = .next s) ∧
    (s.part.lct.timers.starvation = .stopped → exec .starvationTimerExpiry s = .next s) ∧
    (s.part.lct.timers.age = .stopped → exec .ageTimerExpiry s = .next s) ∧
    (∀ m, s.part.lct.timers.take.get m = .stopped → exec (.takeTimerExpiry m) s = .next s) ∧
    (∀ n : Fin 32, s.part.lct.timers.pulse.getD n.val .stopped = .stopped →
      exec (.pulseTimerExpiry n) s = .next s) ∧
    (s.hp.cycle ≠ .none →
      exec .configure s = .next s ∧ exec .softReset s = .next s ∧
        (∀ v, exec (.attnCauseWrite v) s = .next s ∧ exec (.attnEnableWrite v) s = .next s) ∧
        (∀ n v, exec (.apertureWrite n v) s = .next s) ∧
        (∀ a v, exec (.hostStoreWrite a v) s = .next s ∧ exec (.hostStoreRead a) s = .next s))
end

