-- ==== Sys2Proof/Laws/State.lean ====
section
/-! SUPPORT. One lemma for each block and each plain update of the part: the block updated takes its new value, every
other block is as it was. -/

/- The proofs of this file are elaborated one after the other, so that the package, compiled as one file, does
not ask for more threads at once than a machine of limited memory can give. -/
set_option Elab.async false

namespace Sys2Proof.Machine

variable (p q : Part)

@[simp] theorem Part.setPocket_dt (k : Nat) (x : Pocket) :
    (p.setPocket k x).dt = { p.dt with pockets := p.dt.pockets.set k x } := rfl
@[simp] theorem Part.setPocket_lcu (k : Nat) (x : Pocket) : (p.setPocket k x).lcu = p.lcu := rfl
@[simp] theorem Part.setPocket_mc (k : Nat) (x : Pocket) : (p.setPocket k x).mc = p.mc := rfl
@[simp] theorem Part.setPocket_rsc (k : Nat) (x : Pocket) : (p.setPocket k x).rsc = p.rsc := rfl
@[simp] theorem Part.setPocket_ps (k : Nat) (x : Pocket) : (p.setPocket k x).ps = p.ps := rfl
@[simp] theorem Part.setPocket_gbt (k : Nat) (x : Pocket) : (p.setPocket k x).gbt = p.gbt := rfl
@[simp] theorem Part.setPocket_lsq (k : Nat) (x : Pocket) : (p.setPocket k x).lsq = p.lsq := rfl
@[simp] theorem Part.setPocket_rqx (k : Nat) (x : Pocket) : (p.setPocket k x).rqx = p.rqx := rfl
@[simp] theorem Part.setPocket_jw (k : Nat) (x : Pocket) : (p.setPocket k x).jw = p.jw := rfl
@[simp] theorem Part.setPocket_sa (k : Nat) (x : Pocket) : (p.setPocket k x).sa = p.sa := rfl
@[simp] theorem Part.setPocket_attn (k : Nat) (x : Pocket) : (p.setPocket k x).attn = p.attn := rfl
@[simp] theorem Part.setPocket_cfg (k : Nat) (x : Pocket) : (p.setPocket k x).cfg = p.cfg := rfl
@[simp] theorem Part.setPocket_lct (k : Nat) (x : Pocket) : (p.setPocket k x).lct = p.lct := rfl
@[simp] theorem Part.setPocket_draws (k : Nat) (x : Pocket) : (p.setPocket k x).draws = p.draws := rfl
@[simp] theorem Part.setPocket_changed (k : Nat) (x : Pocket) : (p.setPocket k x).changed = p.changed := rfl

@[simp] theorem Part.setChannel_dt (m : Meter) (c : Channel) : (p.setChannel m c).dt = p.dt := rfl
@[simp] theorem Part.setChannel_lcu (m : Meter) (c : Channel) : (p.setChannel m c).lcu = p.lcu := rfl
@[simp] theorem Part.setChannel_mc (m : Meter) (c : Channel) :
    (p.setChannel m c).mc = { p.mc with channels := p.mc.channels.set m c } := rfl
@[simp] theorem Part.setChannel_rsc (m : Meter) (c : Channel) : (p.setChannel m c).rsc = p.rsc := rfl
@[simp] theorem Part.setChannel_ps (m : Meter) (c : Channel) : (p.setChannel m c).ps = p.ps := rfl
@[simp] theorem Part.setChannel_gbt (m : Meter) (c : Channel) : (p.setChannel m c).gbt = p.gbt := rfl
@[simp] theorem Part.setChannel_lsq (m : Meter) (c : Channel) : (p.setChannel m c).lsq = p.lsq := rfl
@[simp] theorem Part.setChannel_rqx (m : Meter) (c : Channel) : (p.setChannel m c).rqx = p.rqx := rfl
@[simp] theorem Part.setChannel_jw (m : Meter) (c : Channel) : (p.setChannel m c).jw = p.jw := rfl
@[simp] theorem Part.setChannel_sa (m : Meter) (c : Channel) : (p.setChannel m c).sa = p.sa := rfl
@[simp] theorem Part.setChannel_attn (m : Meter) (c : Channel) : (p.setChannel m c).attn = p.attn := rfl
@[simp] theorem Part.setChannel_cfg (m : Meter) (c : Channel) : (p.setChannel m c).cfg = p.cfg := rfl
@[simp] theorem Part.setChannel_lct (m : Meter) (c : Channel) : (p.setChannel m c).lct = p.lct := rfl
@[simp] theorem Part.setChannel_draws (m : Meter) (c : Channel) : (p.setChannel m c).draws = p.draws := rfl

@[simp] theorem Part.setRef_dt (m : Meter) (r : RefMeter) : (p.setRef m r).dt = p.dt := rfl
@[simp] theorem Part.setRef_lcu (m : Meter) (r : RefMeter) : (p.setRef m r).lcu = p.lcu := rfl
@[simp] theorem Part.setRef_mc (m : Meter) (r : RefMeter) : (p.setRef m r).mc = p.mc := rfl
@[simp] theorem Part.setRef_rsc (m : Meter) (r : RefMeter) : (p.setRef m r).rsc = p.rsc.set m r := rfl
@[simp] theorem Part.setRef_ps (m : Meter) (r : RefMeter) : (p.setRef m r).ps = p.ps := rfl
@[simp] theorem Part.setRef_gbt (m : Meter) (r : RefMeter) : (p.setRef m r).gbt = p.gbt := rfl
@[simp] theorem Part.setRef_lsq (m : Meter) (r : RefMeter) : (p.setRef m r).lsq = p.lsq := rfl
@[simp] theorem Part.setRef_rqx (m : Meter) (r : RefMeter) : (p.setRef m r).rqx = p.rqx := rfl
@[simp] theorem Part.setRef_jw (m : Meter) (r : RefMeter) : (p.setRef m r).jw = p.jw := rfl
@[simp] theorem Part.setRef_sa (m : Meter) (r : RefMeter) : (p.setRef m r).sa = p.sa := rfl
@[simp] theorem Part.setRef_attn (m : Meter) (r : RefMeter) : (p.setRef m r).attn = p.attn := rfl
@[simp] theorem Part.setRef_cfg (m : Meter) (r : RefMeter) : (p.setRef m r).cfg = p.cfg := rfl
@[simp] theorem Part.setRef_lct (m : Meter) (r : RefMeter) : (p.setRef m r).lct = p.lct := rfl
@[simp] theorem Part.setRef_draws (m : Meter) (r : RefMeter) : (p.setRef m r).draws = p.draws := rfl

@[simp] theorem Part.setBin_dt (n : Nat) (b : BinEntry) : (p.setBin n b).dt = p.dt := rfl
@[simp] theorem Part.setBin_lcu (n : Nat) (b : BinEntry) : (p.setBin n b).lcu = p.lcu := rfl
@[simp] theorem Part.setBin_mc (n : Nat) (b : BinEntry) : (p.setBin n b).mc = p.mc := rfl
@[simp] theorem Part.setBin_rsc (n : Nat) (b : BinEntry) : (p.setBin n b).rsc = p.rsc := rfl
@[simp] theorem Part.setBin_ps (n : Nat) (b : BinEntry) : (p.setBin n b).ps = p.ps := rfl
@[simp] theorem Part.setBin_gbt (n : Nat) (b : BinEntry) :
    (p.setBin n b).gbt = { p.gbt with bins := p.gbt.bins.set n b } := rfl
@[simp] theorem Part.setBin_lsq (n : Nat) (b : BinEntry) : (p.setBin n b).lsq = p.lsq := rfl
@[simp] theorem Part.setBin_rqx (n : Nat) (b : BinEntry) : (p.setBin n b).rqx = p.rqx := rfl
@[simp] theorem Part.setBin_jw (n : Nat) (b : BinEntry) : (p.setBin n b).jw = p.jw := rfl
@[simp] theorem Part.setBin_sa (n : Nat) (b : BinEntry) : (p.setBin n b).sa = p.sa := rfl
@[simp] theorem Part.setBin_attn (n : Nat) (b : BinEntry) : (p.setBin n b).attn = p.attn := rfl
@[simp] theorem Part.setBin_cfg (n : Nat) (b : BinEntry) : (p.setBin n b).cfg = p.cfg := rfl
@[simp] theorem Part.setBin_lct (n : Nat) (b : BinEntry) : (p.setBin n b).lct = p.lct := rfl
@[simp] theorem Part.setBin_draws (n : Nat) (b : BinEntry) : (p.setBin n b).draws = p.draws := rfl

@[simp] theorem Part.setPulse_dt (n : Nat) (x : Pulse) : (p.setPulse n x).dt = p.dt := rfl
@[simp] theorem Part.setPulse_lcu (n : Nat) (x : Pulse) : (p.setPulse n x).lcu = p.lcu := rfl
@[simp] theorem Part.setPulse_mc (n : Nat) (x : Pulse) : (p.setPulse n x).mc = p.mc := rfl
@[simp] theorem Part.setPulse_rsc (n : Nat) (x : Pulse) : (p.setPulse n x).rsc = p.rsc := rfl
@[simp] theorem Part.setPulse_ps (n : Nat) (x : Pulse) : (p.setPulse n x).ps = p.ps := rfl
@[simp] theorem Part.setPulse_gbt (n : Nat) (x : Pulse) :
    (p.setPulse n x).gbt = { p.gbt with pulses := p.gbt.pulses.set n x } := rfl
@[simp] theorem Part.setPulse_lsq (n : Nat) (x : Pulse) : (p.setPulse n x).lsq = p.lsq := rfl
@[simp] theorem Part.setPulse_rqx (n : Nat) (x : Pulse) : (p.setPulse n x).rqx = p.rqx := rfl
@[simp] theorem Part.setPulse_jw (n : Nat) (x : Pulse) : (p.setPulse n x).jw = p.jw := rfl
@[simp] theorem Part.setPulse_sa (n : Nat) (x : Pulse) : (p.setPulse n x).sa = p.sa := rfl
@[simp] theorem Part.setPulse_attn (n : Nat) (x : Pulse) : (p.setPulse n x).attn = p.attn := rfl
@[simp] theorem Part.setPulse_cfg (n : Nat) (x : Pulse) : (p.setPulse n x).cfg = p.cfg := rfl
@[simp] theorem Part.setPulse_lct (n : Nat) (x : Pulse) : (p.setPulse n x).lct = p.lct := rfl
@[simp] theorem Part.setPulse_draws (n : Nat) (x : Pulse) : (p.setPulse n x).draws = p.draws := rfl
@[simp] theorem Part.setPulse_changed (n : Nat) (x : Pulse) : (p.setPulse n x).changed = p.changed := rfl

@[simp] theorem Part.setSlot_dt (s : SlotId) (x : PlanSlot) : (p.setSlot s x).dt = p.dt := rfl
@[simp] theorem Part.setSlot_lcu (s : SlotId) (x : PlanSlot) : (p.setSlot s x).lcu = p.lcu := rfl
@[simp] theorem Part.setSlot_mc (s : SlotId) (x : PlanSlot) : (p.setSlot s x).mc = p.mc := rfl
@[simp] theorem Part.setSlot_rsc (s : SlotId) (x : PlanSlot) : (p.setSlot s x).rsc = p.rsc := rfl
@[simp] theorem Part.setSlot_ps (s : SlotId) (x : PlanSlot) : (p.setSlot s x).ps = p.ps.setSlot s x := rfl
@[simp] theorem Part.setSlot_gbt (s : SlotId) (x : PlanSlot) : (p.setSlot s x).gbt = p.gbt := rfl
@[simp] theorem Part.setSlot_lsq (s : SlotId) (x : PlanSlot) : (p.setSlot s x).lsq = p.lsq := rfl
@[simp] theorem Part.setSlot_rqx (s : SlotId) (x : PlanSlot) : (p.setSlot s x).rqx = p.rqx := rfl
@[simp] theorem Part.setSlot_jw (s : SlotId) (x : PlanSlot) : (p.setSlot s x).jw = p.jw := rfl
@[simp] theorem Part.setSlot_sa (s : SlotId) (x : PlanSlot) : (p.setSlot s x).sa = p.sa := rfl
@[simp] theorem Part.setSlot_attn (s : SlotId) (x : PlanSlot) : (p.setSlot s x).attn = p.attn := rfl
@[simp] theorem Part.setSlot_cfg (s : SlotId) (x : PlanSlot) : (p.setSlot s x).cfg = p.cfg := rfl
@[simp] theorem Part.setSlot_lct (s : SlotId) (x : PlanSlot) : (p.setSlot s x).lct = p.lct := rfl
@[simp] theorem Part.setSlot_draws (s : SlotId) (x : PlanSlot) : (p.setSlot s x).draws = p.draws := rfl

@[simp] theorem Part.setPs_dt (x : Ps) : (p.setPs x).dt = p.dt := rfl
@[simp] theorem Part.setPs_lcu (x : Ps) : (p.setPs x).lcu = p.lcu := rfl
@[simp] theorem Part.setPs_mc (x : Ps) : (p.setPs x).mc = p.mc := rfl
@[simp] theorem Part.setPs_rsc (x : Ps) : (p.setPs x).rsc = p.rsc := rfl
@[simp] theorem Part.setPs_ps (x : Ps) : (p.setPs x).ps = x := rfl
@[simp] theorem Part.setPs_gbt (x : Ps) : (p.setPs x).gbt = p.gbt := rfl
@[simp] theorem Part.setPs_lsq (x : Ps) : (p.setPs x).lsq = p.lsq := rfl
@[simp] theorem Part.setPs_rqx (x : Ps) : (p.setPs x).rqx = p.rqx := rfl
@[simp] theorem Part.setPs_jw (x : Ps) : (p.setPs x).jw = p.jw := rfl
@[simp] theorem Part.setPs_sa (x : Ps) : (p.setPs x).sa = p.sa := rfl
@[simp] theorem Part.setPs_attn (x : Ps) : (p.setPs x).attn = p.attn := rfl
@[simp] theorem Part.setPs_cfg (x : Ps) : (p.setPs x).cfg = p.cfg := rfl
@[simp] theorem Part.setPs_lct (x : Ps) : (p.setPs x).lct = p.lct := rfl
@[simp] theorem Part.setPs_draws (x : Ps) : (p.setPs x).draws = p.draws := rfl

@[simp] theorem Part.setLsq_dt (x : Lsq) : (p.setLsq x).dt = p.dt := rfl
@[simp] theorem Part.setLsq_lcu (x : Lsq) : (p.setLsq x).lcu = p.lcu := rfl
@[simp] theorem Part.setLsq_mc (x : Lsq) : (p.setLsq x).mc = p.mc := rfl
@[simp] theorem Part.setLsq_rsc (x : Lsq) : (p.setLsq x).rsc = p.rsc := rfl
@[simp] theorem Part.setLsq_ps (x : Lsq) : (p.setLsq x).ps = p.ps := rfl
@[simp] theorem Part.setLsq_gbt (x : Lsq) : (p.setLsq x).gbt = p.gbt := rfl
@[simp] theorem Part.setLsq_lsq (x : Lsq) : (p.setLsq x).lsq = x := rfl
@[simp] theorem Part.setLsq_rqx (x : Lsq) : (p.setLsq x).rqx = p.rqx := rfl
@[simp] theorem Part.setLsq_jw (x : Lsq) : (p.setLsq x).jw = p.jw := rfl
@[simp] theorem Part.setLsq_sa (x : Lsq) : (p.setLsq x).sa = p.sa := rfl
@[simp] theorem Part.setLsq_attn (x : Lsq) : (p.setLsq x).attn = p.attn := rfl
@[simp] theorem Part.setLsq_cfg (x : Lsq) : (p.setLsq x).cfg = p.cfg := rfl
@[simp] theorem Part.setLsq_lct (x : Lsq) : (p.setLsq x).lct = p.lct := rfl
@[simp] theorem Part.setLsq_draws (x : Lsq) : (p.setLsq x).draws = p.draws := rfl

@[simp] theorem Part.setCfg_dt (x : Cfg) : (p.setCfg x).dt = p.dt := rfl
@[simp] theorem Part.setCfg_lcu (x : Cfg) : (p.setCfg x).lcu = p.lcu := rfl
@[simp] theorem Part.setCfg_mc (x : Cfg) : (p.setCfg x).mc = p.mc := rfl
@[simp] theorem Part.setCfg_rsc (x : Cfg) : (p.setCfg x).rsc = p.rsc := rfl
@[simp] theorem Part.setCfg_ps (x : Cfg) : (p.setCfg x).ps = p.ps := rfl
@[simp] theorem Part.setCfg_gbt (x : Cfg) : (p.setCfg x).gbt = p.gbt := rfl
@[simp] theorem Part.setCfg_lsq (x : Cfg) : (p.setCfg x).lsq = p.lsq := rfl
@[simp] theorem Part.setCfg_rqx (x : Cfg) : (p.setCfg x).rqx = p.rqx := rfl
@[simp] theorem Part.setCfg_jw (x : Cfg) : (p.setCfg x).jw = p.jw := rfl
@[simp] theorem Part.setCfg_sa (x : Cfg) : (p.setCfg x).sa = p.sa := rfl
@[simp] theorem Part.setCfg_attn (x : Cfg) : (p.setCfg x).attn = p.attn := rfl
@[simp] theorem Part.setCfg_cfg (x : Cfg) : (p.setCfg x).cfg = x := rfl
@[simp] theorem Part.setCfg_lct (x : Cfg) : (p.setCfg x).lct = p.lct := rfl
@[simp] theorem Part.setCfg_draws (x : Cfg) : (p.setCfg x).draws = p.draws := rfl

@[simp] theorem Part.setNextSequence_dt (n : Nat) : (p.setNextSequence n).dt = p.dt := rfl
@[simp] theorem Part.setNextSequence_lcu (n : Nat) :
    (p.setNextSequence n).lcu = { p.lcu with nextSequence := n } := rfl
@[simp] theorem Part.setNextSequence_mc (n : Nat) : (p.setNextSequence n).mc = p.mc := rfl
@[simp] theorem Part.setNextSequence_rsc (n : Nat) : (p.setNextSequence n).rsc = p.rsc := rfl
@[simp] theorem Part.setNextSequence_ps (n : Nat) : (p.setNextSequence n).ps = p.ps := rfl
@[simp] theorem Part.setNextSequence_gbt (n : Nat) : (p.setNextSequence n).gbt = p.gbt := rfl
@[simp] theorem Part.setNextSequence_lsq (n : Nat) : (p.setNextSequence n).lsq = p.lsq := rfl
@[simp] theorem Part.setNextSequence_rqx (n : Nat) : (p.setNextSequence n).rqx = p.rqx := rfl
@[simp] theorem Part.setNextSequence_jw (n : Nat) : (p.setNextSequence n).jw = p.jw := rfl
@[simp] theorem Part.setNextSequence_sa (n : Nat) : (p.setNextSequence n).sa = p.sa := rfl
@[simp] theorem Part.setNextSequence_attn (n : Nat) : (p.setNextSequence n).attn = p.attn := rfl
@[simp] theorem Part.setNextSequence_cfg (n : Nat) : (p.setNextSequence n).cfg = p.cfg := rfl
@[simp] theorem Part.setNextSequence_lct (n : Nat) : (p.setNextSequence n).lct = p.lct := rfl
@[simp] theorem Part.setNextSequence_draws (n : Nat) : (p.setNextSequence n).draws = p.draws := rfl

@[simp] theorem Part.setStartLot_dt (w : Option StartLotWork) : (p.setStartLot w).dt = p.dt := rfl
@[simp] theorem Part.setStartLot_lcu (w : Option StartLotWork) : (p.setStartLot w).lcu = p.lcu := rfl
@[simp] theorem Part.setStartLot_mc (w : Option StartLotWork) : (p.setStartLot w).mc = p.mc := rfl
@[simp] theorem Part.setStartLot_rsc (w : Option StartLotWork) : (p.setStartLot w).rsc = p.rsc := rfl
@[simp] theorem Part.setStartLot_ps (w : Option StartLotWork) : (p.setStartLot w).ps = p.ps := rfl
@[simp] theorem Part.setStartLot_gbt (w : Option StartLotWork) : (p.setStartLot w).gbt = p.gbt := rfl
@[simp] theorem Part.setStartLot_lsq (w : Option StartLotWork) :
    (p.setStartLot w).lsq = { p.lsq with startLot := w } := rfl
@[simp] theorem Part.setStartLot_rqx (w : Option StartLotWork) : (p.setStartLot w).rqx = p.rqx := rfl
@[simp] theorem Part.setStartLot_jw (w : Option StartLotWork) : (p.setStartLot w).jw = p.jw := rfl
@[simp] theorem Part.setStartLot_sa (w : Option StartLotWork) : (p.setStartLot w).sa = p.sa := rfl
@[simp] theorem Part.setStartLot_attn (w : Option StartLotWork) : (p.setStartLot w).attn = p.attn := rfl
@[simp] theorem Part.setStartLot_cfg (w : Option StartLotWork) : (p.setStartLot w).cfg = p.cfg := rfl
@[simp] theorem Part.setStartLot_lct (w : Option StartLotWork) : (p.setStartLot w).lct = p.lct := rfl
@[simp] theorem Part.setStartLot_draws (w : Option StartLotWork) : (p.setStartLot w).draws = p.draws := rfl
@[simp] theorem Part.setStartLot_changed (w : Option StartLotWork) : (p.setStartLot w).changed = p.changed := rfl

@[simp] theorem Part.fileJournal_dt (r : List StoreRequest) : (p.fileJournal r).dt = p.dt := rfl
@[simp] theorem Part.fileJournal_lcu (r : List StoreRequest) : (p.fileJournal r).lcu = p.lcu := rfl
@[simp] theorem Part.fileJournal_mc (r : List StoreRequest) : (p.fileJournal r).mc = p.mc := rfl
@[simp] theorem Part.fileJournal_rsc (r : List StoreRequest) : (p.fileJournal r).rsc = p.rsc := rfl
@[simp] theorem Part.fileJournal_ps (r : List StoreRequest) : (p.fileJournal r).ps = p.ps := rfl
@[simp] theorem Part.fileJournal_gbt (r : List StoreRequest) : (p.fileJournal r).gbt = p.gbt := rfl
@[simp] theorem Part.fileJournal_lsq (r : List StoreRequest) : (p.fileJournal r).lsq = p.lsq := rfl
@[simp] theorem Part.fileJournal_rqx (r : List StoreRequest) : (p.fileJournal r).rqx = p.rqx := rfl
@[simp] theorem Part.fileJournal_jw (r : List StoreRequest) : (p.fileJournal r).jw = p.jw := rfl
@[simp] theorem Part.fileJournal_sa (r : List StoreRequest) :
    (p.fileJournal r).sa = { p.sa with journal := p.sa.journal ++ r } := rfl
@[simp] theorem Part.fileJournal_attn (r : List StoreRequest) : (p.fileJournal r).attn = p.attn := rfl
@[simp] theorem Part.fileJournal_cfg (r : List StoreRequest) : (p.fileJournal r).cfg = p.cfg := rfl
@[simp] theorem Part.fileJournal_lct (r : List StoreRequest) : (p.fileJournal r).lct = p.lct := rfl
@[simp] theorem Part.fileJournal_draws (r : List StoreRequest) : (p.fileJournal r).draws = p.draws := rfl
@[simp] theorem Part.fileJournal_changed (r : List StoreRequest) : (p.fileJournal r).changed = p.changed := rfl

@[simp] theorem Part.fileRequest_dt (r : List StoreRequest) : (p.fileRequest r).dt = p.dt := rfl
@[simp] theorem Part.fileRequest_lcu (r : List StoreRequest) : (p.fileRequest r).lcu = p.lcu := rfl
@[simp] theorem Part.fileRequest_mc (r : List StoreRequest) : (p.fileRequest r).mc = p.mc := rfl
@[simp] theorem Part.fileRequest_rsc (r : List StoreRequest) : (p.fileRequest r).rsc = p.rsc := rfl
@[simp] theorem Part.fileRequest_ps (r : List StoreRequest) : (p.fileRequest r).ps = p.ps := rfl
@[simp] theorem Part.fileRequest_gbt (r : List StoreRequest) : (p.fileRequest r).gbt = p.gbt := rfl
@[simp] theorem Part.fileRequest_lsq (r : List StoreRequest) : (p.fileRequest r).lsq = p.lsq := rfl
@[simp] theorem Part.fileRequest_rqx (r : List StoreRequest) : (p.fileRequest r).rqx = p.rqx := rfl
@[simp] theorem Part.fileRequest_jw (r : List StoreRequest) : (p.fileRequest r).jw = p.jw := rfl
@[simp] theorem Part.fileRequest_sa (r : List StoreRequest) :
    (p.fileRequest r).sa = { p.sa with request := p.sa.request ++ r } := rfl
@[simp] theorem Part.fileRequest_attn (r : List StoreRequest) : (p.fileRequest r).attn = p.attn := rfl
@[simp] theorem Part.fileRequest_cfg (r : List StoreRequest) : (p.fileRequest r).cfg = p.cfg := rfl
@[simp] theorem Part.fileRequest_lct (r : List StoreRequest) : (p.fileRequest r).lct = p.lct := rfl
@[simp] theorem Part.fileRequest_draws (r : List StoreRequest) : (p.fileRequest r).draws = p.draws := rfl
@[simp] theorem Part.fileRequest_changed (r : List StoreRequest) : (p.fileRequest r).changed = p.changed := rfl

@[simp] theorem Part.fileBulk_dt (r : List StoreRequest) : (p.fileBulk r).dt = p.dt := rfl
@[simp] theorem Part.fileBulk_lcu (r : List StoreRequest) : (p.fileBulk r).lcu = p.lcu := rfl
@[simp] theorem Part.fileBulk_mc (r : List StoreRequest) : (p.fileBulk r).mc = p.mc := rfl
@[simp] theorem Part.fileBulk_rsc (r : List StoreRequest) : (p.fileBulk r).rsc = p.rsc := rfl
@[simp] theorem Part.fileBulk_ps (r : List StoreRequest) : (p.fileBulk r).ps = p.ps := rfl
@[simp] theorem Part.fileBulk_gbt (r : List StoreRequest) : (p.fileBulk r).gbt = p.gbt := rfl
@[simp] theorem Part.fileBulk_lsq (r : List StoreRequest) : (p.fileBulk r).lsq = p.lsq := rfl
@[simp] theorem Part.fileBulk_rqx (r : List StoreRequest) : (p.fileBulk r).rqx = p.rqx := rfl
@[simp] theorem Part.fileBulk_jw (r : List StoreRequest) : (p.fileBulk r).jw = p.jw := rfl
@[simp] theorem Part.fileBulk_sa (r : List StoreRequest) :
    (p.fileBulk r).sa = { p.sa with bulk := p.sa.bulk ++ r } := rfl
@[simp] theorem Part.fileBulk_attn (r : List StoreRequest) : (p.fileBulk r).attn = p.attn := rfl
@[simp] theorem Part.fileBulk_cfg (r : List StoreRequest) : (p.fileBulk r).cfg = p.cfg := rfl
@[simp] theorem Part.fileBulk_lct (r : List StoreRequest) : (p.fileBulk r).lct = p.lct := rfl
@[simp] theorem Part.fileBulk_draws (r : List StoreRequest) : (p.fileBulk r).draws = p.draws := rfl
@[simp] theorem Part.fileBulk_changed (r : List StoreRequest) : (p.fileBulk r).changed = p.changed := rfl

@[simp] theorem Part.countLot_dt (f : LotCounters → LotCounters) : (p.countLot f).dt = p.dt := rfl
@[simp] theorem Part.countLot_lcu (f : LotCounters → LotCounters) :
    (p.countLot f).lcu = { p.lcu with counters := f p.lcu.counters } := rfl
@[simp] theorem Part.countLot_mc (f : LotCounters → LotCounters) : (p.countLot f).mc = p.mc := rfl
@[simp] theorem Part.countLot_rsc (f : LotCounters → LotCounters) : (p.countLot f).rsc = p.rsc := rfl
@[simp] theorem Part.countLot_ps (f : LotCounters → LotCounters) : (p.countLot f).ps = p.ps := rfl
@[simp] theorem Part.countLot_gbt (f : LotCounters → LotCounters) : (p.countLot f).gbt = p.gbt := rfl
@[simp] theorem Part.countLot_lsq (f : LotCounters → LotCounters) : (p.countLot f).lsq = p.lsq := rfl
@[simp] theorem Part.countLot_rqx (f : LotCounters → LotCounters) : (p.countLot f).rqx = p.rqx := rfl
@[simp] theorem Part.countLot_jw (f : LotCounters → LotCounters) : (p.countLot f).jw = p.jw := rfl
@[simp] theorem Part.countLot_sa (f : LotCounters → LotCounters) : (p.countLot f).sa = p.sa := rfl
@[simp] theorem Part.countLot_attn (f : LotCounters → LotCounters) : (p.countLot f).attn = p.attn := rfl
@[simp] theorem Part.countLot_cfg (f : LotCounters → LotCounters) : (p.countLot f).cfg = p.cfg := rfl
@[simp] theorem Part.countLot_lct (f : LotCounters → LotCounters) : (p.countLot f).lct = p.lct := rfl
@[simp] theorem Part.countLot_draws (f : LotCounters → LotCounters) : (p.countLot f).draws = p.draws := rfl
@[simp] theorem Part.countLot_changed (f : LotCounters → LotCounters) : (p.countLot f).changed = p.changed := rfl

@[simp] theorem Part.setTimers_dt (t : Timers) : (p.setTimers t).dt = p.dt := rfl
@[simp] theorem Part.setTimers_lcu (t : Timers) : (p.setTimers t).lcu = p.lcu := rfl
@[simp] theorem Part.setTimers_mc (t : Timers) : (p.setTimers t).mc = p.mc := rfl
@[simp] theorem Part.setTimers_rsc (t : Timers) : (p.setTimers t).rsc = p.rsc := rfl
@[simp] theorem Part.setTimers_ps (t : Timers) : (p.setTimers t).ps = p.ps := rfl
@[simp] theorem Part.setTimers_gbt (t : Timers) : (p.setTimers t).gbt = p.gbt := rfl
@[simp] theorem Part.setTimers_lsq (t : Timers) : (p.setTimers t).lsq = p.lsq := rfl
@[simp] theorem Part.setTimers_rqx (t : Timers) : (p.setTimers t).rqx = p.rqx := rfl
@[simp] theorem Part.setTimers_jw (t : Timers) : (p.setTimers t).jw = p.jw := rfl
@[simp] theorem Part.setTimers_sa (t : Timers) : (p.setTimers t).sa = p.sa := rfl
@[simp] theorem Part.setTimers_attn (t : Timers) : (p.setTimers t).attn = p.attn := rfl
@[simp] theorem Part.setTimers_cfg (t : Timers) : (p.setTimers t).cfg = p.cfg := rfl
@[simp] theorem Part.setTimers_lct (t : Timers) : (p.setTimers t).lct = { p.lct with timers := t } := rfl
@[simp] theorem Part.setTimers_draws (t : Timers) : (p.setTimers t).draws = p.draws := rfl
@[simp] theorem Part.setTimers_changed (t : Timers) : (p.setTimers t).changed = p.changed := rfl

@[simp] theorem Part.setJam_dt (t : Timer) : (p.setJam t).dt = p.dt := rfl
@[simp] theorem Part.setJam_lcu (t : Timer) : (p.setJam t).lcu = p.lcu := rfl
@[simp] theorem Part.setJam_mc (t : Timer) : (p.setJam t).mc = p.mc := rfl
@[simp] theorem Part.setJam_rsc (t : Timer) : (p.setJam t).rsc = p.rsc := rfl
@[simp] theorem Part.setJam_ps (t : Timer) : (p.setJam t).ps = p.ps := rfl
@[simp] theorem Part.setJam_gbt (t : Timer) : (p.setJam t).gbt = p.gbt := rfl
@[simp] theorem Part.setJam_lsq (t : Timer) : (p.setJam t).lsq = p.lsq := rfl
@[simp] theorem Part.setJam_rqx (t : Timer) : (p.setJam t).rqx = p.rqx := rfl
@[simp] theorem Part.setJam_jw (t : Timer) : (p.setJam t).jw = p.jw := rfl
@[simp] theorem Part.setJam_sa (t : Timer) : (p.setJam t).sa = p.sa := rfl
@[simp] theorem Part.setJam_attn (t : Timer) : (p.setJam t).attn = p.attn := rfl
@[simp] theorem Part.setJam_cfg (t : Timer) : (p.setJam t).cfg = p.cfg := rfl
@[simp] theorem Part.setJam_lct (t : Timer) :
    (p.setJam t).lct = { p.lct with timers := { p.lct.timers with jam := t } } := rfl
@[simp] theorem Part.setJam_draws (t : Timer) : (p.setJam t).draws = p.draws := rfl
@[simp] theorem Part.setJam_changed (t : Timer) : (p.setJam t).changed = p.changed := rfl

@[simp] theorem Part.setFeedTimer_dt (t : Timer) : (p.setFeedTimer t).dt = p.dt := rfl
@[simp] theorem Part.setFeedTimer_lcu (t : Timer) : (p.setFeedTimer t).lcu = p.lcu := rfl
@[simp] theorem Part.setFeedTimer_mc (t : Timer) : (p.setFeedTimer t).mc = p.mc := rfl
@[simp] theorem Part.setFeedTimer_rsc (t : Timer) : (p.setFeedTimer t).rsc = p.rsc := rfl
@[simp] theorem Part.setFeedTimer_ps (t : Timer) : (p.setFeedTimer t).ps = p.ps := rfl
@[simp] theorem Part.setFeedTimer_gbt (t : Timer) : (p.setFeedTimer t).gbt = p.gbt := rfl
@[simp] theorem Part.setFeedTimer_lsq (t : Timer) : (p.setFeedTimer t).lsq = p.lsq := rfl
@[simp] theorem Part.setFeedTimer_rqx (t : Timer) : (p.setFeedTimer t).rqx = p.rqx := rfl
@[simp] theorem Part.setFeedTimer_jw (t : Timer) : (p.setFeedTimer t).jw = p.jw := rfl
@[simp] theorem Part.setFeedTimer_sa (t : Timer) : (p.setFeedTimer t).sa = p.sa := rfl
@[simp] theorem Part.setFeedTimer_attn (t : Timer) : (p.setFeedTimer t).attn = p.attn := rfl
@[simp] theorem Part.setFeedTimer_cfg (t : Timer) : (p.setFeedTimer t).cfg = p.cfg := rfl
@[simp] theorem Part.setFeedTimer_lct (t : Timer) :
    (p.setFeedTimer t).lct = { p.lct with timers := { p.lct.timers with feed := t } } := rfl
@[simp] theorem Part.setFeedTimer_draws (t : Timer) : (p.setFeedTimer t).draws = p.draws := rfl
@[simp] theorem Part.setFeedTimer_changed (t : Timer) : (p.setFeedTimer t).changed = p.changed := rfl

@[simp] theorem Part.setCatchTimer_dt (t : Timer) : (p.setCatchTimer t).dt = p.dt := rfl
@[simp] theorem Part.setCatchTimer_lcu (t : Timer) : (p.setCatchTimer t).lcu = p.lcu := rfl
@[simp] theorem Part.setCatchTimer_mc (t : Timer) : (p.setCatchTimer t).mc = p.mc := rfl
@[simp] theorem Part.setCatchTimer_rsc (t : Timer) : (p.setCatchTimer t).rsc = p.rsc := rfl
@[simp] theorem Part.setCatchTimer_ps (t : Timer) : (p.setCatchTimer t).ps = p.ps := rfl
@[simp] theorem Part.setCatchTimer_gbt (t : Timer) : (p.setCatchTimer t).gbt = p.gbt := rfl
@[simp] theorem Part.setCatchTimer_lsq (t : Timer) : (p.setCatchTimer t).lsq = p.lsq := rfl
@[simp] theorem Part.setCatchTimer_rqx (t : Timer) : (p.setCatchTimer t).rqx = p.rqx := rfl
@[simp] theorem Part.setCatchTimer_jw (t : Timer) : (p.setCatchTimer t).jw = p.jw := rfl
@[simp] theorem Part.setCatchTimer_sa (t : Timer) : (p.setCatchTimer t).sa = p.sa := rfl
@[simp] theorem Part.setCatchTimer_attn (t : Timer) : (p.setCatchTimer t).attn = p.attn := rfl
@[simp] theorem Part.setCatchTimer_cfg (t : Timer) : (p.setCatchTimer t).cfg = p.cfg := rfl
@[simp] theorem Part.setCatchTimer_lct (t : Timer) :
    (p.setCatchTimer t).lct = { p.lct with timers := { p.lct.timers with clearJet := t } } := rfl
@[simp] theorem Part.setCatchTimer_draws (t : Timer) : (p.setCatchTimer t).draws = p.draws := rfl
@[simp] theorem Part.setCatchTimer_changed (t : Timer) : (p.setCatchTimer t).changed = p.changed := rfl

@[simp] theorem Part.setStarvation_dt (t : Timer) : (p.setStarvation t).dt = p.dt := rfl
@[simp] theorem Part.setStarvation_lcu (t : Timer) : (p.setStarvation t).lcu = p.lcu := rfl
@[simp] theorem Part.setStarvation_mc (t : Timer) : (p.setStarvation t).mc = p.mc := rfl
@[simp] theorem Part.setStarvation_rsc (t : Timer) : (p.setStarvation t).rsc = p.rsc := rfl
@[simp] theorem Part.setStarvation_ps (t : Timer) : (p.setStarvation t).ps = p.ps := rfl
@[simp] theorem Part.setStarvation_gbt (t : Timer) : (p.setStarvation t).gbt = p.gbt := rfl
@[simp] theorem Part.setStarvation_lsq (t : Timer) : (p.setStarvation t).lsq = p.lsq := rfl
@[simp] theorem Part.setStarvation_rqx (t : Timer) : (p.setStarvation t).rqx = p.rqx := rfl
@[simp] theorem Part.setStarvation_jw (t : Timer) : (p.setStarvation t).jw = p.jw := rfl
@[simp] theorem Part.setStarvation_sa (t : Timer) : (p.setStarvation t).sa = p.sa := rfl
@[simp] theorem Part.setStarvation_attn (t : Timer) : (p.setStarvation t).attn = p.attn := rfl
@[simp] theorem Part.setStarvation_cfg (t : Timer) : (p.setStarvation t).cfg = p.cfg := rfl
@[simp] theorem Part.setStarvation_lct (t : Timer) :
    (p.setStarvation t).lct = { p.lct with timers := { p.lct.timers with starvation := t } } := rfl
@[simp] theorem Part.setStarvation_draws (t : Timer) : (p.setStarvation t).draws = p.draws := rfl
@[simp] theorem Part.setStarvation_changed (t : Timer) : (p.setStarvation t).changed = p.changed := rfl

@[simp] theorem Part.setAge_dt (t : Timer) : (p.setAge t).dt = p.dt := rfl
@[simp] theorem Part.setAge_lcu (t : Timer) : (p.setAge t).lcu = p.lcu := rfl
@[simp] theorem Part.setAge_mc (t : Timer) : (p.setAge t).mc = p.mc := rfl
@[simp] theorem Part.setAge_rsc (t : Timer) : (p.setAge t).rsc = p.rsc := rfl
@[simp] theorem Part.setAge_ps (t : Timer) : (p.setAge t).ps = p.ps := rfl
@[simp] theorem Part.setAge_gbt (t : Timer) : (p.setAge t).gbt = p.gbt := rfl
@[simp] theorem Part.setAge_lsq (t : Timer) : (p.setAge t).lsq = p.lsq := rfl
@[simp] theorem Part.setAge_rqx (t : Timer) : (p.setAge t).rqx = p.rqx := rfl
@[simp] theorem Part.setAge_jw (t : Timer) : (p.setAge t).jw = p.jw := rfl
@[simp] theorem Part.setAge_sa (t : Timer) : (p.setAge t).sa = p.sa := rfl
@[simp] theorem Part.setAge_attn (t : Timer) : (p.setAge t).attn = p.attn := rfl
@[simp] theorem Part.setAge_cfg (t : Timer) : (p.setAge t).cfg = p.cfg := rfl
@[simp] theorem Part.setAge_lct (t : Timer) :
    (p.setAge t).lct = { p.lct with timers := { p.lct.timers with age := t } } := rfl
@[simp] theorem Part.setAge_draws (t : Timer) : (p.setAge t).draws = p.draws := rfl
@[simp] theorem Part.setAge_changed (t : Timer) : (p.setAge t).changed = p.changed := rfl

@[simp] theorem Part.setTakeTimer_dt (m : Meter) (t : Timer) : (p.setTakeTimer m t).dt = p.dt := rfl
@[simp] theorem Part.setTakeTimer_lcu (m : Meter) (t : Timer) : (p.setTakeTimer m t).lcu = p.lcu := rfl
@[simp] theorem Part.setTakeTimer_mc (m : Meter) (t : Timer) : (p.setTakeTimer m t).mc = p.mc := rfl
@[simp] theorem Part.setTakeTimer_rsc (m : Meter) (t : Timer) : (p.setTakeTimer m t).rsc = p.rsc := rfl
@[simp] theorem Part.setTakeTimer_ps (m : Meter) (t : Timer) : (p.setTakeTimer m t).ps = p.ps := rfl
@[simp] theorem Part.setTakeTimer_gbt (m : Meter) (t : Timer) : (p.setTakeTimer m t).gbt = p.gbt := rfl
@[simp] theorem Part.setTakeTimer_lsq (m : Meter) (t : Timer) : (p.setTakeTimer m t).lsq = p.lsq := rfl
@[simp] theorem Part.setTakeTimer_rqx (m : Meter) (t : Timer) : (p.setTakeTimer m t).rqx = p.rqx := rfl
@[simp] theorem Part.setTakeTimer_jw (m : Meter) (t : Timer) : (p.setTakeTimer m t).jw = p.jw := rfl
@[simp] theorem Part.setTakeTimer_sa (m : Meter) (t : Timer) : (p.setTakeTimer m t).sa = p.sa := rfl
@[simp] theorem Part.setTakeTimer_attn (m : Meter) (t : Timer) : (p.setTakeTimer m t).attn = p.attn := rfl
@[simp] theorem Part.setTakeTimer_cfg (m : Meter) (t : Timer) : (p.setTakeTimer m t).cfg = p.cfg := rfl
@[simp] theorem Part.setTakeTimer_lct (m : Meter) (t : Timer) :
    (p.setTakeTimer m t).lct = { p.lct with timers := { p.lct.timers with take := p.lct.timers.take.set m t } } := rfl
@[simp] theorem Part.setTakeTimer_draws (m : Meter) (t : Timer) : (p.setTakeTimer m t).draws = p.draws := rfl
@[simp] theorem Part.setTakeTimer_changed (m : Meter) (t : Timer) : (p.setTakeTimer m t).changed = p.changed := rfl

@[simp] theorem Part.setPulseTimer_dt (n : Nat) (t : Timer) : (p.setPulseTimer n t).dt = p.dt := rfl
@[simp] theorem Part.setPulseTimer_lcu (n : Nat) (t : Timer) : (p.setPulseTimer n t).lcu = p.lcu := rfl
@[simp] theorem Part.setPulseTimer_mc (n : Nat) (t : Timer) : (p.setPulseTimer n t).mc = p.mc := rfl
@[simp] theorem Part.setPulseTimer_rsc (n : Nat) (t : Timer) : (p.setPulseTimer n t).rsc = p.rsc := rfl
@[simp] theorem Part.setPulseTimer_ps (n : Nat) (t : Timer) : (p.setPulseTimer n t).ps = p.ps := rfl
@[simp] theorem Part.setPulseTimer_gbt (n : Nat) (t : Timer) : (p.setPulseTimer n t).gbt = p.gbt := rfl
@[simp] theorem Part.setPulseTimer_lsq (n : Nat) (t : Timer) : (p.setPulseTimer n t).lsq = p.lsq := rfl
@[simp] theorem Part.setPulseTimer_rqx (n : Nat) (t : Timer) : (p.setPulseTimer n t).rqx = p.rqx := rfl
@[simp] theorem Part.setPulseTimer_jw (n : Nat) (t : Timer) : (p.setPulseTimer n t).jw = p.jw := rfl
@[simp] theorem Part.setPulseTimer_sa (n : Nat) (t : Timer) : (p.setPulseTimer n t).sa = p.sa := rfl
@[simp] theorem Part.setPulseTimer_attn (n : Nat) (t : Timer) : (p.setPulseTimer n t).attn = p.attn := rfl
@[simp] theorem Part.setPulseTimer_cfg (n : Nat) (t : Timer) : (p.setPulseTimer n t).cfg = p.cfg := rfl
@[simp] theorem Part.setPulseTimer_lct (n : Nat) (t : Timer) :
    (p.setPulseTimer n t).lct = { p.lct with timers := { p.lct.timers with pulse := p.lct.timers.pulse.set n t } } := rfl
@[simp] theorem Part.setPulseTimer_draws (n : Nat) (t : Timer) : (p.setPulseTimer n t).draws = p.draws := rfl
@[simp] theorem Part.setPulseTimer_changed (n : Nat) (t : Timer) : (p.setPulseTimer n t).changed = p.changed := rfl

@[simp] theorem Part.setLine_dt (l : LineId) (v : Line) : (p.setLine l v).dt = p.dt := rfl
@[simp] theorem Part.setLine_lcu (l : LineId) (v : Line) : (p.setLine l v).lcu = p.lcu := rfl
@[simp] theorem Part.setLine_mc (l : LineId) (v : Line) : (p.setLine l v).mc = p.mc := rfl
@[simp] theorem Part.setLine_rsc (l : LineId) (v : Line) : (p.setLine l v).rsc = p.rsc := rfl
@[simp] theorem Part.setLine_ps (l : LineId) (v : Line) : (p.setLine l v).ps = p.ps := rfl
@[simp] theorem Part.setLine_gbt (l : LineId) (v : Line) : (p.setLine l v).gbt = p.gbt := rfl
@[simp] theorem Part.setLine_lsq (l : LineId) (v : Line) : (p.setLine l v).lsq = p.lsq := rfl
@[simp] theorem Part.setLine_rqx (l : LineId) (v : Line) : (p.setLine l v).rqx = p.rqx := rfl
@[simp] theorem Part.setLine_jw (l : LineId) (v : Line) : (p.setLine l v).jw = p.jw := rfl
@[simp] theorem Part.setLine_sa (l : LineId) (v : Line) : (p.setLine l v).sa = p.sa := rfl
@[simp] theorem Part.setLine_attn (l : LineId) (v : Line) : (p.setLine l v).attn = p.attn := rfl
@[simp] theorem Part.setLine_cfg (l : LineId) (v : Line) : (p.setLine l v).cfg = p.cfg := rfl
@[simp] theorem Part.setLine_lct (l : LineId) (v : Line) :
    (p.setLine l v).lct = { p.lct with lines := p.lct.lines.set l v } := rfl
@[simp] theorem Part.setLine_draws (l : LineId) (v : Line) : (p.setLine l v).draws = p.draws := rfl
@[simp] theorem Part.setLine_changed (l : LineId) (v : Line) : (p.setLine l v).changed = p.changed := rfl

@[simp] theorem Part.changeRefs_dt (s : SlotId) (f : Nat → Nat) : (p.changeRefs s f).dt = p.dt := rfl
@[simp] theorem Part.changeRefs_lcu (s : SlotId) (f : Nat → Nat) : (p.changeRefs s f).lcu = p.lcu := rfl
@[simp] theorem Part.changeRefs_mc (s : SlotId) (f : Nat → Nat) : (p.changeRefs s f).mc = p.mc := rfl
@[simp] theorem Part.changeRefs_rsc (s : SlotId) (f : Nat → Nat) : (p.changeRefs s f).rsc = p.rsc := rfl
@[simp] theorem Part.changeRefs_ps (s : SlotId) (f : Nat → Nat) :
    (p.changeRefs s f).ps = p.ps.setSlot s { p.ps.slot s with refs := f (p.ps.slot s).refs } := rfl
@[simp] theorem Part.changeRefs_gbt (s : SlotId) (f : Nat → Nat) : (p.changeRefs s f).gbt = p.gbt := rfl
@[simp] theorem Part.changeRefs_lsq (s : SlotId) (f : Nat → Nat) : (p.changeRefs s f).lsq = p.lsq := rfl
@[simp] theorem Part.changeRefs_rqx (s : SlotId) (f : Nat → Nat) : (p.changeRefs s f).rqx = p.rqx := rfl
@[simp] theorem Part.changeRefs_jw (s : SlotId) (f : Nat → Nat) : (p.changeRefs s f).jw = p.jw := rfl
@[simp] theorem Part.changeRefs_sa (s : SlotId) (f : Nat → Nat) : (p.changeRefs s f).sa = p.sa := rfl
@[simp] theorem Part.changeRefs_attn (s : SlotId) (f : Nat → Nat) : (p.changeRefs s f).attn = p.attn := rfl
@[simp] theorem Part.changeRefs_cfg (s : SlotId) (f : Nat → Nat) : (p.changeRefs s f).cfg = p.cfg := rfl
@[simp] theorem Part.changeRefs_lct (s : SlotId) (f : Nat → Nat) : (p.changeRefs s f).lct = p.lct := rfl
@[simp] theorem Part.changeRefs_draws (s : SlotId) (f : Nat → Nat) : (p.changeRefs s f).draws = p.draws := rfl
@[simp] theorem Part.changeRefs_changed (s : SlotId) (f : Nat → Nat) : (p.changeRefs s f).changed = p.changed := rfl

/-! ## Noting and filing -/

@[simp] theorem Part.noteChanges_dt (l : List StatusItem) : (Part.noteChanges l p q).dt = q.dt := rfl
@[simp] theorem Part.noteChanges_lcu (l : List StatusItem) : (Part.noteChanges l p q).lcu = q.lcu := rfl
@[simp] theorem Part.noteChanges_mc (l : List StatusItem) : (Part.noteChanges l p q).mc = q.mc := rfl
@[simp] theorem Part.noteChanges_rsc (l : List StatusItem) : (Part.noteChanges l p q).rsc = q.rsc := rfl
@[simp] theorem Part.noteChanges_ps (l : List StatusItem) : (Part.noteChanges l p q).ps = q.ps := rfl
@[simp] theorem Part.noteChanges_gbt (l : List StatusItem) : (Part.noteChanges l p q).gbt = q.gbt := rfl
@[simp] theorem Part.noteChanges_lsq (l : List StatusItem) : (Part.noteChanges l p q).lsq = q.lsq := rfl
@[simp] theorem Part.noteChanges_rqx (l : List StatusItem) : (Part.noteChanges l p q).rqx = q.rqx := rfl
@[simp] theorem Part.noteChanges_jw (l : List StatusItem) : (Part.noteChanges l p q).jw = q.jw := rfl
@[simp] theorem Part.noteChanges_sa (l : List StatusItem) : (Part.noteChanges l p q).sa = q.sa := rfl
@[simp] theorem Part.noteChanges_attn (l : List StatusItem) : (Part.noteChanges l p q).attn = q.attn := rfl
@[simp] theorem Part.noteChanges_cfg (l : List StatusItem) : (Part.noteChanges l p q).cfg = q.cfg := rfl
@[simp] theorem Part.noteChanges_lct (l : List StatusItem) : (Part.noteChanges l p q).lct = q.lct := rfl
@[simp] theorem Part.noteChanges_draws (l : List StatusItem) : (Part.noteChanges l p q).draws = q.draws := rfl

@[simp] theorem Part.asOneChange_dt : (Part.asOneChange p q).dt = q.dt := rfl
@[simp] theorem Part.asOneChange_lcu : (Part.asOneChange p q).lcu = q.lcu := rfl
@[simp] theorem Part.asOneChange_mc : (Part.asOneChange p q).mc = q.mc := rfl
@[simp] theorem Part.asOneChange_rsc : (Part.asOneChange p q).rsc = q.rsc := rfl
@[simp] theorem Part.asOneChange_ps : (Part.asOneChange p q).ps = q.ps := rfl
@[simp] theorem Part.asOneChange_gbt : (Part.asOneChange p q).gbt = q.gbt := rfl
@[simp] theorem Part.asOneChange_lsq : (Part.asOneChange p q).lsq = q.lsq := rfl
@[simp] theorem Part.asOneChange_rqx : (Part.asOneChange p q).rqx = q.rqx := rfl
@[simp] theorem Part.asOneChange_jw : (Part.asOneChange p q).jw = q.jw := rfl
@[simp] theorem Part.asOneChange_sa : (Part.asOneChange p q).sa = q.sa := rfl
@[simp] theorem Part.asOneChange_attn : (Part.asOneChange p q).attn = q.attn := rfl
@[simp] theorem Part.asOneChange_cfg : (Part.asOneChange p q).cfg = q.cfg := rfl
@[simp] theorem Part.asOneChange_lct : (Part.asOneChange p q).lct = q.lct := rfl
@[simp] theorem Part.asOneChange_draws : (Part.asOneChange p q).draws = q.draws := rfl

@[simp] theorem Part.requestItems_dt (l : List StatusItem) : (p.requestItems l).dt = p.dt := rfl
@[simp] theorem Part.requestItems_lcu (l : List StatusItem) : (p.requestItems l).lcu = p.lcu := rfl
@[simp] theorem Part.requestItems_mc (l : List StatusItem) : (p.requestItems l).mc = p.mc := rfl
@[simp] theorem Part.requestItems_rsc (l : List StatusItem) : (p.requestItems l).rsc = p.rsc := rfl
@[simp] theorem Part.requestItems_ps (l : List StatusItem) : (p.requestItems l).ps = p.ps := rfl
@[simp] theorem Part.requestItems_gbt (l : List StatusItem) : (p.requestItems l).gbt = p.gbt := rfl
@[simp] theorem Part.requestItems_lsq (l : List StatusItem) : (p.requestItems l).lsq = p.lsq := rfl
@[simp] theorem Part.requestItems_rqx (l : List StatusItem) : (p.requestItems l).rqx = p.rqx := rfl
@[simp] theorem Part.requestItems_jw (l : List StatusItem) : (p.requestItems l).jw = p.jw := rfl
@[simp] theorem Part.requestItems_sa (l : List StatusItem) :
    (p.requestItems l).sa = { p.sa with status := l.foldl requestItem p.sa.status } := rfl
@[simp] theorem Part.requestItems_attn (l : List StatusItem) : (p.requestItems l).attn = p.attn := rfl
@[simp] theorem Part.requestItems_cfg (l : List StatusItem) : (p.requestItems l).cfg = p.cfg := rfl
@[simp] theorem Part.requestItems_lct (l : List StatusItem) : (p.requestItems l).lct = p.lct := rfl
@[simp] theorem Part.requestItems_draws (l : List StatusItem) : (p.requestItems l).draws = p.draws := rfl
@[simp] theorem Part.requestItems_changed (l : List StatusItem) : (p.requestItems l).changed = p.changed := rfl

@[simp] theorem Part.requestChanged_dt : (Part.requestChanged p q).dt = q.dt := rfl
@[simp] theorem Part.requestChanged_lcu : (Part.requestChanged p q).lcu = q.lcu := rfl
@[simp] theorem Part.requestChanged_mc : (Part.requestChanged p q).mc = q.mc := rfl
@[simp] theorem Part.requestChanged_rsc : (Part.requestChanged p q).rsc = q.rsc := rfl
@[simp] theorem Part.requestChanged_ps : (Part.requestChanged p q).ps = q.ps := rfl
@[simp] theorem Part.requestChanged_gbt : (Part.requestChanged p q).gbt = q.gbt := rfl
@[simp] theorem Part.requestChanged_lsq : (Part.requestChanged p q).lsq = q.lsq := rfl
@[simp] theorem Part.requestChanged_rqx : (Part.requestChanged p q).rqx = q.rqx := rfl
@[simp] theorem Part.requestChanged_jw : (Part.requestChanged p q).jw = q.jw := rfl
@[simp] theorem Part.requestChanged_sa :
    (Part.requestChanged p q).sa = { q.sa with status := (Part.itemsDue p q).foldl requestItem q.sa.status } := rfl
@[simp] theorem Part.requestChanged_attn : (Part.requestChanged p q).attn = q.attn := rfl
@[simp] theorem Part.requestChanged_cfg : (Part.requestChanged p q).cfg = q.cfg := rfl
@[simp] theorem Part.requestChanged_lct : (Part.requestChanged p q).lct = q.lct := rfl
@[simp] theorem Part.requestChanged_draws : (Part.requestChanged p q).draws = q.draws := rfl
@[simp] theorem Part.requestChanged_changed : (Part.requestChanged p q).changed = p.changed := rfl

end Sys2Proof.Machine
end

