-- ==== Sys2Proof/Laws/Blocks.lean ====
section
/-! SUPPORT. What each shared operation leaves alone: one lemma per operation, naming the blocks of the part that are
as they were. -/

/- The proofs of this file are elaborated one after the other, so that the package, compiled as one file, does
not ask for more threads at once than a machine of limited memory can give. -/
set_option Elab.async false

namespace Sys2Proof.Machine

/-- A fold keeps what each of its steps keeps. -/
theorem Part.foldl_same {α β : Type} (view : Part → β) (g : Part → α → Part) (h : ∀ p a, view (g p a) = view p)
    (l : List α) (p : Part) : view (l.foldl g p) = view p := by
  induction l generalizing p with
  | nil => rfl
  | cons a rest ih => simp [List.foldl_cons, ih, h]

variable (p : Part)

@[simp] theorem Part.completeItem_keeps (k : ItemKind) (n : Nat) :
    (p.completeItem k n).lcu = p.lcu ∧ (p.completeItem k n).mc = p.mc ∧ (p.completeItem k n).rsc = p.rsc ∧
      (p.completeItem k n).ps = p.ps ∧ (p.completeItem k n).gbt = p.gbt ∧ (p.completeItem k n).lsq = p.lsq ∧
      (p.completeItem k n).rqx = p.rqx ∧ (p.completeItem k n).jw = p.jw ∧ (p.completeItem k n).sa = p.sa ∧
      (p.completeItem k n).attn = p.attn ∧ (p.completeItem k n).cfg = p.cfg ∧ (p.completeItem k n).lct = p.lct ∧
      (p.completeItem k n).draws = p.draws ∧
      (p.completeItem k n).changed = p.changed := by
  unfold Part.completeItem
  split <;> simp

@[simp] theorem Part.handOffFor_keeps (b : RecordBody) (d : Option Nat) :
    (p.handOffFor b d).dt = p.dt ∧ (p.handOffFor b d).lcu = p.lcu ∧ (p.handOffFor b d).mc = p.mc ∧
      (p.handOffFor b d).rsc = p.rsc ∧ (p.handOffFor b d).ps = p.ps ∧ (p.handOffFor b d).gbt = p.gbt ∧
      (p.handOffFor b d).lsq = p.lsq ∧ (p.handOffFor b d).rqx = p.rqx ∧ (p.handOffFor b d).sa = p.sa ∧
      (p.handOffFor b d).attn = p.attn ∧ (p.handOffFor b d).cfg = p.cfg ∧ (p.handOffFor b d).lct = p.lct ∧
      (p.handOffFor b d).draws = p.draws ∧
      (p.handOffFor b d).changed = p.changed := by
  unfold Part.handOffFor
  (repeat' split) <;> simp

@[simp] theorem Part.handOff_keeps (b : RecordBody) :
    (p.handOff b).dt = p.dt ∧ (p.handOff b).lcu = p.lcu ∧ (p.handOff b).mc = p.mc ∧
      (p.handOff b).rsc = p.rsc ∧ (p.handOff b).ps = p.ps ∧ (p.handOff b).gbt = p.gbt ∧
      (p.handOff b).lsq = p.lsq ∧ (p.handOff b).rqx = p.rqx ∧ (p.handOff b).sa = p.sa ∧
      (p.handOff b).attn = p.attn ∧ (p.handOff b).cfg = p.cfg ∧ (p.handOff b).lct = p.lct ∧
      (p.handOff b).draws = p.draws ∧
      (p.handOff b).changed = p.changed := by
  unfold Part.handOff
  simp

@[simp] theorem Part.event_keeps (e : Event) :
    (p.event e).dt = p.dt ∧ (p.event e).lcu = p.lcu ∧ (p.event e).mc = p.mc ∧
      (p.event e).rsc = p.rsc ∧ (p.event e).ps = p.ps ∧ (p.event e).gbt = p.gbt ∧
      (p.event e).lsq = p.lsq ∧ (p.event e).rqx = p.rqx ∧ (p.event e).sa = p.sa ∧
      (p.event e).attn = p.attn ∧ (p.event e).cfg = p.cfg ∧ (p.event e).lct = p.lct ∧
      (p.event e).draws = p.draws ∧
      (p.event e).changed = p.changed := by
  unfold Part.event
  simp

@[simp] theorem Part.latch_keeps (c : AttnCause) :
    (p.latch c).dt = p.dt ∧ (p.latch c).lcu = p.lcu ∧ (p.latch c).mc = p.mc ∧
      (p.latch c).rsc = p.rsc ∧ (p.latch c).ps = p.ps ∧ (p.latch c).gbt = p.gbt ∧
      (p.latch c).lsq = p.lsq ∧ (p.latch c).rqx = p.rqx ∧ (p.latch c).jw = p.jw ∧
      (p.latch c).sa = p.sa ∧ (p.latch c).cfg = p.cfg ∧ (p.latch c).lct = p.lct ∧
      (p.latch c).draws = p.draws ∧
      (p.latch c).changed = p.changed := by
  unfold Part.latch
  split <;> simp

@[simp] theorem Part.endRequestAs_keeps (r : Result) (e : Nat → WriteEffect) :
    (p.endRequestAs r e).dt = p.dt ∧ (p.endRequestAs r e).lcu = p.lcu ∧ (p.endRequestAs r e).mc = p.mc ∧
      (p.endRequestAs r e).rsc = p.rsc ∧ (p.endRequestAs r e).ps = p.ps ∧ (p.endRequestAs r e).gbt = p.gbt ∧
      (p.endRequestAs r e).lsq = p.lsq ∧ (p.endRequestAs r e).jw = p.jw ∧ (p.endRequestAs r e).attn = p.attn ∧
      (p.endRequestAs r e).cfg = p.cfg ∧ (p.endRequestAs r e).lct = p.lct ∧
      (p.endRequestAs r e).draws = p.draws ∧
      (p.endRequestAs r e).changed = p.changed := by
  unfold Part.endRequestAs
  split <;> simp

@[simp] theorem Part.endRequest_keeps (r : Result) :
    (p.endRequest r).dt = p.dt ∧ (p.endRequest r).lcu = p.lcu ∧ (p.endRequest r).mc = p.mc ∧
      (p.endRequest r).rsc = p.rsc ∧ (p.endRequest r).ps = p.ps ∧ (p.endRequest r).gbt = p.gbt ∧
      (p.endRequest r).lsq = p.lsq ∧ (p.endRequest r).jw = p.jw ∧ (p.endRequest r).attn = p.attn ∧
      (p.endRequest r).cfg = p.cfg ∧ (p.endRequest r).lct = p.lct ∧
      (p.endRequest r).draws = p.draws ∧
      (p.endRequest r).changed = p.changed := by
  unfold Part.endRequest
  simp

@[simp] theorem Part.endParked_keeps (r : Result) :
    (p.endParked r).dt = p.dt ∧ (p.endParked r).lcu = p.lcu ∧ (p.endParked r).mc = p.mc ∧
      (p.endParked r).rsc = p.rsc ∧ (p.endParked r).ps = p.ps ∧ (p.endParked r).gbt = p.gbt ∧
      (p.endParked r).lsq = p.lsq ∧ (p.endParked r).jw = p.jw ∧ (p.endParked r).attn = p.attn ∧
      (p.endParked r).cfg = p.cfg ∧ (p.endParked r).lct = p.lct ∧
      (p.endParked r).draws = p.draws ∧
      (p.endParked r).changed = p.changed := by
  unfold Part.endParked
  split <;> simp

@[simp] theorem Part.parkCurrent_keeps :
    (p.parkCurrent).dt = p.dt ∧ (p.parkCurrent).lcu = p.lcu ∧ (p.parkCurrent).mc = p.mc ∧
      (p.parkCurrent).rsc = p.rsc ∧ (p.parkCurrent).ps = p.ps ∧ (p.parkCurrent).gbt = p.gbt ∧
      (p.parkCurrent).lsq = p.lsq ∧ (p.parkCurrent).jw = p.jw ∧ (p.parkCurrent).sa = p.sa ∧
      (p.parkCurrent).attn = p.attn ∧ (p.parkCurrent).cfg = p.cfg ∧ (p.parkCurrent).lct = p.lct ∧
      (p.parkCurrent).draws = p.draws ∧
      (p.parkCurrent).changed = p.changed := by
  unfold Part.parkCurrent
  split <;> simp

@[simp] theorem Part.beginWork_keeps :
    (p.beginWork).dt = p.dt ∧ (p.beginWork).lcu = p.lcu ∧ (p.beginWork).mc = p.mc ∧
      (p.beginWork).rsc = p.rsc ∧ (p.beginWork).ps = p.ps ∧ (p.beginWork).gbt = p.gbt ∧
      (p.beginWork).lsq = p.lsq ∧ (p.beginWork).jw = p.jw ∧ (p.beginWork).sa = p.sa ∧
      (p.beginWork).attn = p.attn ∧ (p.beginWork).cfg = p.cfg ∧ (p.beginWork).lct = p.lct ∧
      (p.beginWork).draws = p.draws ∧
      (p.beginWork).changed = p.changed := by
  unfold Part.beginWork
  split <;> simp

@[simp] theorem Part.startTakeTimer_keeps (m : Meter) :
    (p.startTakeTimer m).dt = p.dt ∧ (p.startTakeTimer m).lcu = p.lcu ∧ (p.startTakeTimer m).mc = p.mc ∧
      (p.startTakeTimer m).rsc = p.rsc ∧ (p.startTakeTimer m).ps = p.ps ∧ (p.startTakeTimer m).gbt = p.gbt ∧
      (p.startTakeTimer m).lsq = p.lsq ∧ (p.startTakeTimer m).rqx = p.rqx ∧ (p.startTakeTimer m).jw = p.jw ∧
      (p.startTakeTimer m).sa = p.sa ∧ (p.startTakeTimer m).attn = p.attn ∧ (p.startTakeTimer m).cfg = p.cfg ∧
      (p.startTakeTimer m).draws = p.draws ∧
      (p.startTakeTimer m).changed = p.changed := by
  unfold Part.startTakeTimer
  split <;> simp

@[simp] theorem Part.startStarvation_keeps :
    (p.startStarvation).dt = p.dt ∧ (p.startStarvation).lcu = p.lcu ∧ (p.startStarvation).mc = p.mc ∧
      (p.startStarvation).rsc = p.rsc ∧ (p.startStarvation).ps = p.ps ∧ (p.startStarvation).gbt = p.gbt ∧
      (p.startStarvation).lsq = p.lsq ∧ (p.startStarvation).rqx = p.rqx ∧ (p.startStarvation).jw = p.jw ∧
      (p.startStarvation).sa = p.sa ∧ (p.startStarvation).attn = p.attn ∧ (p.startStarvation).cfg = p.cfg ∧
      (p.startStarvation).draws = p.draws ∧
      (p.startStarvation).changed = p.changed := by
  unfold Part.startStarvation
  (repeat' split) <;> simp

@[simp] theorem Part.enterEngine_keeps (e : EngineState) :
    (p.enterEngine e).dt = p.dt ∧ (p.enterEngine e).lcu = p.lcu ∧ (p.enterEngine e).mc = p.mc ∧
      (p.enterEngine e).rsc = p.rsc ∧ (p.enterEngine e).ps = p.ps ∧ (p.enterEngine e).gbt = p.gbt ∧
      (p.enterEngine e).rqx = p.rqx ∧ (p.enterEngine e).jw = p.jw ∧ (p.enterEngine e).sa = p.sa ∧
      (p.enterEngine e).attn = p.attn ∧ (p.enterEngine e).cfg = p.cfg ∧
      (p.enterEngine e).draws = p.draws := by
  unfold Part.enterEngine
  dsimp only
  (repeat' split) <;> simp

@[simp] theorem Part.addHoldCause_keeps (c : HoldCause) :
    (p.addHoldCause c).dt = p.dt ∧ (p.addHoldCause c).lcu = p.lcu ∧ (p.addHoldCause c).mc = p.mc ∧
      (p.addHoldCause c).rsc = p.rsc ∧ (p.addHoldCause c).ps = p.ps ∧ (p.addHoldCause c).gbt = p.gbt ∧
      (p.addHoldCause c).rqx = p.rqx ∧ (p.addHoldCause c).sa = p.sa ∧ (p.addHoldCause c).attn = p.attn ∧
      (p.addHoldCause c).cfg = p.cfg ∧ (p.addHoldCause c).lct = p.lct ∧
      (p.addHoldCause c).draws = p.draws := by
  unfold Part.addHoldCause
  split <;> simp

@[simp] theorem Part.enterHold_keeps :
    (p.enterHold).dt = p.dt ∧ (p.enterHold).lcu = p.lcu ∧ (p.enterHold).mc = p.mc ∧
      (p.enterHold).rsc = p.rsc ∧ (p.enterHold).ps = p.ps ∧ (p.enterHold).gbt = p.gbt ∧
      (p.enterHold).rqx = p.rqx ∧ (p.enterHold).sa = p.sa ∧ (p.enterHold).attn = p.attn ∧
      (p.enterHold).cfg = p.cfg ∧
      (p.enterHold).draws = p.draws := by
  unfold Part.enterHold
  simp

@[simp] theorem Part.settleHold_keeps :
    (p.settleHold).dt = p.dt ∧ (p.settleHold).lcu = p.lcu ∧ (p.settleHold).mc = p.mc ∧
      (p.settleHold).rsc = p.rsc ∧ (p.settleHold).ps = p.ps ∧ (p.settleHold).gbt = p.gbt ∧
      (p.settleHold).rqx = p.rqx ∧ (p.settleHold).sa = p.sa ∧ (p.settleHold).attn = p.attn ∧
      (p.settleHold).cfg = p.cfg ∧
      (p.settleHold).draws = p.draws := by
  unfold Part.settleHold
  split <;> simp

@[simp] theorem Part.raiseHold_keeps (c : HoldCause) :
    (p.raiseHold c).dt = p.dt ∧ (p.raiseHold c).lcu = p.lcu ∧ (p.raiseHold c).mc = p.mc ∧
      (p.raiseHold c).rsc = p.rsc ∧ (p.raiseHold c).ps = p.ps ∧ (p.raiseHold c).gbt = p.gbt ∧
      (p.raiseHold c).rqx = p.rqx ∧ (p.raiseHold c).sa = p.sa ∧ (p.raiseHold c).attn = p.attn ∧
      (p.raiseHold c).cfg = p.cfg ∧
      (p.raiseHold c).draws = p.draws := by
  unfold Part.raiseHold
  split <;> simp

@[simp] theorem Part.tellChannelState_keeps :
    (p.tellChannelState).dt = p.dt ∧ (p.tellChannelState).lcu = p.lcu ∧ (p.tellChannelState).mc = p.mc ∧
      (p.tellChannelState).rsc = p.rsc ∧ (p.tellChannelState).ps = p.ps ∧ (p.tellChannelState).gbt = p.gbt ∧
      (p.tellChannelState).rqx = p.rqx ∧ (p.tellChannelState).sa = p.sa ∧ (p.tellChannelState).attn = p.attn ∧
      (p.tellChannelState).cfg = p.cfg ∧
      (p.tellChannelState).draws = p.draws := by
  unfold Part.tellChannelState
  split <;> simp

@[simp] theorem Part.raiseHalt_keeps (c : HaltCause) :
    (p.raiseHalt c).dt = p.dt ∧ (p.raiseHalt c).lcu = p.lcu ∧ (p.raiseHalt c).mc = p.mc ∧
      (p.raiseHalt c).rsc = p.rsc ∧ (p.raiseHalt c).ps = p.ps ∧ (p.raiseHalt c).gbt = p.gbt ∧
      (p.raiseHalt c).rqx = p.rqx ∧ (p.raiseHalt c).sa = p.sa ∧ (p.raiseHalt c).cfg = p.cfg ∧
      (p.raiseHalt c).draws = p.draws := by
  unfold Part.raiseHalt
  dsimp only
  split <;> simp

@[simp] theorem Part.writeEntry_keeps (k : Nat) (m : Meter) (f : Reading → Reading) :
    (p.writeEntry k m f).lcu = p.lcu ∧ (p.writeEntry k m f).mc = p.mc ∧ (p.writeEntry k m f).rsc = p.rsc ∧
      (p.writeEntry k m f).ps = p.ps ∧ (p.writeEntry k m f).gbt = p.gbt ∧ (p.writeEntry k m f).lsq = p.lsq ∧
      (p.writeEntry k m f).rqx = p.rqx ∧ (p.writeEntry k m f).jw = p.jw ∧ (p.writeEntry k m f).sa = p.sa ∧
      (p.writeEntry k m f).attn = p.attn ∧ (p.writeEntry k m f).cfg = p.cfg ∧ (p.writeEntry k m f).lct = p.lct ∧
      (p.writeEntry k m f).draws = p.draws ∧
      (p.writeEntry k m f).changed = p.changed := by
  unfold Part.writeEntry
  simp

@[simp] theorem Part.readingClaim_keeps (k : Nat) (m : Meter) (n : Nat) (s : ReadingStatus) (d : Option Int) :
    (p.readingClaim k m n s d).mc = p.mc ∧ (p.readingClaim k m n s d).rsc = p.rsc ∧ (p.readingClaim k m n s d).ps = p.ps ∧
      (p.readingClaim k m n s d).gbt = p.gbt ∧ (p.readingClaim k m n s d).lsq = p.lsq ∧ (p.readingClaim k m n s d).rqx = p.rqx ∧
      (p.readingClaim k m n s d).sa = p.sa ∧ (p.readingClaim k m n s d).attn = p.attn ∧ (p.readingClaim k m n s d).cfg = p.cfg ∧
      (p.readingClaim k m n s d).lct = p.lct ∧
      (p.readingClaim k m n s d).draws = p.draws ∧
      (p.readingClaim k m n s d).changed = p.changed := by
  unfold Part.readingClaim
  dsimp only
  (repeat' split) <;> simp

@[simp] theorem Part.serialClaim_keeps (k : Nat) (m : Meter) (n : Nat) :
    (p.serialClaim k m n).lcu = p.lcu ∧ (p.serialClaim k m n).mc = p.mc ∧ (p.serialClaim k m n).rsc = p.rsc ∧
      (p.serialClaim k m n).ps = p.ps ∧ (p.serialClaim k m n).gbt = p.gbt ∧ (p.serialClaim k m n).lsq = p.lsq ∧
      (p.serialClaim k m n).rqx = p.rqx ∧ (p.serialClaim k m n).jw = p.jw ∧ (p.serialClaim k m n).sa = p.sa ∧
      (p.serialClaim k m n).attn = p.attn ∧ (p.serialClaim k m n).cfg = p.cfg ∧ (p.serialClaim k m n).lct = p.lct ∧
      (p.serialClaim k m n).draws = p.draws ∧
      (p.serialClaim k m n).changed = p.changed := by
  unfold Part.serialClaim
  simp

@[simp] theorem Part.noTakeClaim_keeps (k : Nat) (m : Meter) (s : ReadingStatus) :
    (p.noTakeClaim k m s).lcu = p.lcu ∧ (p.noTakeClaim k m s).mc = p.mc ∧ (p.noTakeClaim k m s).rsc = p.rsc ∧
      (p.noTakeClaim k m s).ps = p.ps ∧ (p.noTakeClaim k m s).gbt = p.gbt ∧ (p.noTakeClaim k m s).lsq = p.lsq ∧
      (p.noTakeClaim k m s).rqx = p.rqx ∧ (p.noTakeClaim k m s).jw = p.jw ∧ (p.noTakeClaim k m s).sa = p.sa ∧
      (p.noTakeClaim k m s).attn = p.attn ∧ (p.noTakeClaim k m s).cfg = p.cfg ∧ (p.noTakeClaim k m s).lct = p.lct ∧
      (p.noTakeClaim k m s).draws = p.draws ∧
      (p.noTakeClaim k m s).changed = p.changed := by
  unfold Part.noTakeClaim
  (repeat' split) <;> simp

@[simp] theorem Part.raisePending_keeps (n : Nat) :
    (p.raisePending n).dt = p.dt ∧ (p.raisePending n).lcu = p.lcu ∧ (p.raisePending n).mc = p.mc ∧
      (p.raisePending n).rsc = p.rsc ∧ (p.raisePending n).ps = p.ps ∧ (p.raisePending n).lsq = p.lsq ∧
      (p.raisePending n).rqx = p.rqx ∧ (p.raisePending n).jw = p.jw ∧ (p.raisePending n).sa = p.sa ∧
      (p.raisePending n).attn = p.attn ∧ (p.raisePending n).cfg = p.cfg ∧ (p.raisePending n).lct = p.lct ∧
      (p.raisePending n).draws = p.draws := by
  unfold Part.raisePending
  simp

@[simp] theorem Part.releasePending_keeps (n : Nat) :
    (p.releasePending n).dt = p.dt ∧ (p.releasePending n).lcu = p.lcu ∧ (p.releasePending n).mc = p.mc ∧
      (p.releasePending n).rsc = p.rsc ∧ (p.releasePending n).ps = p.ps ∧ (p.releasePending n).lsq = p.lsq ∧
      (p.releasePending n).rqx = p.rqx ∧ (p.releasePending n).jw = p.jw ∧ (p.releasePending n).sa = p.sa ∧
      (p.releasePending n).attn = p.attn ∧ (p.releasePending n).cfg = p.cfg ∧ (p.releasePending n).lct = p.lct ∧
      (p.releasePending n).draws = p.draws := by
  unfold Part.releasePending
  simp

@[simp] theorem Part.nameOwed_keeps (m : Meter) :
    (p.nameOwed m).dt = p.dt ∧ (p.nameOwed m).mc = p.mc ∧ (p.nameOwed m).ps = p.ps ∧
      (p.nameOwed m).gbt = p.gbt ∧ (p.nameOwed m).lsq = p.lsq ∧ (p.nameOwed m).rqx = p.rqx ∧
      (p.nameOwed m).jw = p.jw ∧ (p.nameOwed m).sa = p.sa ∧ (p.nameOwed m).attn = p.attn ∧
      (p.nameOwed m).cfg = p.cfg ∧ (p.nameOwed m).lct = p.lct ∧
      (p.nameOwed m).draws = p.draws := by
  unfold Part.nameOwed
  dsimp only
  split <;> simp

@[simp] theorem Part.productTakeSent_keeps (m : Meter) :
    (p.productTakeSent m).dt = p.dt ∧ (p.productTakeSent m).mc = p.mc ∧ (p.productTakeSent m).ps = p.ps ∧
      (p.productTakeSent m).gbt = p.gbt ∧ (p.productTakeSent m).lsq = p.lsq ∧ (p.productTakeSent m).rqx = p.rqx ∧
      (p.productTakeSent m).jw = p.jw ∧ (p.productTakeSent m).sa = p.sa ∧ (p.productTakeSent m).attn = p.attn ∧
      (p.productTakeSent m).cfg = p.cfg ∧ (p.productTakeSent m).lct = p.lct ∧
      (p.productTakeSent m).draws = p.draws := by
  unfold Part.productTakeSent
  simp

@[simp] theorem Part.referenceTakeSent_keeps (m : Meter) (k : Nat) (b : Bool) :
    (p.referenceTakeSent m k b).dt = p.dt ∧ (p.referenceTakeSent m k b).lcu = p.lcu ∧ (p.referenceTakeSent m k b).mc = p.mc ∧
      (p.referenceTakeSent m k b).ps = p.ps ∧ (p.referenceTakeSent m k b).gbt = p.gbt ∧ (p.referenceTakeSent m k b).lsq = p.lsq ∧
      (p.referenceTakeSent m k b).rqx = p.rqx ∧ (p.referenceTakeSent m k b).jw = p.jw ∧ (p.referenceTakeSent m k b).sa = p.sa ∧
      (p.referenceTakeSent m k b).attn = p.attn ∧ (p.referenceTakeSent m k b).cfg = p.cfg ∧ (p.referenceTakeSent m k b).lct = p.lct ∧
      (p.referenceTakeSent m k b).draws = p.draws := by
  unfold Part.referenceTakeSent
  simp

@[simp] theorem Part.coverPlaced_keeps (s : MeterSet) :
    (p.coverPlaced s).dt = p.dt ∧ (p.coverPlaced s).lcu = p.lcu ∧ (p.coverPlaced s).mc = p.mc ∧
      (p.coverPlaced s).ps = p.ps ∧ (p.coverPlaced s).gbt = p.gbt ∧ (p.coverPlaced s).lsq = p.lsq ∧
      (p.coverPlaced s).rqx = p.rqx ∧ (p.coverPlaced s).jw = p.jw ∧ (p.coverPlaced s).sa = p.sa ∧
      (p.coverPlaced s).attn = p.attn ∧ (p.coverPlaced s).cfg = p.cfg ∧ (p.coverPlaced s).lct = p.lct ∧
      (p.coverPlaced s).draws = p.draws ∧
      (p.coverPlaced s).changed = p.changed := by
  unfold Part.coverPlaced
  simp

@[simp] theorem Part.rejoinPending_keeps (s : MeterSet) :
    (p.rejoinPending s).dt = p.dt ∧ (p.rejoinPending s).mc = p.mc ∧ (p.rejoinPending s).ps = p.ps ∧
      (p.rejoinPending s).gbt = p.gbt ∧ (p.rejoinPending s).lsq = p.lsq ∧ (p.rejoinPending s).rqx = p.rqx ∧
      (p.rejoinPending s).jw = p.jw ∧ (p.rejoinPending s).sa = p.sa ∧ (p.rejoinPending s).attn = p.attn ∧
      (p.rejoinPending s).cfg = p.cfg ∧ (p.rejoinPending s).lct = p.lct ∧
      (p.rejoinPending s).draws = p.draws ∧
      (p.rejoinPending s).changed = p.changed := by
  unfold Part.rejoinPending
  simp

@[simp] theorem Part.countAfterSetup_keeps (m : Meter) (a : SetupAsker) (s : ChannelState) :
    (p.countAfterSetup m a s).dt = p.dt ∧ (p.countAfterSetup m a s).mc = p.mc ∧ (p.countAfterSetup m a s).ps = p.ps ∧
      (p.countAfterSetup m a s).gbt = p.gbt ∧ (p.countAfterSetup m a s).lsq = p.lsq ∧ (p.countAfterSetup m a s).rqx = p.rqx ∧
      (p.countAfterSetup m a s).jw = p.jw ∧ (p.countAfterSetup m a s).sa = p.sa ∧ (p.countAfterSetup m a s).attn = p.attn ∧
      (p.countAfterSetup m a s).cfg = p.cfg ∧ (p.countAfterSetup m a s).lct = p.lct ∧
      (p.countAfterSetup m a s).draws = p.draws := by
  unfold Part.countAfterSetup
  dsimp only
  (repeat' split) <;> simp

@[simp] theorem Part.settleTakeTimer_keeps (m : Meter) :
    (p.settleTakeTimer m).dt = p.dt ∧ (p.settleTakeTimer m).lcu = p.lcu ∧ (p.settleTakeTimer m).mc = p.mc ∧
      (p.settleTakeTimer m).rsc = p.rsc ∧ (p.settleTakeTimer m).ps = p.ps ∧ (p.settleTakeTimer m).gbt = p.gbt ∧
      (p.settleTakeTimer m).lsq = p.lsq ∧ (p.settleTakeTimer m).rqx = p.rqx ∧ (p.settleTakeTimer m).jw = p.jw ∧
      (p.settleTakeTimer m).sa = p.sa ∧ (p.settleTakeTimer m).attn = p.attn ∧ (p.settleTakeTimer m).cfg = p.cfg ∧
      (p.settleTakeTimer m).draws = p.draws ∧
      (p.settleTakeTimer m).changed = p.changed := by
  unfold Part.settleTakeTimer
  split <;> simp

@[simp] theorem Part.withdrawFaulted_keeps (m : Meter) :
    (p.withdrawFaulted m).lcu = p.lcu ∧ (p.withdrawFaulted m).rsc = p.rsc ∧ (p.withdrawFaulted m).ps = p.ps ∧
      (p.withdrawFaulted m).gbt = p.gbt ∧ (p.withdrawFaulted m).lsq = p.lsq ∧ (p.withdrawFaulted m).rqx = p.rqx ∧
      (p.withdrawFaulted m).jw = p.jw ∧ (p.withdrawFaulted m).sa = p.sa ∧ (p.withdrawFaulted m).attn = p.attn ∧
      (p.withdrawFaulted m).cfg = p.cfg ∧ (p.withdrawFaulted m).lct = p.lct ∧
      (p.withdrawFaulted m).draws = p.draws := by
  unfold Part.withdrawFaulted
  (repeat' split) <;> simp

@[simp] theorem Part.suspect_keeps (m : Meter) :
    (p.suspect m).lcu = p.lcu ∧ (p.suspect m).rsc = p.rsc ∧ (p.suspect m).ps = p.ps ∧
      (p.suspect m).gbt = p.gbt ∧ (p.suspect m).rqx = p.rqx ∧ (p.suspect m).sa = p.sa ∧
      (p.suspect m).attn = p.attn ∧ (p.suspect m).cfg = p.cfg ∧
      (p.suspect m).draws = p.draws := by
  unfold Part.suspect
  dsimp only
  split <;> simp

@[simp] theorem Part.passed_keeps (m : Meter) (e : RefEntry) :
    (p.passed m e).dt = p.dt ∧ (p.passed m e).mc = p.mc ∧ (p.passed m e).ps = p.ps ∧
      (p.passed m e).gbt = p.gbt ∧ (p.passed m e).lsq = p.lsq ∧ (p.passed m e).rqx = p.rqx ∧
      (p.passed m e).jw = p.jw ∧ (p.passed m e).sa = p.sa ∧ (p.passed m e).attn = p.attn ∧
      (p.passed m e).cfg = p.cfg ∧ (p.passed m e).lct = p.lct ∧
      (p.passed m e).draws = p.draws := by
  unfold Part.passed
  dsimp only
  split <;> simp

@[simp] theorem Part.coverJudged_keeps (m : Meter) (e : RefEntry) :
    (p.coverJudged m e).dt = p.dt ∧ (p.coverJudged m e).lcu = p.lcu ∧ (p.coverJudged m e).mc = p.mc ∧
      (p.coverJudged m e).ps = p.ps ∧ (p.coverJudged m e).gbt = p.gbt ∧ (p.coverJudged m e).lsq = p.lsq ∧
      (p.coverJudged m e).rqx = p.rqx ∧ (p.coverJudged m e).jw = p.jw ∧ (p.coverJudged m e).sa = p.sa ∧
      (p.coverJudged m e).attn = p.attn ∧ (p.coverJudged m e).cfg = p.cfg ∧ (p.coverJudged m e).lct = p.lct ∧
      (p.coverJudged m e).draws = p.draws := by
  unfold Part.coverJudged
  simp

@[simp] theorem Part.referenceResult_keeps (m : Meter) (s : ReadingStatus) (d : Option Int) :
    (p.referenceResult m s d).ps = p.ps ∧ (p.referenceResult m s d).gbt = p.gbt ∧ (p.referenceResult m s d).rqx = p.rqx ∧
      (p.referenceResult m s d).sa = p.sa ∧ (p.referenceResult m s d).cfg = p.cfg ∧
      (p.referenceResult m s d).draws = p.draws := by
  unfold Part.referenceResult
  dsimp only
  (repeat' split) <;> simp

@[simp] theorem Part.sendTake_keeps (m : Meter) (x : TakeKind) (k d : Nat) :
    (p.sendTake m x k d).ps = p.ps ∧ (p.sendTake m x k d).gbt = p.gbt ∧ (p.sendTake m x k d).lsq = p.lsq ∧
      (p.sendTake m x k d).rqx = p.rqx ∧ (p.sendTake m x k d).jw = p.jw ∧ (p.sendTake m x k d).sa = p.sa ∧
      (p.sendTake m x k d).attn = p.attn ∧ (p.sendTake m x k d).cfg = p.cfg ∧ (p.sendTake m x k d).lct = p.lct ∧
      (p.sendTake m x k d).draws = p.draws := by
  unfold Part.sendTake
  split <;> simp

@[simp] theorem Part.pendTake_keeps (m : Meter) (x : TakeKind) (k d : Nat) :
    (p.pendTake m x k d).dt = p.dt ∧ (p.pendTake m x k d).lcu = p.lcu ∧ (p.pendTake m x k d).rsc = p.rsc ∧
      (p.pendTake m x k d).ps = p.ps ∧ (p.pendTake m x k d).gbt = p.gbt ∧ (p.pendTake m x k d).lsq = p.lsq ∧
      (p.pendTake m x k d).rqx = p.rqx ∧ (p.pendTake m x k d).jw = p.jw ∧ (p.pendTake m x k d).sa = p.sa ∧
      (p.pendTake m x k d).attn = p.attn ∧ (p.pendTake m x k d).cfg = p.cfg ∧
      (p.pendTake m x k d).draws = p.draws := by
  unfold Part.pendTake
  split <;> simp

@[simp] theorem Part.issueTake_keeps (m : Meter) (x : TakeKind) (k d : Nat) :
    (p.issueTake m x k d).ps = p.ps ∧ (p.issueTake m x k d).gbt = p.gbt ∧ (p.issueTake m x k d).lsq = p.lsq ∧
      (p.issueTake m x k d).rqx = p.rqx ∧ (p.issueTake m x k d).jw = p.jw ∧ (p.issueTake m x k d).sa = p.sa ∧
      (p.issueTake m x k d).attn = p.attn ∧ (p.issueTake m x k d).cfg = p.cfg ∧
      (p.issueTake m x k d).draws = p.draws := by
  unfold Part.issueTake
  split <;> simp

@[simp] theorem Part.startTakeItem_keeps (m : Meter) (k : Nat) :
    (p.startTakeItem m k).ps = p.ps ∧ (p.startTakeItem m k).gbt = p.gbt ∧ (p.startTakeItem m k).lsq = p.lsq ∧
      (p.startTakeItem m k).rqx = p.rqx ∧ (p.startTakeItem m k).jw = p.jw ∧ (p.startTakeItem m k).sa = p.sa ∧
      (p.startTakeItem m k).attn = p.attn ∧ (p.startTakeItem m k).cfg = p.cfg ∧
      (p.startTakeItem m k).draws = p.draws := by
  unfold Part.startTakeItem
  dsimp only
  (repeat' split) <;> simp

@[simp] theorem Part.skipTakeItem_keeps (m : Meter) (d : Nat) :
    (p.skipTakeItem m d).dt = p.dt ∧ (p.skipTakeItem m d).lcu = p.lcu ∧ (p.skipTakeItem m d).rsc = p.rsc ∧
      (p.skipTakeItem m d).ps = p.ps ∧ (p.skipTakeItem m d).gbt = p.gbt ∧ (p.skipTakeItem m d).lsq = p.lsq ∧
      (p.skipTakeItem m d).rqx = p.rqx ∧ (p.skipTakeItem m d).jw = p.jw ∧ (p.skipTakeItem m d).sa = p.sa ∧
      (p.skipTakeItem m d).attn = p.attn ∧ (p.skipTakeItem m d).cfg = p.cfg ∧
      (p.skipTakeItem m d).draws = p.draws := by
  unfold Part.skipTakeItem
  (repeat' split) <;> simp

@[simp] theorem Part.faultTag_keeps (m : Meter) (t : Tag) :
    (p.faultTag m t).ps = p.ps ∧ (p.faultTag m t).gbt = p.gbt ∧ (p.faultTag m t).rqx = p.rqx ∧
      (p.faultTag m t).sa = p.sa ∧ (p.faultTag m t).cfg = p.cfg ∧
      (p.faultTag m t).draws = p.draws := by
  unfold Part.faultTag
  split <;> simp

@[simp] theorem Part.faultWork_keeps (m : Meter) :
    (p.faultWork m).ps = p.ps ∧ (p.faultWork m).gbt = p.gbt ∧ (p.faultWork m).rqx = p.rqx ∧
      (p.faultWork m).sa = p.sa ∧ (p.faultWork m).cfg = p.cfg ∧
      (p.faultWork m).draws = p.draws := by
  have h := fun (q : Part) (l : List Tag) => And.intro
    (Part.foldl_same Part.ps (fun x t => x.faultTag m t) (by simp) l q) (And.intro
    (Part.foldl_same Part.gbt (fun x t => x.faultTag m t) (by simp) l q) (And.intro
    (Part.foldl_same Part.rqx (fun x t => x.faultTag m t) (by simp) l q) (And.intro
    (Part.foldl_same Part.sa (fun x t => x.faultTag m t) (by simp) l q) (And.intro
    (Part.foldl_same Part.cfg (fun x t => x.faultTag m t) (by simp) l q)
    (Part.foldl_same Part.draws (fun x t => x.faultTag m t) (by simp) l q)))))
  unfold Part.faultWork
  simp [h]

@[simp] theorem Part.failChannel_keeps (m : Meter) (c : ChannelCause) :
    (p.failChannel m c).ps = p.ps ∧ (p.failChannel m c).gbt = p.gbt ∧ (p.failChannel m c).rqx = p.rqx ∧
      (p.failChannel m c).sa = p.sa ∧ (p.failChannel m c).cfg = p.cfg ∧
      (p.failChannel m c).draws = p.draws := by
  unfold Part.failChannel
  simp

@[simp] theorem Part.beginNextTransfer_keeps (m : Meter) :
    (p.beginNextTransfer m).dt = p.dt ∧ (p.beginNextTransfer m).lcu = p.lcu ∧ (p.beginNextTransfer m).rsc = p.rsc ∧
      (p.beginNextTransfer m).ps = p.ps ∧ (p.beginNextTransfer m).gbt = p.gbt ∧ (p.beginNextTransfer m).lsq = p.lsq ∧
      (p.beginNextTransfer m).rqx = p.rqx ∧ (p.beginNextTransfer m).jw = p.jw ∧ (p.beginNextTransfer m).sa = p.sa ∧
      (p.beginNextTransfer m).attn = p.attn ∧ (p.beginNextTransfer m).cfg = p.cfg ∧ (p.beginNextTransfer m).lct = p.lct ∧
      (p.beginNextTransfer m).draws = p.draws := by
  unfold Part.beginNextTransfer
  simp

@[simp] theorem Part.giveSetupOutcome_keeps (m : Meter) (a : SetupAsker) (o : ChannelCause) :
    (p.giveSetupOutcome m a o).dt = p.dt ∧ (p.giveSetupOutcome m a o).lcu = p.lcu ∧ (p.giveSetupOutcome m a o).mc = p.mc ∧
      (p.giveSetupOutcome m a o).rsc = p.rsc ∧ (p.giveSetupOutcome m a o).ps = p.ps ∧ (p.giveSetupOutcome m a o).gbt = p.gbt ∧
      (p.giveSetupOutcome m a o).jw = p.jw ∧ (p.giveSetupOutcome m a o).attn = p.attn ∧ (p.giveSetupOutcome m a o).cfg = p.cfg ∧
      (p.giveSetupOutcome m a o).lct = p.lct ∧
      (p.giveSetupOutcome m a o).draws = p.draws := by
  unfold Part.giveSetupOutcome
  (repeat' split) <;> simp

@[simp] theorem Part.endSetup_keeps (m : Meter) (o : ChannelCause) :
    (p.endSetup m o).dt = p.dt ∧ (p.endSetup m o).ps = p.ps ∧ (p.endSetup m o).gbt = p.gbt ∧
      (p.endSetup m o).attn = p.attn ∧ (p.endSetup m o).cfg = p.cfg ∧
      (p.endSetup m o).draws = p.draws := by
  unfold Part.endSetup
  (repeat' split) <;> simp

@[simp] theorem Part.enterSetup_keeps (m : Meter) (a : SetupAsker) (b : Bool) :
    (p.enterSetup m a b).ps = p.ps ∧ (p.enterSetup m a b).gbt = p.gbt ∧ (p.enterSetup m a b).cfg = p.cfg ∧
      (p.enterSetup m a b).draws = p.draws := by
  unfold Part.enterSetup
  split <;> simp

@[simp] theorem Part.acceptReport_keeps (m : Meter) (t : Tag) (s : ReadingStatus) (d : Option Int) :
    (p.acceptReport m t s d).ps = p.ps ∧ (p.acceptReport m t s d).gbt = p.gbt ∧ (p.acceptReport m t s d).rqx = p.rqx ∧
      (p.acceptReport m t s d).sa = p.sa ∧ (p.acceptReport m t s d).cfg = p.cfg ∧
      (p.acceptReport m t s d).draws = p.draws := by
  unfold Part.acceptReport
  split <;> simp

@[simp] theorem Part.reportEnded_keeps (m : Meter) (f : List Byte) (b : Bool) :
    (p.reportEnded m f b).ps = p.ps ∧ (p.reportEnded m f b).gbt = p.gbt ∧ (p.reportEnded m f b).cfg = p.cfg ∧
      (p.reportEnded m f b).draws = p.draws := by
  unfold Part.reportEnded
  dsimp only
  (repeat' split) <;> simp

@[simp] theorem Part.faultByState_keeps (m : Meter) (c : ChannelCause) :
    (p.faultByState m c).ps = p.ps ∧ (p.faultByState m c).gbt = p.gbt ∧ (p.faultByState m c).cfg = p.cfg ∧
      (p.faultByState m c).draws = p.draws := by
  unfold Part.faultByState
  split <;> simp

@[simp] theorem Part.acqRises_keeps (m : Meter) :
    (p.acqRises m).ps = p.ps ∧ (p.acqRises m).gbt = p.gbt ∧ (p.acqRises m).cfg = p.cfg ∧
      (p.acqRises m).draws = p.draws := by
  unfold Part.acqRises
  dsimp only
  (repeat' split) <;> simp

@[simp] theorem Part.acqFalls_keeps (m : Meter) :
    (p.acqFalls m).lcu = p.lcu ∧ (p.acqFalls m).rsc = p.rsc ∧ (p.acqFalls m).ps = p.ps ∧
      (p.acqFalls m).gbt = p.gbt ∧ (p.acqFalls m).lsq = p.lsq ∧ (p.acqFalls m).rqx = p.rqx ∧
      (p.acqFalls m).jw = p.jw ∧ (p.acqFalls m).sa = p.sa ∧ (p.acqFalls m).attn = p.attn ∧
      (p.acqFalls m).cfg = p.cfg ∧
      (p.acqFalls m).draws = p.draws := by
  unfold Part.acqFalls
  dsimp only
  (repeat' split) <;> simp

@[simp] theorem Part.rdyRises_keeps (m : Meter) :
    (p.rdyRises m).dt = p.dt ∧ (p.rdyRises m).lcu = p.lcu ∧ (p.rdyRises m).rsc = p.rsc ∧
      (p.rdyRises m).ps = p.ps ∧ (p.rdyRises m).gbt = p.gbt ∧ (p.rdyRises m).lsq = p.lsq ∧
      (p.rdyRises m).rqx = p.rqx ∧ (p.rdyRises m).jw = p.jw ∧ (p.rdyRises m).sa = p.sa ∧
      (p.rdyRises m).attn = p.attn ∧ (p.rdyRises m).cfg = p.cfg ∧ (p.rdyRises m).lct = p.lct ∧
      (p.rdyRises m).draws = p.draws := by
  unfold Part.rdyRises
  dsimp only
  (repeat' split) <;> simp

@[simp] theorem Part.fltRises_keeps (m : Meter) :
    (p.fltRises m).ps = p.ps ∧ (p.fltRises m).gbt = p.gbt ∧ (p.fltRises m).cfg = p.cfg ∧
      (p.fltRises m).draws = p.draws := by
  unfold Part.fltRises
  simp

@[simp] theorem Part.frameSent_keeps (m : Meter) (f : Frame) :
    (p.frameSent m f).dt = p.dt ∧ (p.frameSent m f).lcu = p.lcu ∧ (p.frameSent m f).rsc = p.rsc ∧
      (p.frameSent m f).ps = p.ps ∧ (p.frameSent m f).gbt = p.gbt ∧ (p.frameSent m f).lsq = p.lsq ∧
      (p.frameSent m f).rqx = p.rqx ∧ (p.frameSent m f).jw = p.jw ∧ (p.frameSent m f).sa = p.sa ∧
      (p.frameSent m f).attn = p.attn ∧ (p.frameSent m f).cfg = p.cfg ∧
      (p.frameSent m f).draws = p.draws := by
  unfold Part.frameSent
  dsimp only
  (repeat' split) <;> simp

@[simp] theorem Part.pendingTakeDue_keeps (m : Meter) (t : PendingTake) :
    (p.pendingTakeDue m t).ps = p.ps ∧ (p.pendingTakeDue m t).gbt = p.gbt ∧ (p.pendingTakeDue m t).lsq = p.lsq ∧
      (p.pendingTakeDue m t).rqx = p.rqx ∧ (p.pendingTakeDue m t).jw = p.jw ∧ (p.pendingTakeDue m t).sa = p.sa ∧
      (p.pendingTakeDue m t).attn = p.attn ∧ (p.pendingTakeDue m t).cfg = p.cfg ∧
      (p.pendingTakeDue m t).draws = p.draws := by
  unfold Part.pendingTakeDue
  split <;> simp

@[simp] theorem Part.takeTimerExpires_keeps (m : Meter) :
    (p.takeTimerExpires m).ps = p.ps ∧ (p.takeTimerExpires m).gbt = p.gbt ∧ (p.takeTimerExpires m).cfg = p.cfg ∧
      (p.takeTimerExpires m).draws = p.draws := by
  unfold Part.takeTimerExpires
  simp

@[simp] theorem Part.firingClaim_keeps (n k t d : Nat) (b : Bool) :
    (p.firingClaim n k t d b).lcu = p.lcu ∧ (p.firingClaim n k t d b).mc = p.mc ∧ (p.firingClaim n k t d b).rsc = p.rsc ∧
      (p.firingClaim n k t d b).ps = p.ps ∧ (p.firingClaim n k t d b).lsq = p.lsq ∧ (p.firingClaim n k t d b).rqx = p.rqx ∧
      (p.firingClaim n k t d b).jw = p.jw ∧ (p.firingClaim n k t d b).sa = p.sa ∧ (p.firingClaim n k t d b).attn = p.attn ∧
      (p.firingClaim n k t d b).cfg = p.cfg ∧ (p.firingClaim n k t d b).lct = p.lct ∧
      (p.firingClaim n k t d b).draws = p.draws := by
  unfold Part.firingClaim
  (repeat' split) <;> simp

@[simp] theorem Part.endPulse_keeps (n : Nat) :
    (p.endPulse n).lcu = p.lcu ∧ (p.endPulse n).mc = p.mc ∧ (p.endPulse n).rsc = p.rsc ∧
      (p.endPulse n).ps = p.ps ∧ (p.endPulse n).lsq = p.lsq ∧ (p.endPulse n).rqx = p.rqx ∧
      (p.endPulse n).jw = p.jw ∧ (p.endPulse n).sa = p.sa ∧ (p.endPulse n).attn = p.attn ∧
      (p.endPulse n).cfg = p.cfg ∧ (p.endPulse n).lct = p.lct ∧
      (p.endPulse n).draws = p.draws := by
  unfold Part.endPulse
  split <;> simp

@[simp] theorem Part.fireGate_keeps (n k : Nat) :
    (p.fireGate n k).lcu = p.lcu ∧ (p.fireGate n k).mc = p.mc ∧ (p.fireGate n k).rsc = p.rsc ∧
      (p.fireGate n k).ps = p.ps ∧ (p.fireGate n k).lsq = p.lsq ∧ (p.fireGate n k).rqx = p.rqx ∧
      (p.fireGate n k).jw = p.jw ∧ (p.fireGate n k).sa = p.sa ∧ (p.fireGate n k).attn = p.attn ∧
      (p.fireGate n k).cfg = p.cfg ∧
      (p.fireGate n k).draws = p.draws := by
  unfold Part.fireGate
  split <;> simp

@[simp] theorem Part.routeClaim_keeps (l : List Nat) :
    ((p.routeClaim l).1).dt = p.dt ∧ ((p.routeClaim l).1).lcu = p.lcu ∧ ((p.routeClaim l).1).mc = p.mc ∧
      ((p.routeClaim l).1).rsc = p.rsc ∧ ((p.routeClaim l).1).ps = p.ps ∧ ((p.routeClaim l).1).lsq = p.lsq ∧
      ((p.routeClaim l).1).rqx = p.rqx ∧ ((p.routeClaim l).1).jw = p.jw ∧ ((p.routeClaim l).1).sa = p.sa ∧
      ((p.routeClaim l).1).attn = p.attn ∧ ((p.routeClaim l).1).cfg = p.cfg ∧ ((p.routeClaim l).1).lct = p.lct ∧
      ((p.routeClaim l).1).draws = p.draws := by
  unfold Part.routeClaim
  split <;> simp

@[simp] theorem Part.specialRoute_keeps (b : Option Nat) (r : Reason) :
    ((p.specialRoute b r).1).dt = p.dt ∧ ((p.specialRoute b r).1).lcu = p.lcu ∧ ((p.specialRoute b r).1).mc = p.mc ∧
      ((p.specialRoute b r).1).rsc = p.rsc ∧ ((p.specialRoute b r).1).ps = p.ps ∧ ((p.specialRoute b r).1).lsq = p.lsq ∧
      ((p.specialRoute b r).1).rqx = p.rqx ∧ ((p.specialRoute b r).1).jw = p.jw ∧ ((p.specialRoute b r).1).sa = p.sa ∧
      ((p.specialRoute b r).1).attn = p.attn ∧ ((p.specialRoute b r).1).cfg = p.cfg ∧ ((p.specialRoute b r).1).lct = p.lct ∧
      ((p.specialRoute b r).1).draws = p.draws := by
  unfold Part.specialRoute
  simp

@[simp] theorem Part.rowRoute_keeps (pl : Plan) (n : Nat) (r : PlanRow) :
    ((p.rowRoute pl n r).1).dt = p.dt ∧ ((p.rowRoute pl n r).1).lcu = p.lcu ∧ ((p.rowRoute pl n r).1).mc = p.mc ∧
      ((p.rowRoute pl n r).1).rsc = p.rsc ∧ ((p.rowRoute pl n r).1).ps = p.ps ∧ ((p.rowRoute pl n r).1).lsq = p.lsq ∧
      ((p.rowRoute pl n r).1).rqx = p.rqx ∧ ((p.rowRoute pl n r).1).jw = p.jw ∧ ((p.rowRoute pl n r).1).sa = p.sa ∧
      ((p.rowRoute pl n r).1).attn = p.attn ∧ ((p.rowRoute pl n r).1).cfg = p.cfg ∧ ((p.rowRoute pl n r).1).lct = p.lct ∧
      ((p.rowRoute pl n r).1).draws = p.draws := by
  unfold Part.rowRoute
  simp

@[simp] theorem Part.decision_keeps (pl : Plan) (rs : List Reading) :
    ((p.decision pl rs).1).dt = p.dt ∧ ((p.decision pl rs).1).lcu = p.lcu ∧ ((p.decision pl rs).1).mc = p.mc ∧
      ((p.decision pl rs).1).rsc = p.rsc ∧ ((p.decision pl rs).1).ps = p.ps ∧ ((p.decision pl rs).1).lsq = p.lsq ∧
      ((p.decision pl rs).1).rqx = p.rqx ∧ ((p.decision pl rs).1).jw = p.jw ∧ ((p.decision pl rs).1).sa = p.sa ∧
      ((p.decision pl rs).1).attn = p.attn ∧ ((p.decision pl rs).1).cfg = p.cfg ∧ ((p.decision pl rs).1).lct = p.lct ∧
      ((p.decision pl rs).1).draws = p.draws := by
  unfold Part.decision
  dsimp only
  (repeat' split) <;> simp

@[simp] theorem Part.decidePocket_keeps (k : Nat) :
    (p.decidePocket k).lcu = p.lcu ∧ (p.decidePocket k).mc = p.mc ∧ (p.decidePocket k).rsc = p.rsc ∧
      (p.decidePocket k).ps = p.ps ∧ (p.decidePocket k).lsq = p.lsq ∧ (p.decidePocket k).rqx = p.rqx ∧
      (p.decidePocket k).jw = p.jw ∧ (p.decidePocket k).sa = p.sa ∧ (p.decidePocket k).attn = p.attn ∧
      (p.decidePocket k).cfg = p.cfg ∧ (p.decidePocket k).lct = p.lct ∧
      (p.decidePocket k).draws = p.draws := by
  unfold Part.decidePocket
  split
  · split <;> simp
  all_goals simp

@[simp] theorem Part.startDecisionItem_keeps (k : Nat) :
    (p.startDecisionItem k).lcu = p.lcu ∧ (p.startDecisionItem k).mc = p.mc ∧ (p.startDecisionItem k).rsc = p.rsc ∧
      (p.startDecisionItem k).ps = p.ps ∧ (p.startDecisionItem k).lsq = p.lsq ∧ (p.startDecisionItem k).rqx = p.rqx ∧
      (p.startDecisionItem k).jw = p.jw ∧ (p.startDecisionItem k).sa = p.sa ∧ (p.startDecisionItem k).attn = p.attn ∧
      (p.startDecisionItem k).cfg = p.cfg ∧ (p.startDecisionItem k).lct = p.lct ∧
      (p.startDecisionItem k).draws = p.draws := by
  unfold Part.startDecisionItem
  simp

@[simp] theorem Part.reroute_keeps (n k : Nat) :
    (p.reroute n k).lcu = p.lcu ∧ (p.reroute n k).mc = p.mc ∧ (p.reroute n k).rsc = p.rsc ∧
      (p.reroute n k).ps = p.ps ∧ (p.reroute n k).lsq = p.lsq ∧ (p.reroute n k).rqx = p.rqx ∧
      (p.reroute n k).jw = p.jw ∧ (p.reroute n k).sa = p.sa ∧ (p.reroute n k).attn = p.attn ∧
      (p.reroute n k).cfg = p.cfg ∧ (p.reroute n k).lct = p.lct ∧
      (p.reroute n k).draws = p.draws := by
  unfold Part.reroute
  split
  · simp
  all_goals simp

@[simp] theorem Part.startFireItem_keeps (n k : Nat) :
    (p.startFireItem n k).lcu = p.lcu ∧ (p.startFireItem n k).mc = p.mc ∧ (p.startFireItem n k).rsc = p.rsc ∧
      (p.startFireItem n k).ps = p.ps ∧ (p.startFireItem n k).lsq = p.lsq ∧ (p.startFireItem n k).rqx = p.rqx ∧
      (p.startFireItem n k).jw = p.jw ∧ (p.startFireItem n k).sa = p.sa ∧ (p.startFireItem n k).attn = p.attn ∧
      (p.startFireItem n k).cfg = p.cfg ∧
      (p.startFireItem n k).draws = p.draws := by
  unfold Part.startFireItem
  (repeat' split) <;> simp

@[simp] theorem Part.skipFireItem_keeps (n k : Nat) :
    (p.skipFireItem n k).lcu = p.lcu ∧ (p.skipFireItem n k).mc = p.mc ∧ (p.skipFireItem n k).rsc = p.rsc ∧
      (p.skipFireItem n k).ps = p.ps ∧ (p.skipFireItem n k).lsq = p.lsq ∧ (p.skipFireItem n k).rqx = p.rqx ∧
      (p.skipFireItem n k).jw = p.jw ∧ (p.skipFireItem n k).sa = p.sa ∧ (p.skipFireItem n k).attn = p.attn ∧
      (p.skipFireItem n k).cfg = p.cfg ∧ (p.skipFireItem n k).lct = p.lct ∧
      (p.skipFireItem n k).draws = p.draws := by
  unfold Part.skipFireItem
  split <;> simp

@[simp] theorem Part.tubeRemoved_keeps (n : Nat) :
    (p.tubeRemoved n).dt = p.dt ∧ (p.tubeRemoved n).lcu = p.lcu ∧ (p.tubeRemoved n).mc = p.mc ∧
      (p.tubeRemoved n).rsc = p.rsc ∧ (p.tubeRemoved n).ps = p.ps ∧ (p.tubeRemoved n).lsq = p.lsq ∧
      (p.tubeRemoved n).rqx = p.rqx ∧ (p.tubeRemoved n).sa = p.sa ∧ (p.tubeRemoved n).attn = p.attn ∧
      (p.tubeRemoved n).cfg = p.cfg ∧ (p.tubeRemoved n).lct = p.lct ∧
      (p.tubeRemoved n).draws = p.draws := by
  unfold Part.tubeRemoved
  simp

@[simp] theorem Part.tubeInserted_keeps (n : Nat) :
    (p.tubeInserted n).dt = p.dt ∧ (p.tubeInserted n).lcu = p.lcu ∧ (p.tubeInserted n).mc = p.mc ∧
      (p.tubeInserted n).rsc = p.rsc ∧ (p.tubeInserted n).ps = p.ps ∧ (p.tubeInserted n).lsq = p.lsq ∧
      (p.tubeInserted n).rqx = p.rqx ∧ (p.tubeInserted n).jw = p.jw ∧ (p.tubeInserted n).sa = p.sa ∧
      (p.tubeInserted n).attn = p.attn ∧ (p.tubeInserted n).cfg = p.cfg ∧ (p.tubeInserted n).lct = p.lct ∧
      (p.tubeInserted n).draws = p.draws := by
  unfold Part.tubeInserted
  simp

@[simp] theorem Part.fullRises_keeps (n : Nat) :
    (p.fullRises n).dt = p.dt ∧ (p.fullRises n).lcu = p.lcu ∧ (p.fullRises n).mc = p.mc ∧
      (p.fullRises n).rsc = p.rsc ∧ (p.fullRises n).ps = p.ps ∧ (p.fullRises n).lsq = p.lsq ∧
      (p.fullRises n).rqx = p.rqx ∧ (p.fullRises n).jw = p.jw ∧ (p.fullRises n).sa = p.sa ∧
      (p.fullRises n).attn = p.attn ∧ (p.fullRises n).cfg = p.cfg ∧ (p.fullRises n).lct = p.lct ∧
      (p.fullRises n).draws = p.draws := by
  unfold Part.fullRises
  split <;> simp

@[simp] theorem Part.chainInputChanged_keeps (i : Nat) :
    (p.chainInputChanged i).dt = p.dt ∧ (p.chainInputChanged i).lcu = p.lcu ∧ (p.chainInputChanged i).mc = p.mc ∧
      (p.chainInputChanged i).rsc = p.rsc ∧ (p.chainInputChanged i).ps = p.ps ∧ (p.chainInputChanged i).lsq = p.lsq ∧
      (p.chainInputChanged i).rqx = p.rqx ∧ (p.chainInputChanged i).sa = p.sa ∧ (p.chainInputChanged i).attn = p.attn ∧
      (p.chainInputChanged i).cfg = p.cfg ∧ (p.chainInputChanged i).lct = p.lct ∧
      (p.chainInputChanged i).draws = p.draws := by
  unfold Part.chainInputChanged
  dsimp only
  (repeat' split) <;> simp

@[simp] theorem Part.ejectedClaim_keeps (n : Nat) :
    (p.ejectedClaim n).dt = p.dt ∧ (p.ejectedClaim n).lcu = p.lcu ∧ (p.ejectedClaim n).mc = p.mc ∧
      (p.ejectedClaim n).rsc = p.rsc ∧ (p.ejectedClaim n).ps = p.ps ∧ (p.ejectedClaim n).lsq = p.lsq ∧
      (p.ejectedClaim n).rqx = p.rqx ∧ (p.ejectedClaim n).jw = p.jw ∧ (p.ejectedClaim n).sa = p.sa ∧
      (p.ejectedClaim n).attn = p.attn ∧ (p.ejectedClaim n).cfg = p.cfg ∧ (p.ejectedClaim n).lct = p.lct ∧
      (p.ejectedClaim n).draws = p.draws := by
  unfold Part.ejectedClaim
  simp

@[simp] theorem Part.missedClaim_keeps (n t : Nat) :
    (p.missedClaim n t).dt = p.dt ∧ (p.missedClaim n t).lcu = p.lcu ∧ (p.missedClaim n t).mc = p.mc ∧
      (p.missedClaim n t).rsc = p.rsc ∧ (p.missedClaim n t).ps = p.ps ∧ (p.missedClaim n t).lsq = p.lsq ∧
      (p.missedClaim n t).rqx = p.rqx ∧ (p.missedClaim n t).sa = p.sa ∧ (p.missedClaim n t).cfg = p.cfg ∧
      (p.missedClaim n t).lct = p.lct ∧
      (p.missedClaim n t).draws = p.draws := by
  unfold Part.missedClaim
  dsimp only
  (repeat' split) <;> simp

@[simp] theorem Part.binControl_keeps (a : Nat) :
    (p.binControl a).dt = p.dt ∧ (p.binControl a).lcu = p.lcu ∧ (p.binControl a).mc = p.mc ∧
      (p.binControl a).rsc = p.rsc ∧ (p.binControl a).ps = p.ps ∧ (p.binControl a).lsq = p.lsq ∧
      (p.binControl a).jw = p.jw ∧ (p.binControl a).attn = p.attn ∧ (p.binControl a).cfg = p.cfg ∧
      (p.binControl a).lct = p.lct ∧
      (p.binControl a).draws = p.draws := by
  unfold Part.binControl
  split <;> simp

@[simp] theorem Part.passUnoffered_keeps :
    (p.passUnoffered).dt = p.dt ∧ (p.passUnoffered).mc = p.mc ∧ (p.passUnoffered).rsc = p.rsc ∧
      (p.passUnoffered).ps = p.ps ∧ (p.passUnoffered).gbt = p.gbt ∧ (p.passUnoffered).lsq = p.lsq ∧
      (p.passUnoffered).rqx = p.rqx ∧ (p.passUnoffered).jw = p.jw ∧ (p.passUnoffered).sa = p.sa ∧
      (p.passUnoffered).attn = p.attn ∧ (p.passUnoffered).cfg = p.cfg ∧ (p.passUnoffered).lct = p.lct ∧
      (p.passUnoffered).draws = p.draws ∧
      (p.passUnoffered).changed = p.changed := by
  unfold Part.passUnoffered
  simp

@[simp] theorem Part.reserve_keeps (k : Nat) :
    (p.reserve k).mc = p.mc ∧ (p.reserve k).ps = p.ps ∧ (p.reserve k).gbt = p.gbt ∧
      (p.reserve k).lsq = p.lsq ∧ (p.reserve k).rqx = p.rqx ∧ (p.reserve k).jw = p.jw ∧
      (p.reserve k).sa = p.sa ∧ (p.reserve k).attn = p.attn ∧ (p.reserve k).cfg = p.cfg ∧
      (p.reserve k).lct = p.lct ∧
      (p.reserve k).draws = p.draws ∧
      (p.reserve k).changed = p.changed := by
  unfold Part.reserve
  simp

@[simp] theorem Part.feed_keeps (k : Nat) :
    (p.feed k).dt = p.dt ∧ (p.feed k).mc = p.mc ∧ (p.feed k).rsc = p.rsc ∧
      (p.feed k).ps = p.ps ∧ (p.feed k).gbt = p.gbt ∧ (p.feed k).lsq = p.lsq ∧
      (p.feed k).rqx = p.rqx ∧ (p.feed k).jw = p.jw ∧ (p.feed k).sa = p.sa ∧
      (p.feed k).attn = p.attn ∧ (p.feed k).cfg = p.cfg ∧
      (p.feed k).draws = p.draws ∧
      (p.feed k).changed = p.changed := by
  unfold Part.feed
  split <;> simp

@[simp] theorem Part.offer_keeps (k : Nat) :
    (p.offer k).mc = p.mc ∧ (p.offer k).ps = p.ps ∧ (p.offer k).gbt = p.gbt ∧
      (p.offer k).lsq = p.lsq ∧ (p.offer k).rqx = p.rqx ∧ (p.offer k).jw = p.jw ∧
      (p.offer k).sa = p.sa ∧ (p.offer k).attn = p.attn ∧ (p.offer k).cfg = p.cfg ∧
      (p.offer k).draws = p.draws ∧
      (p.offer k).changed = p.changed := by
  unfold Part.offer
  dsimp only
  split <;> simp

@[simp] theorem Part.workLoad_keeps (k : Nat) :
    (p.workLoad k).mc = p.mc ∧ (p.workLoad k).ps = p.ps ∧ (p.workLoad k).gbt = p.gbt ∧
      (p.workLoad k).lsq = p.lsq ∧ (p.workLoad k).rqx = p.rqx ∧ (p.workLoad k).jw = p.jw ∧
      (p.workLoad k).sa = p.sa ∧ (p.workLoad k).attn = p.attn ∧ (p.workLoad k).cfg = p.cfg ∧
      (p.workLoad k).draws = p.draws ∧
      (p.workLoad k).changed = p.changed := by
  unfold Part.workLoad
  (repeat' split) <;> simp

@[simp] theorem Part.startLoadItem_keeps (k : Nat) :
    (p.startLoadItem k).mc = p.mc ∧ (p.startLoadItem k).ps = p.ps ∧ (p.startLoadItem k).gbt = p.gbt ∧
      (p.startLoadItem k).lsq = p.lsq ∧ (p.startLoadItem k).rqx = p.rqx ∧ (p.startLoadItem k).jw = p.jw ∧
      (p.startLoadItem k).sa = p.sa ∧ (p.startLoadItem k).attn = p.attn ∧ (p.startLoadItem k).cfg = p.cfg ∧
      (p.startLoadItem k).draws = p.draws ∧
      (p.startLoadItem k).changed = p.changed := by
  unfold Part.startLoadItem
  split <;> simp

@[simp] theorem Part.dropFeed_keeps (n : Nat) :
    (p.dropFeed n).mc = p.mc ∧ (p.dropFeed n).rsc = p.rsc ∧ (p.dropFeed n).ps = p.ps ∧
      (p.dropFeed n).gbt = p.gbt ∧ (p.dropFeed n).lsq = p.lsq ∧ (p.dropFeed n).rqx = p.rqx ∧
      (p.dropFeed n).jw = p.jw ∧ (p.dropFeed n).sa = p.sa ∧ (p.dropFeed n).attn = p.attn ∧
      (p.dropFeed n).cfg = p.cfg ∧
      (p.dropFeed n).draws = p.draws ∧
      (p.dropFeed n).changed = p.changed := by
  unfold Part.dropFeed
  simp

@[simp] theorem Part.proceedLoad_keeps :
    (p.proceedLoad).mc = p.mc ∧ (p.proceedLoad).ps = p.ps ∧ (p.proceedLoad).gbt = p.gbt ∧
      (p.proceedLoad).lsq = p.lsq ∧ (p.proceedLoad).rqx = p.rqx ∧ (p.proceedLoad).jw = p.jw ∧
      (p.proceedLoad).sa = p.sa ∧ (p.proceedLoad).attn = p.attn ∧ (p.proceedLoad).cfg = p.cfg ∧
      (p.proceedLoad).draws = p.draws ∧
      (p.proceedLoad).changed = p.changed := by
  unfold Part.proceedLoad
  split <;> simp

@[simp] theorem Part.endFeed_keeps (n : Nat) :
    (p.endFeed n).mc = p.mc ∧ (p.endFeed n).ps = p.ps ∧ (p.endFeed n).gbt = p.gbt ∧
      (p.endFeed n).lsq = p.lsq ∧ (p.endFeed n).rqx = p.rqx ∧ (p.endFeed n).jw = p.jw ∧
      (p.endFeed n).sa = p.sa ∧ (p.endFeed n).attn = p.attn ∧ (p.endFeed n).cfg = p.cfg ∧
      (p.endFeed n).draws = p.draws ∧
      (p.endFeed n).changed = p.changed := by
  unfold Part.endFeed
  simp

@[simp] theorem Part.skipLoadItem_keeps :
    (p.skipLoadItem).dt = p.dt ∧ (p.skipLoadItem).mc = p.mc ∧ (p.skipLoadItem).rsc = p.rsc ∧
      (p.skipLoadItem).ps = p.ps ∧ (p.skipLoadItem).gbt = p.gbt ∧ (p.skipLoadItem).lsq = p.lsq ∧
      (p.skipLoadItem).rqx = p.rqx ∧ (p.skipLoadItem).jw = p.jw ∧ (p.skipLoadItem).sa = p.sa ∧
      (p.skipLoadItem).attn = p.attn ∧ (p.skipLoadItem).cfg = p.cfg ∧ (p.skipLoadItem).lct = p.lct ∧
      (p.skipLoadItem).draws = p.draws ∧
      (p.skipLoadItem).changed = p.changed := by
  unfold Part.skipLoadItem
  simp

@[simp] theorem Part.withdrawFeed_keeps :
    (p.withdrawFeed).mc = p.mc ∧ (p.withdrawFeed).rsc = p.rsc ∧ (p.withdrawFeed).ps = p.ps ∧
      (p.withdrawFeed).gbt = p.gbt ∧ (p.withdrawFeed).lsq = p.lsq ∧ (p.withdrawFeed).rqx = p.rqx ∧
      (p.withdrawFeed).jw = p.jw ∧ (p.withdrawFeed).sa = p.sa ∧ (p.withdrawFeed).attn = p.attn ∧
      (p.withdrawFeed).cfg = p.cfg ∧
      (p.withdrawFeed).draws = p.draws ∧
      (p.withdrawFeed).changed = p.changed := by
  unfold Part.withdrawFeed
  split <;> simp

@[simp] theorem Part.applySwitch_keeps (n : Nat) :
    (p.applySwitch n).dt = p.dt ∧ (p.applySwitch n).lcu = p.lcu ∧ (p.applySwitch n).mc = p.mc ∧
      (p.applySwitch n).rsc = p.rsc ∧ (p.applySwitch n).gbt = p.gbt ∧ (p.applySwitch n).lsq = p.lsq ∧
      (p.applySwitch n).rqx = p.rqx ∧ (p.applySwitch n).sa = p.sa ∧ (p.applySwitch n).attn = p.attn ∧
      (p.applySwitch n).cfg = p.cfg ∧ (p.applySwitch n).lct = p.lct ∧
      (p.applySwitch n).draws = p.draws := by
  unfold Part.applySwitch
  (repeat' split) <;> simp

@[simp] theorem Part.issueSequence_keeps :
    (p.issueSequence).dt = p.dt ∧ (p.issueSequence).mc = p.mc ∧ (p.issueSequence).rsc = p.rsc ∧
      (p.issueSequence).ps = p.ps ∧ (p.issueSequence).gbt = p.gbt ∧ (p.issueSequence).lsq = p.lsq ∧
      (p.issueSequence).rqx = p.rqx ∧ (p.issueSequence).sa = p.sa ∧ (p.issueSequence).attn = p.attn ∧
      (p.issueSequence).cfg = p.cfg ∧ (p.issueSequence).lct = p.lct ∧
      (p.issueSequence).draws = p.draws := by
  unfold Part.issueSequence
  dsimp only
  split <;> simp

@[simp] theorem Part.reloadStarvation_keeps :
    (p.reloadStarvation).dt = p.dt ∧ (p.reloadStarvation).lcu = p.lcu ∧ (p.reloadStarvation).mc = p.mc ∧
      (p.reloadStarvation).rsc = p.rsc ∧ (p.reloadStarvation).ps = p.ps ∧ (p.reloadStarvation).gbt = p.gbt ∧
      (p.reloadStarvation).lsq = p.lsq ∧ (p.reloadStarvation).rqx = p.rqx ∧ (p.reloadStarvation).jw = p.jw ∧
      (p.reloadStarvation).sa = p.sa ∧ (p.reloadStarvation).attn = p.attn ∧ (p.reloadStarvation).cfg = p.cfg ∧
      (p.reloadStarvation).draws = p.draws ∧
      (p.reloadStarvation).changed = p.changed := by
  unfold Part.reloadStarvation
  split <;> simp

@[simp] theorem Part.loadPart_keeps (k : Nat) :
    (p.loadPart k).mc = p.mc ∧ (p.loadPart k).rsc = p.rsc ∧ (p.loadPart k).gbt = p.gbt ∧
      (p.loadPart k).lsq = p.lsq ∧ (p.loadPart k).rqx = p.rqx ∧ (p.loadPart k).sa = p.sa ∧
      (p.loadPart k).attn = p.attn ∧ (p.loadPart k).cfg = p.cfg ∧
      (p.loadPart k).draws = p.draws := by
  unfold Part.loadPart
  simp

@[simp] theorem Part.placed_keeps :
    (p.placed).mc = p.mc ∧ (p.placed).gbt = p.gbt ∧ (p.placed).lsq = p.lsq ∧
      (p.placed).rqx = p.rqx ∧ (p.placed).sa = p.sa ∧ (p.placed).attn = p.attn ∧
      (p.placed).cfg = p.cfg ∧
      (p.placed).draws = p.draws := by
  unfold Part.placed
  (repeat' split) <;> simp

@[simp] theorem Part.feedTimerExpires_keeps :
    (p.feedTimerExpires).mc = p.mc ∧ (p.feedTimerExpires).ps = p.ps ∧ (p.feedTimerExpires).gbt = p.gbt ∧
      (p.feedTimerExpires).lsq = p.lsq ∧ (p.feedTimerExpires).rqx = p.rqx ∧ (p.feedTimerExpires).sa = p.sa ∧
      (p.feedTimerExpires).attn = p.attn ∧ (p.feedTimerExpires).cfg = p.cfg ∧
      (p.feedTimerExpires).draws = p.draws ∧
      (p.feedTimerExpires).changed = p.changed := by
  unfold Part.feedTimerExpires
  split <;> simp

@[simp] theorem Part.starvationExpires_keeps :
    (p.starvationExpires).dt = p.dt ∧ (p.starvationExpires).lcu = p.lcu ∧ (p.starvationExpires).mc = p.mc ∧
      (p.starvationExpires).rsc = p.rsc ∧ (p.starvationExpires).ps = p.ps ∧ (p.starvationExpires).gbt = p.gbt ∧
      (p.starvationExpires).lsq = p.lsq ∧ (p.starvationExpires).rqx = p.rqx ∧ (p.starvationExpires).sa = p.sa ∧
      (p.starvationExpires).cfg = p.cfg ∧
      (p.starvationExpires).draws = p.draws ∧
      (p.starvationExpires).changed = p.changed := by
  unfold Part.starvationExpires
  simp

@[simp] theorem Part.tryCompleteClear_keeps (n : Nat) :
    (p.tryCompleteClear n).lcu = p.lcu ∧ (p.tryCompleteClear n).mc = p.mc ∧ (p.tryCompleteClear n).rsc = p.rsc ∧
      (p.tryCompleteClear n).ps = p.ps ∧ (p.tryCompleteClear n).gbt = p.gbt ∧ (p.tryCompleteClear n).lsq = p.lsq ∧
      (p.tryCompleteClear n).rqx = p.rqx ∧ (p.tryCompleteClear n).jw = p.jw ∧ (p.tryCompleteClear n).sa = p.sa ∧
      (p.tryCompleteClear n).attn = p.attn ∧ (p.tryCompleteClear n).cfg = p.cfg ∧ (p.tryCompleteClear n).lct = p.lct ∧
      (p.tryCompleteClear n).draws = p.draws ∧
      (p.tryCompleteClear n).changed = p.changed := by
  unfold Part.tryCompleteClear
  dsimp only
  (repeat' split) <;> simp

@[simp] theorem Part.endCatch_keeps :
    (p.endCatch).mc = p.mc ∧ (p.endCatch).rsc = p.rsc ∧ (p.endCatch).ps = p.ps ∧
      (p.endCatch).gbt = p.gbt ∧ (p.endCatch).lsq = p.lsq ∧ (p.endCatch).rqx = p.rqx ∧
      (p.endCatch).jw = p.jw ∧ (p.endCatch).sa = p.sa ∧ (p.endCatch).attn = p.attn ∧
      (p.endCatch).cfg = p.cfg ∧ (p.endCatch).lct = p.lct ∧
      (p.endCatch).draws = p.draws ∧
      (p.endCatch).changed = p.changed := by
  unfold Part.endCatch
  (repeat' split) <;> simp

@[simp] theorem Part.fireCatch_keeps :
    (p.fireCatch).mc = p.mc ∧ (p.fireCatch).rsc = p.rsc ∧ (p.fireCatch).ps = p.ps ∧
      (p.fireCatch).gbt = p.gbt ∧ (p.fireCatch).lsq = p.lsq ∧ (p.fireCatch).rqx = p.rqx ∧
      (p.fireCatch).jw = p.jw ∧ (p.fireCatch).sa = p.sa ∧ (p.fireCatch).attn = p.attn ∧
      (p.fireCatch).cfg = p.cfg ∧
      (p.fireCatch).draws = p.draws ∧
      (p.fireCatch).changed = p.changed := by
  unfold Part.fireCatch
  split <;> simp

@[simp] theorem Part.catchTimerExpires_keeps :
    (p.catchTimerExpires).mc = p.mc ∧ (p.catchTimerExpires).rsc = p.rsc ∧ (p.catchTimerExpires).ps = p.ps ∧
      (p.catchTimerExpires).gbt = p.gbt ∧ (p.catchTimerExpires).lsq = p.lsq ∧ (p.catchTimerExpires).rqx = p.rqx ∧
      (p.catchTimerExpires).jw = p.jw ∧ (p.catchTimerExpires).sa = p.sa ∧ (p.catchTimerExpires).attn = p.attn ∧
      (p.catchTimerExpires).cfg = p.cfg ∧
      (p.catchTimerExpires).draws = p.draws ∧
      (p.catchTimerExpires).changed = p.changed := by
  unfold Part.catchTimerExpires
  simp

@[simp] theorem Part.releaseSlot_keeps (s : SlotId) :
    (p.releaseSlot s).dt = p.dt ∧ (p.releaseSlot s).lcu = p.lcu ∧ (p.releaseSlot s).mc = p.mc ∧
      (p.releaseSlot s).rsc = p.rsc ∧ (p.releaseSlot s).gbt = p.gbt ∧ (p.releaseSlot s).lsq = p.lsq ∧
      (p.releaseSlot s).rqx = p.rqx ∧ (p.releaseSlot s).jw = p.jw ∧ (p.releaseSlot s).sa = p.sa ∧
      (p.releaseSlot s).attn = p.attn ∧ (p.releaseSlot s).cfg = p.cfg ∧ (p.releaseSlot s).lct = p.lct ∧
      (p.releaseSlot s).draws = p.draws := by
  unfold Part.releaseSlot
  simp

@[simp] theorem Part.countDisposition_keeps (d : Disposition) :
    (p.countDisposition d).dt = p.dt ∧ (p.countDisposition d).mc = p.mc ∧ (p.countDisposition d).rsc = p.rsc ∧
      (p.countDisposition d).ps = p.ps ∧ (p.countDisposition d).gbt = p.gbt ∧ (p.countDisposition d).lsq = p.lsq ∧
      (p.countDisposition d).rqx = p.rqx ∧ (p.countDisposition d).jw = p.jw ∧ (p.countDisposition d).sa = p.sa ∧
      (p.countDisposition d).attn = p.attn ∧ (p.countDisposition d).cfg = p.cfg ∧ (p.countDisposition d).lct = p.lct ∧
      (p.countDisposition d).draws = p.draws ∧
      (p.countDisposition d).changed = p.changed := by
  unfold Part.countDisposition
  simp

@[simp] theorem Part.settlePart_keeps (k : Nat) (x : PartRecord) (r : Routing) (d : Disposition) (c : Option Nat) :
    (p.settlePart k x r d c).mc = p.mc ∧ (p.settlePart k x r d c).rsc = p.rsc ∧ (p.settlePart k x r d c).gbt = p.gbt ∧
      (p.settlePart k x r d c).lsq = p.lsq ∧ (p.settlePart k x r d c).rqx = p.rqx ∧ (p.settlePart k x r d c).sa = p.sa ∧
      (p.settlePart k x r d c).attn = p.attn ∧ (p.settlePart k x r d c).cfg = p.cfg ∧ (p.settlePart k x r d c).lct = p.lct ∧
      (p.settlePart k x r d c).draws = p.draws := by
  unfold Part.settlePart
  simp

@[simp] theorem Part.releaseRoute_keeps (r : Route) :
    (p.releaseRoute r).dt = p.dt ∧ (p.releaseRoute r).lcu = p.lcu ∧ (p.releaseRoute r).mc = p.mc ∧
      (p.releaseRoute r).rsc = p.rsc ∧ (p.releaseRoute r).ps = p.ps ∧ (p.releaseRoute r).lsq = p.lsq ∧
      (p.releaseRoute r).rqx = p.rqx ∧ (p.releaseRoute r).jw = p.jw ∧ (p.releaseRoute r).sa = p.sa ∧
      (p.releaseRoute r).attn = p.attn ∧ (p.releaseRoute r).cfg = p.cfg ∧ (p.releaseRoute r).lct = p.lct ∧
      (p.releaseRoute r).draws = p.draws := by
  unfold Part.releaseRoute
  split <;> simp

@[simp] theorem Part.settleCarried_keeps (k : Nat) (x : PartRecord) (b : Bool) (c : Option Nat) :
    (p.settleCarried k x b c).mc = p.mc ∧ (p.settleCarried k x b c).rsc = p.rsc ∧
      (p.settleCarried k x b c).gbt = p.gbt ∧ (p.settleCarried k x b c).lsq = p.lsq ∧
      (p.settleCarried k x b c).rqx = p.rqx ∧ (p.settleCarried k x b c).sa = p.sa ∧
      (p.settleCarried k x b c).attn = p.attn ∧ (p.settleCarried k x b c).cfg = p.cfg ∧
      (p.settleCarried k x b c).lct = p.lct ∧ (p.settleCarried k x b c).draws = p.draws + 1 := by
  unfold Part.settleCarried
  simp

@[simp] theorem Part.settleClear_keeps (k : Nat) (b : Bool) :
    (p.settleClear k b).mc = p.mc ∧ (p.settleClear k b).lsq = p.lsq ∧ (p.settleClear k b).rqx = p.rqx ∧
      (p.settleClear k b).sa = p.sa ∧ (p.settleClear k b).cfg = p.cfg ∧ (p.settleClear k b).lct = p.lct := by
  unfold Part.settleClear
  (repeat' split) <;> simp

@[simp] theorem Part.startClearItem_keeps (k : Nat) :
    (p.startClearItem k).mc = p.mc ∧ (p.startClearItem k).lsq = p.lsq ∧ (p.startClearItem k).rqx = p.rqx ∧
      (p.startClearItem k).sa = p.sa ∧ (p.startClearItem k).cfg = p.cfg := by
  unfold Part.startClearItem
  dsimp only
  split <;> simp

@[simp] theorem Part.skipClearItem_keeps (k : Nat) :
    (p.skipClearItem k).mc = p.mc ∧ (p.skipClearItem k).lsq = p.lsq ∧ (p.skipClearItem k).rqx = p.rqx ∧
      (p.skipClearItem k).sa = p.sa ∧ (p.skipClearItem k).attn = p.attn ∧ (p.skipClearItem k).cfg = p.cfg ∧
      (p.skipClearItem k).lct = p.lct := by
  unfold Part.skipClearItem
  split <;> simp

@[simp] theorem Part.startItem_keeps (i : Item) :
    (p.startItem i).lsq = p.lsq ∧ (p.startItem i).rqx = p.rqx ∧ (p.startItem i).sa = p.sa ∧
      (p.startItem i).cfg = p.cfg := by
  unfold Part.startItem
  split <;> simp

@[simp] theorem Part.startDeferred_keeps :
    (p.startDeferred).lsq = p.lsq ∧ (p.startDeferred).rqx = p.rqx ∧ (p.startDeferred).sa = p.sa ∧
      (p.startDeferred).cfg = p.cfg := by
  have h := fun (q : Part) (l : List Item) => And.intro
    (Part.foldl_same Part.lsq Part.startItem (by simp) l q) (And.intro
    (Part.foldl_same Part.rqx Part.startItem (by simp) l q) (And.intro
    (Part.foldl_same Part.sa Part.startItem (by simp) l q)
    (Part.foldl_same Part.cfg Part.startItem (by simp) l q)))
  unfold Part.startDeferred
  simp [h]

@[simp] theorem Part.skipItem_keeps (n : Nat) (i : Item) :
    (Part.skipItem n p i).lsq = p.lsq ∧ (Part.skipItem n p i).rqx = p.rqx ∧ (Part.skipItem n p i).sa = p.sa ∧
      (Part.skipItem n p i).cfg = p.cfg := by
  unfold Part.skipItem
  split <;> simp

@[simp] theorem Part.supersede_keeps (l : List Item) (n o : Nat) :
    (p.supersede l n o).lsq = p.lsq ∧ (p.supersede l n o).rqx = p.rqx ∧ (p.supersede l n o).sa = p.sa ∧
      (p.supersede l n o).cfg = p.cfg := by
  have h := fun (q : Part) (l : List Item) => And.intro
    (Part.foldl_same Part.lsq (Part.skipItem n) (by simp) l q) (And.intro
    (Part.foldl_same Part.rqx (Part.skipItem n) (by simp) l q) (And.intro
    (Part.foldl_same Part.sa (Part.skipItem n) (by simp) l q)
    (Part.foldl_same Part.cfg (Part.skipItem n) (by simp) l q)))
  unfold Part.supersede
  dsimp only
  split <;> simp [h]

@[simp] theorem Part.turnDial_keeps (g : Geometry) :
    (p.turnDial g).lsq = p.lsq ∧ (p.turnDial g).rqx = p.rqx ∧ (p.turnDial g).sa = p.sa ∧
      (p.turnDial g).cfg = p.cfg := by
  unfold Part.turnDial
  simp

@[simp] theorem Part.openDwell_keeps (g : Geometry) :
    (p.openDwell g).lcu = p.lcu ∧ (p.openDwell g).mc = p.mc ∧ (p.openDwell g).rsc = p.rsc ∧
      (p.openDwell g).ps = p.ps ∧ (p.openDwell g).gbt = p.gbt ∧ (p.openDwell g).lsq = p.lsq ∧
      (p.openDwell g).rqx = p.rqx ∧ (p.openDwell g).jw = p.jw ∧ (p.openDwell g).sa = p.sa ∧
      (p.openDwell g).attn = p.attn ∧ (p.openDwell g).cfg = p.cfg ∧ (p.openDwell g).lct = p.lct ∧
      (p.openDwell g).draws = p.draws ∧
      (p.openDwell g).changed = p.changed := by
  unfold Part.openDwell
  simp

@[simp] theorem Part.index_keeps :
    (p.index).rqx = p.rqx ∧ (p.index).sa = p.sa ∧ (p.index).cfg = p.cfg := by
  unfold Part.index
  dsimp only
  (repeat' split) <;> simp

@[simp] theorem Part.jamExpires_keeps :
    (p.jamExpires).dt = p.dt ∧ (p.jamExpires).lcu = p.lcu ∧ (p.jamExpires).mc = p.mc ∧
      (p.jamExpires).rsc = p.rsc ∧ (p.jamExpires).ps = p.ps ∧ (p.jamExpires).gbt = p.gbt ∧
      (p.jamExpires).rqx = p.rqx ∧ (p.jamExpires).sa = p.sa ∧ (p.jamExpires).cfg = p.cfg ∧
      (p.jamExpires).draws = p.draws := by
  unfold Part.jamExpires
  simp

/-- `catchPocket` changes the pocket table and the bins alone. -/
theorem catchPocket_keeps (r : Reason) (a : Part × Nat) (k : Nat) :
    (catchPocket r a k).1.lcu = a.1.lcu ∧ (catchPocket r a k).1.mc = a.1.mc ∧ (catchPocket r a k).1.rsc = a.1.rsc ∧
      (catchPocket r a k).1.ps = a.1.ps ∧ (catchPocket r a k).1.lsq = a.1.lsq ∧ (catchPocket r a k).1.rqx = a.1.rqx ∧
      (catchPocket r a k).1.jw = a.1.jw ∧ (catchPocket r a k).1.sa = a.1.sa ∧ (catchPocket r a k).1.attn = a.1.attn ∧
      (catchPocket r a k).1.cfg = a.1.cfg ∧ (catchPocket r a k).1.lct = a.1.lct ∧
      (catchPocket r a k).1.draws = a.1.draws := by
  unfold catchPocket
  (repeat' split) <;> simp

theorem catchFold_same {β : Type} (view : Part → β) (r : Reason)
    (h : ∀ a k, view (catchPocket r a k).1 = view a.1) (l : List Nat) (a : Part × Nat) :
    view (l.foldl (catchPocket r) a).1 = view a.1 := by
  induction l generalizing a with
  | nil => rfl
  | cons k rest ih => simp [List.foldl_cons, ih, h]

@[simp] theorem Part.catchAll_keeps (r : Reason) :
    ((p.catchAll r).1).lcu = p.lcu ∧ ((p.catchAll r).1).mc = p.mc ∧ ((p.catchAll r).1).rsc = p.rsc ∧
      ((p.catchAll r).1).ps = p.ps ∧ ((p.catchAll r).1).lsq = p.lsq ∧ ((p.catchAll r).1).rqx = p.rqx ∧
      ((p.catchAll r).1).jw = p.jw ∧ ((p.catchAll r).1).sa = p.sa ∧ ((p.catchAll r).1).attn = p.attn ∧
      ((p.catchAll r).1).cfg = p.cfg ∧ ((p.catchAll r).1).lct = p.lct ∧
      ((p.catchAll r).1).draws = p.draws := by
  unfold Part.catchAll
  dsimp only [Part.asOneChange_lcu, Part.asOneChange_mc, Part.asOneChange_rsc, Part.asOneChange_ps, Part.asOneChange_lsq,
    Part.asOneChange_rqx, Part.asOneChange_jw, Part.asOneChange_sa, Part.asOneChange_attn, Part.asOneChange_cfg,
    Part.asOneChange_lct, Part.asOneChange_draws]
  refine ⟨?_, ?_, ?_, ?_, ?_, ?_, ?_, ?_, ?_, ?_, ?_, ?_⟩
  · exact catchFold_same Part.lcu r (fun a k => by simp [catchPocket_keeps]) _ _
  · exact catchFold_same Part.mc r (fun a k => by simp [catchPocket_keeps]) _ _
  · exact catchFold_same Part.rsc r (fun a k => by simp [catchPocket_keeps]) _ _
  · exact catchFold_same Part.ps r (fun a k => by simp [catchPocket_keeps]) _ _
  · exact catchFold_same Part.lsq r (fun a k => by simp [catchPocket_keeps]) _ _
  · exact catchFold_same Part.rqx r (fun a k => by simp [catchPocket_keeps]) _ _
  · exact catchFold_same Part.jw r (fun a k => by simp [catchPocket_keeps]) _ _
  · exact catchFold_same Part.sa r (fun a k => by simp [catchPocket_keeps]) _ _
  · exact catchFold_same Part.attn r (fun a k => by simp [catchPocket_keeps]) _ _
  · exact catchFold_same Part.cfg r (fun a k => by simp [catchPocket_keeps]) _ _
  · exact catchFold_same Part.lct r (fun a k => by simp [catchPocket_keeps]) _ _
  · exact catchFold_same Part.draws r (fun a k => by simp [catchPocket_keeps]) _ _

@[simp] theorem Part.stagePlan_keeps :
    (p.stagePlan).dt = p.dt ∧ (p.stagePlan).lcu = p.lcu ∧ (p.stagePlan).mc = p.mc ∧
      (p.stagePlan).rsc = p.rsc ∧ (p.stagePlan).gbt = p.gbt ∧ (p.stagePlan).lsq = p.lsq ∧
      (p.stagePlan).jw = p.jw ∧ (p.stagePlan).attn = p.attn ∧ (p.stagePlan).cfg = p.cfg ∧
      (p.stagePlan).lct = p.lct ∧
      (p.stagePlan).draws = p.draws := by
  unfold Part.stagePlan
  split <;> simp

@[simp] theorem Part.endStaging_keeps (w : Staging) :
    (p.endStaging w).dt = p.dt ∧ (p.endStaging w).lcu = p.lcu ∧ (p.endStaging w).mc = p.mc ∧
      (p.endStaging w).rsc = p.rsc ∧ (p.endStaging w).gbt = p.gbt ∧ (p.endStaging w).lsq = p.lsq ∧
      (p.endStaging w).attn = p.attn ∧ (p.endStaging w).cfg = p.cfg ∧ (p.endStaging w).lct = p.lct ∧
      (p.endStaging w).draws = p.draws := by
  unfold Part.endStaging
  split <;> simp

@[simp] theorem Part.switchPlan_keeps :
    (p.switchPlan).dt = p.dt ∧ (p.switchPlan).lcu = p.lcu ∧ (p.switchPlan).mc = p.mc ∧
      (p.switchPlan).rsc = p.rsc ∧ (p.switchPlan).gbt = p.gbt ∧ (p.switchPlan).lsq = p.lsq ∧
      (p.switchPlan).jw = p.jw ∧ (p.switchPlan).attn = p.attn ∧ (p.switchPlan).cfg = p.cfg ∧
      (p.switchPlan).lct = p.lct ∧
      (p.switchPlan).draws = p.draws := by
  unfold Part.switchPlan Part.refuseSwitch
  dsimp only
  (repeat' split) <;> simp

@[simp] theorem Part.recheckSlot_keeps (n : Nat) (s : SlotId) :
    (p.recheckSlot n s).dt = p.dt ∧ (p.recheckSlot n s).lcu = p.lcu ∧ (p.recheckSlot n s).mc = p.mc ∧
      (p.recheckSlot n s).rsc = p.rsc ∧ (p.recheckSlot n s).gbt = p.gbt ∧ (p.recheckSlot n s).lsq = p.lsq ∧
      (p.recheckSlot n s).rqx = p.rqx ∧ (p.recheckSlot n s).sa = p.sa ∧ (p.recheckSlot n s).attn = p.attn ∧
      (p.recheckSlot n s).cfg = p.cfg ∧ (p.recheckSlot n s).lct = p.lct ∧
      (p.recheckSlot n s).draws = p.draws := by
  unfold Part.recheckSlot
  (repeat' split) <;> simp

@[simp] theorem Part.setupUnderLot_keeps (x : Nominal) (f : Four Bool) (m : Meter) :
    (Part.setupUnderLot x f p m).ps = p.ps ∧ (Part.setupUnderLot x f p m).gbt = p.gbt ∧ (Part.setupUnderLot x f p m).cfg = p.cfg ∧
      (Part.setupUnderLot x f p m).draws = p.draws := by
  unfold Part.setupUnderLot
  split <;> simp

@[simp] theorem Part.beginSetups_keeps (w : StartLotWork) (r : Option (Nat × LotCounters)) (f : Four Bool) :
    (p.beginSetups w r f).ps = p.ps ∧ (p.beginSetups w r f).gbt = p.gbt ∧ (p.beginSetups w r f).cfg = p.cfg ∧
      (p.beginSetups w r f).draws = p.draws := by
  unfold Part.beginSetups
  dsimp only
  refine ⟨?_, ?_, ?_, ?_⟩
  · exact (Part.foldl_same Part.ps (Part.setupUnderLot w.nominal f) (by simp) _ _).trans (by simp)
  · exact (Part.foldl_same Part.gbt (Part.setupUnderLot w.nominal f) (by simp) _ _).trans (by simp)
  · exact (Part.foldl_same Part.cfg (Part.setupUnderLot w.nominal f) (by simp) _ _).trans (by simp)
  · exact (Part.foldl_same Part.draws (Part.setupUnderLot w.nominal f) (by simp) _ _).trans (by simp)

@[simp] theorem Part.startLot_keeps (f : Four Bool) :
    (p.startLot f).ps = p.ps ∧ (p.startLot f).gbt = p.gbt ∧ (p.startLot f).cfg = p.cfg ∧
      (p.startLot f).draws = p.draws := by
  unfold Part.startLot
  dsimp only
  (repeat' split) <;> simp

@[simp] theorem Part.contextRead_keeps (w : StartLotWork) (d : List Byte) (f : Four Bool) :
    (p.contextRead w d f).ps = p.ps ∧ (p.contextRead w d f).gbt = p.gbt ∧ (p.contextRead w d f).cfg = p.cfg ∧
      (p.contextRead w d f).draws = p.draws := by
  unfold Part.contextRead
  split <;> simp

@[simp] theorem Part.joinIfPresent_keeps (c : HoldCause) :
    (p.joinIfPresent c).dt = p.dt ∧ (p.joinIfPresent c).lcu = p.lcu ∧ (p.joinIfPresent c).mc = p.mc ∧
      (p.joinIfPresent c).rsc = p.rsc ∧ (p.joinIfPresent c).ps = p.ps ∧ (p.joinIfPresent c).gbt = p.gbt ∧
      (p.joinIfPresent c).rqx = p.rqx ∧ (p.joinIfPresent c).sa = p.sa ∧ (p.joinIfPresent c).attn = p.attn ∧
      (p.joinIfPresent c).cfg = p.cfg ∧ (p.joinIfPresent c).lct = p.lct ∧
      (p.joinIfPresent c).draws = p.draws := by
  unfold Part.joinIfPresent
  split <;> simp

@[simp] theorem Part.enterOpenLot_keeps :
    (p.enterOpenLot).dt = p.dt ∧ (p.enterOpenLot).lcu = p.lcu ∧ (p.enterOpenLot).mc = p.mc ∧
      (p.enterOpenLot).rsc = p.rsc ∧ (p.enterOpenLot).ps = p.ps ∧ (p.enterOpenLot).gbt = p.gbt ∧
      (p.enterOpenLot).rqx = p.rqx ∧ (p.enterOpenLot).sa = p.sa ∧ (p.enterOpenLot).attn = p.attn ∧
      (p.enterOpenLot).cfg = p.cfg ∧
      (p.enterOpenLot).draws = p.draws := by
  unfold Part.enterOpenLot
  split <;> simp

@[simp] theorem Part.openLot_keeps (w : StartLotWork) (r : Option (Nat × LotCounters)) :
    (p.openLot w r).dt = p.dt ∧ (p.openLot w r).mc = p.mc ∧ (p.openLot w r).rsc = p.rsc ∧
      (p.openLot w r).gbt = p.gbt ∧ (p.openLot w r).rqx = p.rqx ∧ (p.openLot w r).sa = p.sa ∧
      (p.openLot w r).attn = p.attn ∧ (p.openLot w r).cfg = p.cfg ∧
      (p.openLot w r).draws = p.draws := by
  unfold Part.openLot
  simp

@[simp] theorem Part.combineSetups_keeps (w : StartLotWork) (r : Option (Nat × LotCounters)) (o : Four (Option ChannelCause)) :
    (p.combineSetups w r o).dt = p.dt ∧ (p.combineSetups w r o).mc = p.mc ∧ (p.combineSetups w r o).rsc = p.rsc ∧
      (p.combineSetups w r o).gbt = p.gbt ∧ (p.combineSetups w r o).attn = p.attn ∧ (p.combineSetups w r o).cfg = p.cfg ∧
      (p.combineSetups w r o).draws = p.draws := by
  unfold Part.combineSetups
  split <;> simp

@[simp] theorem Part.drain_keeps :
    (p.drain).dt = p.dt ∧ (p.drain).lcu = p.lcu ∧ (p.drain).mc = p.mc ∧
      (p.drain).rsc = p.rsc ∧ (p.drain).ps = p.ps ∧ (p.drain).gbt = p.gbt ∧
      (p.drain).rqx = p.rqx ∧ (p.drain).jw = p.jw ∧ (p.drain).sa = p.sa ∧
      (p.drain).attn = p.attn ∧ (p.drain).cfg = p.cfg ∧
      (p.drain).draws = p.draws := by
  unfold Part.drain
  split <;> simp

@[simp] theorem Part.endLot_keeps :
    (p.endLot).dt = p.dt ∧ (p.endLot).lcu = p.lcu ∧ (p.endLot).mc = p.mc ∧
      (p.endLot).rsc = p.rsc ∧ (p.endLot).ps = p.ps ∧ (p.endLot).gbt = p.gbt ∧
      (p.endLot).jw = p.jw ∧ (p.endLot).attn = p.attn ∧ (p.endLot).cfg = p.cfg ∧
      (p.endLot).draws = p.draws := by
  unfold Part.endLot
  dsimp only
  (repeat' split) <;> simp

@[simp] theorem Part.abortLot_keeps :
    (p.abortLot).mc = p.mc ∧ (p.abortLot).ps = p.ps ∧ (p.abortLot).attn = p.attn ∧
      (p.abortLot).cfg = p.cfg ∧
      (p.abortLot).draws = p.draws := by
  unfold Part.abortLot
  (repeat' split) <;> simp

@[simp] theorem withdrawReservation_keeps (k : Nat) :
    (withdrawReservation p k).mc = p.mc ∧ (withdrawReservation p k).ps = p.ps ∧ (withdrawReservation p k).gbt = p.gbt ∧
      (withdrawReservation p k).lsq = p.lsq ∧ (withdrawReservation p k).rqx = p.rqx ∧ (withdrawReservation p k).jw = p.jw ∧
      (withdrawReservation p k).sa = p.sa ∧ (withdrawReservation p k).attn = p.attn ∧ (withdrawReservation p k).cfg = p.cfg ∧
      (withdrawReservation p k).lct = p.lct ∧
      (withdrawReservation p k).draws = p.draws := by
  unfold withdrawReservation
  split <;> simp

@[simp] theorem Part.withdrawSwitch_keeps :
    (p.withdrawSwitch).dt = p.dt ∧ (p.withdrawSwitch).lcu = p.lcu ∧ (p.withdrawSwitch).mc = p.mc ∧
      (p.withdrawSwitch).rsc = p.rsc ∧ (p.withdrawSwitch).gbt = p.gbt ∧ (p.withdrawSwitch).lsq = p.lsq ∧
      (p.withdrawSwitch).rqx = p.rqx ∧ (p.withdrawSwitch).sa = p.sa ∧ (p.withdrawSwitch).attn = p.attn ∧
      (p.withdrawSwitch).cfg = p.cfg ∧ (p.withdrawSwitch).lct = p.lct ∧
      (p.withdrawSwitch).draws = p.draws := by
  unfold Part.withdrawSwitch
  split <;> simp

@[simp] theorem Part.foldWithdraw_keeps (l : List Nat) :
    (l.foldl withdrawReservation p).mc = p.mc ∧ (l.foldl withdrawReservation p).ps = p.ps ∧ (l.foldl withdrawReservation p).gbt = p.gbt ∧
      (l.foldl withdrawReservation p).lsq = p.lsq ∧ (l.foldl withdrawReservation p).rqx = p.rqx ∧ (l.foldl withdrawReservation p).jw = p.jw ∧
      (l.foldl withdrawReservation p).sa = p.sa ∧ (l.foldl withdrawReservation p).attn = p.attn ∧ (l.foldl withdrawReservation p).cfg = p.cfg ∧
      (l.foldl withdrawReservation p).lct = p.lct ∧
      (l.foldl withdrawReservation p).draws = p.draws := by
  refine ⟨?_, ?_, ?_, ?_, ?_, ?_, ?_, ?_, ?_, ?_, ?_⟩
  · exact Part.foldl_same Part.mc _ (fun q c => by simp) _ _
  · exact Part.foldl_same Part.ps _ (fun q c => by simp) _ _
  · exact Part.foldl_same Part.gbt _ (fun q c => by simp) _ _
  · exact Part.foldl_same Part.lsq _ (fun q c => by simp) _ _
  · exact Part.foldl_same Part.rqx _ (fun q c => by simp) _ _
  · exact Part.foldl_same Part.jw _ (fun q c => by simp) _ _
  · exact Part.foldl_same Part.sa _ (fun q c => by simp) _ _
  · exact Part.foldl_same Part.attn _ (fun q c => by simp) _ _
  · exact Part.foldl_same Part.cfg _ (fun q c => by simp) _ _
  · exact Part.foldl_same Part.lct _ (fun q c => by simp) _ _
  · exact Part.foldl_same Part.draws _ (fun q c => by simp) _ _

@[simp] theorem Part.lotClose_keeps :
    (p.lotClose).mc = p.mc ∧ (p.lotClose).gbt = p.gbt ∧ (p.lotClose).rqx = p.rqx ∧
      (p.lotClose).attn = p.attn ∧ (p.lotClose).cfg = p.cfg ∧
      (p.lotClose).draws = p.draws := by
  unfold Part.lotClose
  simp

@[simp] theorem Part.endCompletion_keeps (c : CloseCompletion) :
    (p.endCompletion c).dt = p.dt ∧ (p.endCompletion c).lcu = p.lcu ∧ (p.endCompletion c).mc = p.mc ∧
      (p.endCompletion c).rsc = p.rsc ∧ (p.endCompletion c).ps = p.ps ∧ (p.endCompletion c).gbt = p.gbt ∧
      (p.endCompletion c).jw = p.jw ∧ (p.endCompletion c).attn = p.attn ∧ (p.endCompletion c).cfg = p.cfg ∧
      (p.endCompletion c).lct = p.lct ∧
      (p.endCompletion c).draws = p.draws := by
  unfold Part.endCompletion
  split <;> simp

@[simp] theorem Part.holdRequest_keeps :
    (p.holdRequest).dt = p.dt ∧ (p.holdRequest).lcu = p.lcu ∧ (p.holdRequest).mc = p.mc ∧
      (p.holdRequest).rsc = p.rsc ∧ (p.holdRequest).ps = p.ps ∧ (p.holdRequest).gbt = p.gbt ∧
      (p.holdRequest).attn = p.attn ∧ (p.holdRequest).cfg = p.cfg ∧
      (p.holdRequest).draws = p.draws := by
  unfold Part.holdRequest
  split <;> simp

@[simp] theorem Part.enterLotMode_keeps :
    (p.enterLotMode).rqx = p.rqx ∧ (p.enterLotMode).sa = p.sa ∧ (p.enterLotMode).cfg = p.cfg := by
  unfold Part.enterLotMode
  split <;> simp

@[simp] theorem Part.resume_keeps :
    (p.resume).cfg = p.cfg := by
  unfold Part.resume
  dsimp only
  (repeat' split) <;> simp

@[simp] theorem Part.clearHalt_keeps :
    (p.clearHalt).lcu = p.lcu ∧ (p.clearHalt).mc = p.mc ∧ (p.clearHalt).rsc = p.rsc ∧
      (p.clearHalt).ps = p.ps ∧ (p.clearHalt).attn = p.attn ∧ (p.clearHalt).cfg = p.cfg ∧
      (p.clearHalt).draws = p.draws := by
  unfold Part.clearHalt
  dsimp only
  (repeat' split) <;> simp

@[simp] theorem Part.meterRestart_keeps (b : Bool) :
    (p.meterRestart b).ps = p.ps ∧ (p.meterRestart b).gbt = p.gbt ∧ (p.meterRestart b).cfg = p.cfg ∧
      (p.meterRestart b).draws = p.draws := by
  unfold Part.meterRestart
  dsimp only
  (repeat' split) <;> simp

@[simp] theorem Part.setThinning_keeps :
    (p.setThinning).dt = p.dt ∧ (p.setThinning).mc = p.mc ∧ (p.setThinning).rsc = p.rsc ∧
      (p.setThinning).ps = p.ps ∧ (p.setThinning).gbt = p.gbt ∧ (p.setThinning).lsq = p.lsq ∧
      (p.setThinning).jw = p.jw ∧ (p.setThinning).attn = p.attn ∧ (p.setThinning).cfg = p.cfg ∧
      (p.setThinning).lct = p.lct ∧
      (p.setThinning).draws = p.draws ∧
      (p.setThinning).changed = p.changed := by
  unfold Part.setThinning
  dsimp only
  (repeat' split) <;> simp

@[simp] theorem Part.endPortWrite_keeps (c : ResultCode) :
    (p.endPortWrite c).dt = p.dt ∧ (p.endPortWrite c).lcu = p.lcu ∧ (p.endPortWrite c).mc = p.mc ∧
      (p.endPortWrite c).rsc = p.rsc ∧ (p.endPortWrite c).ps = p.ps ∧ (p.endPortWrite c).gbt = p.gbt ∧
      (p.endPortWrite c).lsq = p.lsq ∧ (p.endPortWrite c).jw = p.jw ∧ (p.endPortWrite c).attn = p.attn ∧
      (p.endPortWrite c).cfg = p.cfg ∧ (p.endPortWrite c).lct = p.lct ∧
      (p.endPortWrite c).draws = p.draws ∧
      (p.endPortWrite c).changed = p.changed := by
  unfold Part.endPortWrite
  simp

@[simp] theorem Part.portWrite_keeps :
    (p.portWrite).dt = p.dt ∧ (p.portWrite).lcu = p.lcu ∧ (p.portWrite).mc = p.mc ∧
      (p.portWrite).rsc = p.rsc ∧ (p.portWrite).ps = p.ps ∧ (p.portWrite).gbt = p.gbt ∧
      (p.portWrite).jw = p.jw ∧ (p.portWrite).attn = p.attn ∧ (p.portWrite).cfg = p.cfg ∧
      (p.portWrite).lct = p.lct ∧
      (p.portWrite).draws = p.draws := by
  unfold Part.portWrite
  dsimp only
  (repeat' split) <;> simp

@[simp] theorem Part.unknownRequest_keeps :
    (p.unknownRequest).dt = p.dt ∧ (p.unknownRequest).lcu = p.lcu ∧ (p.unknownRequest).mc = p.mc ∧
      (p.unknownRequest).rsc = p.rsc ∧ (p.unknownRequest).ps = p.ps ∧ (p.unknownRequest).gbt = p.gbt ∧
      (p.unknownRequest).lsq = p.lsq ∧ (p.unknownRequest).jw = p.jw ∧ (p.unknownRequest).attn = p.attn ∧
      (p.unknownRequest).cfg = p.cfg ∧ (p.unknownRequest).lct = p.lct ∧
      (p.unknownRequest).draws = p.draws ∧
      (p.unknownRequest).changed = p.changed := by
  unfold Part.unknownRequest
  simp

@[simp] theorem Part.testHead_keeps :
    (p.testHead).dt = p.dt ∧ (p.testHead).lcu = p.lcu ∧ (p.testHead).mc = p.mc ∧
      (p.testHead).rsc = p.rsc ∧ (p.testHead).ps = p.ps ∧ (p.testHead).gbt = p.gbt ∧
      (p.testHead).lsq = p.lsq ∧ (p.testHead).rqx = p.rqx ∧ (p.testHead).attn = p.attn ∧
      (p.testHead).cfg = p.cfg ∧ (p.testHead).lct = p.lct ∧
      (p.testHead).draws = p.draws ∧
      (p.testHead).changed = p.changed := by
  unfold Part.testHead
  (repeat' split) <;> simp

@[simp] theorem Part.settleLevel_keeps (a : JournalArea) :
    (p.settleLevel a).dt = p.dt ∧ (p.settleLevel a).lcu = p.lcu ∧ (p.settleLevel a).mc = p.mc ∧
      (p.settleLevel a).rsc = p.rsc ∧ (p.settleLevel a).ps = p.ps ∧ (p.settleLevel a).gbt = p.gbt ∧
      (p.settleLevel a).lsq = p.lsq ∧ (p.settleLevel a).rqx = p.rqx ∧ (p.settleLevel a).sa = p.sa ∧
      (p.settleLevel a).attn = p.attn ∧ (p.settleLevel a).cfg = p.cfg ∧ (p.settleLevel a).lct = p.lct ∧
      (p.settleLevel a).draws = p.draws ∧
      (p.settleLevel a).changed = p.changed := by
  unfold Part.settleLevel
  simp

@[simp] theorem Part.startAge_keeps (a : JournalArea) :
    (p.startAge a).dt = p.dt ∧ (p.startAge a).lcu = p.lcu ∧ (p.startAge a).mc = p.mc ∧
      (p.startAge a).rsc = p.rsc ∧ (p.startAge a).ps = p.ps ∧ (p.startAge a).gbt = p.gbt ∧
      (p.startAge a).lsq = p.lsq ∧ (p.startAge a).rqx = p.rqx ∧ (p.startAge a).jw = p.jw ∧
      (p.startAge a).sa = p.sa ∧ (p.startAge a).attn = p.attn ∧ (p.startAge a).cfg = p.cfg ∧
      (p.startAge a).draws = p.draws ∧
      (p.startAge a).changed = p.changed := by
  unfold Part.startAge
  split <;> simp

@[simp] theorem Part.ageAtPublish_keeps (a : JournalArea) :
    (p.ageAtPublish a).dt = p.dt ∧ (p.ageAtPublish a).lcu = p.lcu ∧ (p.ageAtPublish a).mc = p.mc ∧
      (p.ageAtPublish a).rsc = p.rsc ∧ (p.ageAtPublish a).ps = p.ps ∧ (p.ageAtPublish a).gbt = p.gbt ∧
      (p.ageAtPublish a).lsq = p.lsq ∧ (p.ageAtPublish a).rqx = p.rqx ∧ (p.ageAtPublish a).jw = p.jw ∧
      (p.ageAtPublish a).sa = p.sa ∧ (p.ageAtPublish a).attn = p.attn ∧ (p.ageAtPublish a).cfg = p.cfg ∧
      (p.ageAtPublish a).draws = p.draws ∧
      (p.ageAtPublish a).changed = p.changed := by
  unfold Part.ageAtPublish
  split <;> simp

@[simp] theorem Part.ageAtReclaim_keeps (a : JournalArea) :
    (p.ageAtReclaim a).dt = p.dt ∧ (p.ageAtReclaim a).lcu = p.lcu ∧ (p.ageAtReclaim a).mc = p.mc ∧
      (p.ageAtReclaim a).rsc = p.rsc ∧ (p.ageAtReclaim a).ps = p.ps ∧ (p.ageAtReclaim a).gbt = p.gbt ∧
      (p.ageAtReclaim a).lsq = p.lsq ∧ (p.ageAtReclaim a).rqx = p.rqx ∧ (p.ageAtReclaim a).jw = p.jw ∧
      (p.ageAtReclaim a).sa = p.sa ∧ (p.ageAtReclaim a).attn = p.attn ∧ (p.ageAtReclaim a).cfg = p.cfg ∧
      (p.ageAtReclaim a).draws = p.draws ∧
      (p.ageAtReclaim a).changed = p.changed := by
  unfold Part.ageAtReclaim
  split <;> simp

@[simp] theorem Part.checkBacklog_keeps (a : JournalArea) :
    (p.checkBacklog a).dt = p.dt ∧ (p.checkBacklog a).lcu = p.lcu ∧ (p.checkBacklog a).mc = p.mc ∧
      (p.checkBacklog a).rsc = p.rsc ∧ (p.checkBacklog a).ps = p.ps ∧ (p.checkBacklog a).gbt = p.gbt ∧
      (p.checkBacklog a).lsq = p.lsq ∧ (p.checkBacklog a).rqx = p.rqx ∧ (p.checkBacklog a).jw = p.jw ∧
      (p.checkBacklog a).sa = p.sa ∧ (p.checkBacklog a).cfg = p.cfg ∧ (p.checkBacklog a).lct = p.lct ∧
      (p.checkBacklog a).draws = p.draws ∧
      (p.checkBacklog a).changed = p.changed := by
  unfold Part.checkBacklog
  split <;> simp

@[simp] theorem Part.acceptWaiting_keeps :
    (p.acceptWaiting).lcu = p.lcu ∧ (p.acceptWaiting).mc = p.mc ∧ (p.acceptWaiting).rsc = p.rsc ∧
      (p.acceptWaiting).ps = p.ps ∧ (p.acceptWaiting).gbt = p.gbt ∧ (p.acceptWaiting).lsq = p.lsq ∧
      (p.acceptWaiting).rqx = p.rqx ∧ (p.acceptWaiting).sa = p.sa ∧ (p.acceptWaiting).attn = p.attn ∧
      (p.acceptWaiting).cfg = p.cfg ∧ (p.acceptWaiting).lct = p.lct ∧
      (p.acceptWaiting).draws = p.draws ∧
      (p.acceptWaiting).changed = p.changed := by
  unfold Part.acceptWaiting
  (repeat' split) <;> simp

@[simp] theorem Part.notePublished_keeps (h : Option JournalRecord) :
    (p.notePublished h).dt = p.dt ∧ (p.notePublished h).lcu = p.lcu ∧ (p.notePublished h).mc = p.mc ∧
      (p.notePublished h).rsc = p.rsc ∧ (p.notePublished h).ps = p.ps ∧ (p.notePublished h).gbt = p.gbt ∧
      (p.notePublished h).rqx = p.rqx ∧ (p.notePublished h).jw = p.jw ∧ (p.notePublished h).sa = p.sa ∧
      (p.notePublished h).attn = p.attn ∧ (p.notePublished h).cfg = p.cfg ∧ (p.notePublished h).lct = p.lct ∧
      (p.notePublished h).draws = p.draws := by
  unfold Part.notePublished
  (repeat' split) <;> simp

@[simp] theorem Part.published_keeps (f w : Nat) :
    (p.published f w).lcu = p.lcu ∧ (p.published f w).mc = p.mc ∧ (p.published f w).rsc = p.rsc ∧
      (p.published f w).ps = p.ps ∧ (p.published f w).gbt = p.gbt ∧ (p.published f w).rqx = p.rqx ∧
      (p.published f w).sa = p.sa ∧ (p.published f w).cfg = p.cfg ∧
      (p.published f w).draws = p.draws := by
  unfold Part.published
  split <;> simp

@[simp] theorem Part.retest_keeps :
    (p.retest).dt = p.dt ∧ (p.retest).lcu = p.lcu ∧ (p.retest).mc = p.mc ∧
      (p.retest).rsc = p.rsc ∧ (p.retest).ps = p.ps ∧ (p.retest).gbt = p.gbt ∧
      (p.retest).lsq = p.lsq ∧ (p.retest).rqx = p.rqx ∧ (p.retest).attn = p.attn ∧
      (p.retest).cfg = p.cfg ∧ (p.retest).lct = p.lct ∧
      (p.retest).draws = p.draws ∧
      (p.retest).changed = p.changed := by
  unfold Part.retest
  split <;> simp

@[simp] theorem Part.reclaim_keeps (v : Nat) :
    (p.reclaim v).dt = p.dt ∧ (p.reclaim v).lcu = p.lcu ∧ (p.reclaim v).mc = p.mc ∧
      (p.reclaim v).rsc = p.rsc ∧ (p.reclaim v).ps = p.ps ∧ (p.reclaim v).gbt = p.gbt ∧
      (p.reclaim v).lsq = p.lsq ∧ (p.reclaim v).rqx = p.rqx ∧ (p.reclaim v).cfg = p.cfg ∧
      (p.reclaim v).draws = p.draws ∧
      (p.reclaim v).changed = p.changed := by
  unfold Part.reclaim
  (repeat' split) <;> simp

@[simp] theorem Part.ageExpires_keeps :
    (p.ageExpires).dt = p.dt ∧ (p.ageExpires).lcu = p.lcu ∧ (p.ageExpires).mc = p.mc ∧
      (p.ageExpires).rsc = p.rsc ∧ (p.ageExpires).ps = p.ps ∧ (p.ageExpires).gbt = p.gbt ∧
      (p.ageExpires).lsq = p.lsq ∧ (p.ageExpires).rqx = p.rqx ∧ (p.ageExpires).jw = p.jw ∧
      (p.ageExpires).sa = p.sa ∧ (p.ageExpires).cfg = p.cfg ∧
      (p.ageExpires).draws = p.draws ∧
      (p.ageExpires).changed = p.changed := by
  unfold Part.ageExpires
  simp

@[simp] theorem Part.writeGranted_keeps (e : WriteEffect) :
    (p.writeGranted e).lcu = p.lcu ∧ (p.writeGranted e).mc = p.mc ∧ (p.writeGranted e).rsc = p.rsc ∧
      (p.writeGranted e).ps = p.ps ∧ (p.writeGranted e).gbt = p.gbt ∧ (p.writeGranted e).rqx = p.rqx ∧
      (p.writeGranted e).sa = p.sa ∧ (p.writeGranted e).cfg = p.cfg ∧
      (p.writeGranted e).draws = p.draws := by
  unfold Part.writeGranted
  (repeat' split) <;> simp

@[simp] theorem Part.imageRead_keeps (l : List Byte) :
    (p.imageRead l).dt = p.dt ∧ (p.imageRead l).lcu = p.lcu ∧ (p.imageRead l).mc = p.mc ∧
      (p.imageRead l).rsc = p.rsc ∧ (p.imageRead l).gbt = p.gbt ∧ (p.imageRead l).lsq = p.lsq ∧
      (p.imageRead l).rqx = p.rqx ∧ (p.imageRead l).jw = p.jw ∧ (p.imageRead l).attn = p.attn ∧
      (p.imageRead l).cfg = p.cfg ∧ (p.imageRead l).lct = p.lct ∧
      (p.imageRead l).draws = p.draws := by
  unfold Part.imageRead
  dsimp only
  (repeat' split) <;> simp

@[simp] theorem Part.readGranted_keeps (o : ReadOwner) (l : List Byte) :
    (p.readGranted o l).dt = p.dt ∧ (p.readGranted o l).lcu = p.lcu ∧ (p.readGranted o l).mc = p.mc ∧
      (p.readGranted o l).rsc = p.rsc ∧ (p.readGranted o l).gbt = p.gbt ∧ (p.readGranted o l).jw = p.jw ∧
      (p.readGranted o l).attn = p.attn ∧ (p.readGranted o l).lct = p.lct ∧
      (p.readGranted o l).draws = p.draws := by
  unfold Part.readGranted
  (repeat' split) <;> simp

@[simp] theorem Part.offerPost_keeps (n : Nat) :
    (p.offerPost n).dt = p.dt ∧ (p.offerPost n).lcu = p.lcu ∧ (p.offerPost n).mc = p.mc ∧
      (p.offerPost n).rsc = p.rsc ∧ (p.offerPost n).ps = p.ps ∧ (p.offerPost n).gbt = p.gbt ∧
      (p.offerPost n).lsq = p.lsq ∧ (p.offerPost n).jw = p.jw ∧ (p.offerPost n).sa = p.sa ∧
      (p.offerPost n).attn = p.attn ∧ (p.offerPost n).cfg = p.cfg ∧ (p.offerPost n).lct = p.lct ∧
      (p.offerPost n).draws = p.draws ∧
      (p.offerPost n).changed = p.changed := by
  unfold Part.offerPost
  split <;> simp

@[simp] theorem Part.watchPost_keeps (w : PostedWrite) :
    (p.watchPost w).dt = p.dt ∧ (p.watchPost w).lcu = p.lcu ∧ (p.watchPost w).mc = p.mc ∧
      (p.watchPost w).rsc = p.rsc ∧ (p.watchPost w).ps = p.ps ∧ (p.watchPost w).gbt = p.gbt ∧
      (p.watchPost w).lsq = p.lsq ∧ (p.watchPost w).jw = p.jw ∧ (p.watchPost w).sa = p.sa ∧
      (p.watchPost w).attn = p.attn ∧ (p.watchPost w).cfg = p.cfg ∧ (p.watchPost w).lct = p.lct ∧
      (p.watchPost w).draws = p.draws ∧
      (p.watchPost w).changed = p.changed := by
  unfold Part.watchPost
  (repeat' split) <;> simp

@[simp] theorem Part.watchReclaim_keeps (a : Nat) (m : List Host.Cell) :
    (p.watchReclaim a m).dt = p.dt ∧ (p.watchReclaim a m).lcu = p.lcu ∧ (p.watchReclaim a m).mc = p.mc ∧
      (p.watchReclaim a m).rsc = p.rsc ∧ (p.watchReclaim a m).ps = p.ps ∧ (p.watchReclaim a m).gbt = p.gbt ∧
      (p.watchReclaim a m).lsq = p.lsq ∧ (p.watchReclaim a m).rqx = p.rqx ∧ (p.watchReclaim a m).cfg = p.cfg ∧
      (p.watchReclaim a m).draws = p.draws ∧
      (p.watchReclaim a m).changed = p.changed := by
  unfold Part.watchReclaim
  split <;> simp

@[simp] theorem Part.takeSlot_keeps :
    (p.takeSlot).dt = p.dt ∧ (p.takeSlot).lcu = p.lcu ∧ (p.takeSlot).mc = p.mc ∧
      (p.takeSlot).rsc = p.rsc ∧ (p.takeSlot).ps = p.ps ∧ (p.takeSlot).gbt = p.gbt ∧
      (p.takeSlot).lsq = p.lsq ∧ (p.takeSlot).jw = p.jw ∧ (p.takeSlot).attn = p.attn ∧
      (p.takeSlot).cfg = p.cfg ∧ (p.takeSlot).lct = p.lct ∧
      (p.takeSlot).draws = p.draws ∧
      (p.takeSlot).changed = p.changed := by
  unfold Part.takeSlot
  (repeat' split) <;> simp

@[simp] theorem Part.handLine_keeps (l : LineId) (b : Bool) :
    (p.handLine l b).rqx = p.rqx ∧ (p.handLine l b).sa = p.sa ∧ (p.handLine l b).cfg = p.cfg := by
  unfold Part.handLine
  (repeat' split) <;> simp

@[simp] theorem Part.changeStable_keeps (l : LineId) :
    (p.changeStable l).rqx = p.rqx ∧ (p.changeStable l).sa = p.sa ∧ (p.changeStable l).cfg = p.cfg := by
  unfold Part.changeStable
  simp

@[simp] theorem Part.pinChanged_keeps (l : LineId) (b : Bool) :
    (p.pinChanged l b).rqx = p.rqx ∧ (p.pinChanged l b).sa = p.sa ∧ (p.pinChanged l b).cfg = p.cfg := by
  unfold Part.pinChanged
  dsimp only
  (repeat' split) <;> simp

@[simp] theorem Part.scanned_keeps (b : BitVec 64) :
    (p.scanned b).dt = p.dt ∧ (p.scanned b).lcu = p.lcu ∧ (p.scanned b).mc = p.mc ∧
      (p.scanned b).rsc = p.rsc ∧ (p.scanned b).ps = p.ps ∧ (p.scanned b).lsq = p.lsq ∧
      (p.scanned b).rqx = p.rqx ∧ (p.scanned b).sa = p.sa ∧ (p.scanned b).attn = p.attn ∧
      (p.scanned b).cfg = p.cfg ∧
      (p.scanned b).draws = p.draws := by
  unfold Part.scanned
  dsimp only
  refine ⟨?_, ?_, ?_, ?_, ?_, ?_, ?_, ?_, ?_, ?_, ?_⟩
  · exact (Part.foldl_same Part.dt Part.chainInputChanged (by simp) _ _).trans rfl
  · exact (Part.foldl_same Part.lcu Part.chainInputChanged (by simp) _ _).trans rfl
  · exact (Part.foldl_same Part.mc Part.chainInputChanged (by simp) _ _).trans rfl
  · exact (Part.foldl_same Part.rsc Part.chainInputChanged (by simp) _ _).trans rfl
  · exact (Part.foldl_same Part.ps Part.chainInputChanged (by simp) _ _).trans rfl
  · exact (Part.foldl_same Part.lsq Part.chainInputChanged (by simp) _ _).trans rfl
  · exact (Part.foldl_same Part.rqx Part.chainInputChanged (by simp) _ _).trans rfl
  · exact (Part.foldl_same Part.sa Part.chainInputChanged (by simp) _ _).trans rfl
  · exact (Part.foldl_same Part.attn Part.chainInputChanged (by simp) _ _).trans rfl
  · exact (Part.foldl_same Part.cfg Part.chainInputChanged (by simp) _ _).trans rfl
  · exact (Part.foldl_same Part.draws Part.chainInputChanged (by simp) _ _).trans rfl

@[simp] theorem Part.pulseExpires_keeps (n : Nat) :
    (p.pulseExpires n).lcu = p.lcu ∧ (p.pulseExpires n).mc = p.mc ∧ (p.pulseExpires n).rsc = p.rsc ∧
      (p.pulseExpires n).ps = p.ps ∧ (p.pulseExpires n).lsq = p.lsq ∧ (p.pulseExpires n).rqx = p.rqx ∧
      (p.pulseExpires n).jw = p.jw ∧ (p.pulseExpires n).sa = p.sa ∧ (p.pulseExpires n).attn = p.attn ∧
      (p.pulseExpires n).cfg = p.cfg ∧
      (p.pulseExpires n).draws = p.draws := by
  unfold Part.pulseExpires
  simp

@[simp] theorem Part.beginConfigure_keeps :
    (p.beginConfigure).dt = p.dt ∧ (p.beginConfigure).lcu = p.lcu ∧ (p.beginConfigure).mc = p.mc ∧
      (p.beginConfigure).rsc = p.rsc ∧ (p.beginConfigure).ps = p.ps ∧ (p.beginConfigure).gbt = p.gbt ∧
      (p.beginConfigure).lsq = p.lsq ∧ (p.beginConfigure).rqx = p.rqx ∧ (p.beginConfigure).jw = p.jw ∧
      (p.beginConfigure).attn = p.attn ∧ (p.beginConfigure).lct = p.lct ∧
      (p.beginConfigure).draws = p.draws := by
  unfold Part.beginConfigure
  simp

@[simp] theorem Part.refuseConfigure_keeps :
    (p.refuseConfigure).dt = p.dt ∧ (p.refuseConfigure).lcu = p.lcu ∧ (p.refuseConfigure).mc = p.mc ∧
      (p.refuseConfigure).rsc = p.rsc ∧ (p.refuseConfigure).ps = p.ps ∧ (p.refuseConfigure).gbt = p.gbt ∧
      (p.refuseConfigure).lsq = p.lsq ∧ (p.refuseConfigure).rqx = p.rqx ∧ (p.refuseConfigure).jw = p.jw ∧
      (p.refuseConfigure).sa = p.sa ∧ (p.refuseConfigure).attn = p.attn ∧ (p.refuseConfigure).lct = p.lct ∧
      (p.refuseConfigure).draws = p.draws := by
  unfold Part.refuseConfigure
  simp

@[simp] theorem Part.configure_keeps :
    (p.configure).dt = p.dt ∧ (p.configure).lcu = p.lcu ∧ (p.configure).mc = p.mc ∧
      (p.configure).rsc = p.rsc ∧ (p.configure).ps = p.ps ∧ (p.configure).gbt = p.gbt ∧
      (p.configure).lsq = p.lsq ∧ (p.configure).rqx = p.rqx ∧ (p.configure).jw = p.jw ∧
      (p.configure).attn = p.attn ∧ (p.configure).lct = p.lct ∧
      (p.configure).draws = p.draws := by
  unfold Part.configure
  (repeat' split) <;> simp

@[simp] theorem Part.configureTaken_keeps :
    (p.configureTaken).dt = p.dt ∧ (p.configureTaken).lcu = p.lcu ∧ (p.configureTaken).mc = p.mc ∧
      (p.configureTaken).rsc = p.rsc ∧ (p.configureTaken).ps = p.ps ∧ (p.configureTaken).gbt = p.gbt ∧
      (p.configureTaken).lsq = p.lsq ∧ (p.configureTaken).rqx = p.rqx ∧ (p.configureTaken).jw = p.jw ∧
      (p.configureTaken).attn = p.attn ∧ (p.configureTaken).lct = p.lct ∧
      (p.configureTaken).draws = p.draws := by
  unfold Part.configureTaken
  split <;> simp

@[simp] theorem Part.configureJournal_keeps (a : JournalArea) :
    (p.configureJournal a).dt = p.dt ∧ (p.configureJournal a).lcu = p.lcu ∧ (p.configureJournal a).mc = p.mc ∧
      (p.configureJournal a).rsc = p.rsc ∧ (p.configureJournal a).ps = p.ps ∧ (p.configureJournal a).gbt = p.gbt ∧
      (p.configureJournal a).lsq = p.lsq ∧ (p.configureJournal a).rqx = p.rqx ∧ (p.configureJournal a).attn = p.attn ∧
      (p.configureJournal a).cfg = p.cfg ∧
      (p.configureJournal a).draws = p.draws ∧
      (p.configureJournal a).changed = p.changed := by
  unfold Part.configureJournal
  split <;> simp

@[simp] theorem Part.fetchPost_keeps :
    (p.fetchPost).dt = p.dt ∧ (p.fetchPost).lcu = p.lcu ∧ (p.fetchPost).mc = p.mc ∧
      (p.fetchPost).rsc = p.rsc ∧ (p.fetchPost).ps = p.ps ∧ (p.fetchPost).gbt = p.gbt ∧
      (p.fetchPost).lsq = p.lsq ∧ (p.fetchPost).jw = p.jw ∧ (p.fetchPost).attn = p.attn ∧
      (p.fetchPost).cfg = p.cfg ∧ (p.fetchPost).lct = p.lct ∧
      (p.fetchPost).draws = p.draws ∧
      (p.fetchPost).changed = p.changed := by
  unfold Part.fetchPost
  (repeat' split) <;> simp

@[simp] theorem Part.raisePermit_keeps :
    (p.raisePermit).lcu = p.lcu ∧ (p.raisePermit).mc = p.mc ∧ (p.raisePermit).rsc = p.rsc ∧
      (p.raisePermit).ps = p.ps ∧ (p.raisePermit).gbt = p.gbt ∧ (p.raisePermit).lsq = p.lsq ∧
      (p.raisePermit).rqx = p.rqx ∧ (p.raisePermit).jw = p.jw ∧ (p.raisePermit).sa = p.sa ∧
      (p.raisePermit).attn = p.attn ∧ (p.raisePermit).cfg = p.cfg ∧
      (p.raisePermit).draws = p.draws ∧
      (p.raisePermit).changed = p.changed := by
  unfold Part.raisePermit
  split <;> simp

@[simp] theorem Part.dropPermit_keeps :
    (p.dropPermit).lcu = p.lcu ∧ (p.dropPermit).mc = p.mc ∧ (p.dropPermit).rsc = p.rsc ∧
      (p.dropPermit).ps = p.ps ∧ (p.dropPermit).gbt = p.gbt ∧ (p.dropPermit).lsq = p.lsq ∧
      (p.dropPermit).rqx = p.rqx ∧ (p.dropPermit).jw = p.jw ∧ (p.dropPermit).sa = p.sa ∧
      (p.dropPermit).attn = p.attn ∧ (p.dropPermit).cfg = p.cfg ∧
      (p.dropPermit).draws = p.draws ∧
      (p.dropPermit).changed = p.changed := by
  unfold Part.dropPermit
  simp

@[simp] theorem Part.settlePermit_keeps :
    (p.settlePermit).lcu = p.lcu ∧ (p.settlePermit).mc = p.mc ∧ (p.settlePermit).rsc = p.rsc ∧
      (p.settlePermit).ps = p.ps ∧ (p.settlePermit).gbt = p.gbt ∧ (p.settlePermit).lsq = p.lsq ∧
      (p.settlePermit).rqx = p.rqx ∧ (p.settlePermit).jw = p.jw ∧ (p.settlePermit).sa = p.sa ∧
      (p.settlePermit).attn = p.attn ∧ (p.settlePermit).cfg = p.cfg ∧
      (p.settlePermit).draws = p.draws ∧
      (p.settlePermit).changed = p.changed := by
  unfold Part.settlePermit
  (repeat' split) <;> simp

end Sys2Proof.Machine
end

