-- ==== Sys2Proof/Laws/Fields.lean ====
section
/-! SUPPORT. What each shared operation leaves alone within the blocks it changes: the lines and the sensor chain, the
number of the tables' places, the journal area, the geometry, the offset and the dwell, the kinds and the pockets of the
items. -/

/- The proofs of this file are elaborated one after the other, so that the package, compiled as one file, does
not ask for more threads at once than a machine of limited memory can give. -/
set_option Elab.async false

namespace Sys2Proof.Machine

/-- What names an item. -/
def Item.key (i : Item) : ItemKind × Nat := (i.kind, i.pocket)

@[simp] theorem Item.key_complete (k : ItemKind) (i : Item) : (Item.complete k i).key = i.key := by
  unfold Item.complete Item.key
  split <;> rfl

@[simp] theorem Item.key_start (i : Item) : i.start.key = i.key := by
  unfold Item.start Item.key
  split <;> rfl

@[simp] theorem Item.map_key_complete (k : ItemKind) (l : List Item) :
    l.map (Item.key ∘ Item.complete k) = l.map Item.key := List.map_congr_left (fun i _ => Item.key_complete k i)

@[simp] theorem Item.map_key_start (l : List Item) : l.map (Item.key ∘ Item.start) = l.map Item.key :=
  List.map_congr_left (fun i _ => Item.key_start i)

variable (p : Part)

@[simp] theorem Part.completeItem_fields (k : ItemKind) (n : Nat) :
    (p.completeItem k n).dt.geometry = p.dt.geometry ∧
      (p.completeItem k n).dt.offset = p.dt.offset ∧
      (p.completeItem k n).dt.dwell = p.dt.dwell ∧
      (p.completeItem k n).dt.pockets.length = p.dt.pockets.length ∧
      (p.completeItem k n).dt.items.map Item.key = p.dt.items.map Item.key := by
  unfold Part.completeItem
  split <;> simp

@[simp] theorem Part.handOffFor_fields (b : RecordBody) (d : Option Nat) :
    (p.handOffFor b d).jw.area = p.jw.area := by
  unfold Part.handOffFor
  (repeat' split) <;> simp

@[simp] theorem Part.handOff_fields (b : RecordBody) :
    (p.handOff b).jw.area = p.jw.area := by
  unfold Part.handOff
  simp

@[simp] theorem Part.event_fields (e : Event) :
    (p.event e).jw.area = p.jw.area := by
  unfold Part.event
  simp

@[simp] theorem Part.startTakeTimer_fields (m : Meter) :
    (p.startTakeTimer m).lct.lines = p.lct.lines ∧
      (p.startTakeTimer m).lct.chain = p.lct.chain ∧
      (p.startTakeTimer m).lct.timers.pulse.length = p.lct.timers.pulse.length := by
  unfold Part.startTakeTimer
  split <;> simp

@[simp] theorem Part.startStarvation_fields :
    (p.startStarvation).lct.lines = p.lct.lines ∧
      (p.startStarvation).lct.chain = p.lct.chain ∧
      (p.startStarvation).lct.timers.pulse.length = p.lct.timers.pulse.length := by
  unfold Part.startStarvation
  (repeat' split) <;> simp

@[simp] theorem Part.enterEngine_fields (e : EngineState) :
    (p.enterEngine e).lct.lines = p.lct.lines ∧
      (p.enterEngine e).lct.chain = p.lct.chain ∧
      (p.enterEngine e).lct.timers.pulse.length = p.lct.timers.pulse.length := by
  unfold Part.enterEngine
  dsimp only
  (repeat' split) <;> simp

@[simp] theorem Part.addHoldCause_fields (c : HoldCause) :
    (p.addHoldCause c).jw.area = p.jw.area := by
  unfold Part.addHoldCause
  split <;> simp

@[simp] theorem Part.enterHold_fields :
    (p.enterHold).jw.area = p.jw.area ∧
      (p.enterHold).lct.lines = p.lct.lines ∧
      (p.enterHold).lct.chain = p.lct.chain ∧
      (p.enterHold).lct.timers.pulse.length = p.lct.timers.pulse.length := by
  unfold Part.enterHold
  simp

@[simp] theorem Part.settleHold_fields :
    (p.settleHold).jw.area = p.jw.area ∧
      (p.settleHold).lct.lines = p.lct.lines ∧
      (p.settleHold).lct.chain = p.lct.chain ∧
      (p.settleHold).lct.timers.pulse.length = p.lct.timers.pulse.length := by
  unfold Part.settleHold
  split <;> simp

@[simp] theorem Part.raiseHold_fields (c : HoldCause) :
    (p.raiseHold c).jw.area = p.jw.area ∧
      (p.raiseHold c).lct.lines = p.lct.lines ∧
      (p.raiseHold c).lct.chain = p.lct.chain ∧
      (p.raiseHold c).lct.timers.pulse.length = p.lct.timers.pulse.length := by
  unfold Part.raiseHold
  split <;> simp

@[simp] theorem Part.tellChannelState_fields :
    (p.tellChannelState).jw.area = p.jw.area ∧
      (p.tellChannelState).lct.lines = p.lct.lines ∧
      (p.tellChannelState).lct.chain = p.lct.chain ∧
      (p.tellChannelState).lct.timers.pulse.length = p.lct.timers.pulse.length := by
  unfold Part.tellChannelState
  split <;> simp

@[simp] theorem Part.raiseHalt_fields (c : HaltCause) :
    (p.raiseHalt c).jw.area = p.jw.area ∧
      (p.raiseHalt c).lct.lines = p.lct.lines ∧
      (p.raiseHalt c).lct.chain = p.lct.chain ∧
      (p.raiseHalt c).lct.timers.pulse.length = p.lct.timers.pulse.length := by
  unfold Part.raiseHalt
  dsimp only
  split <;> simp

@[simp] theorem Part.writeEntry_fields (k : Nat) (m : Meter) (f : Reading → Reading) :
    (p.writeEntry k m f).dt.geometry = p.dt.geometry ∧
      (p.writeEntry k m f).dt.offset = p.dt.offset ∧
      (p.writeEntry k m f).dt.dwell = p.dt.dwell ∧
      (p.writeEntry k m f).dt.pockets.length = p.dt.pockets.length ∧
      (p.writeEntry k m f).dt.items.map Item.key = p.dt.items.map Item.key := by
  unfold Part.writeEntry
  simp

@[simp] theorem Part.readingClaim_fields (k : Nat) (m : Meter) (n : Nat) (s : ReadingStatus) (d : Option Int) :
    (p.readingClaim k m n s d).dt.geometry = p.dt.geometry ∧
      (p.readingClaim k m n s d).dt.offset = p.dt.offset ∧
      (p.readingClaim k m n s d).dt.dwell = p.dt.dwell ∧
      (p.readingClaim k m n s d).dt.pockets.length = p.dt.pockets.length ∧
      (p.readingClaim k m n s d).dt.items.map Item.key = p.dt.items.map Item.key ∧
      (p.readingClaim k m n s d).jw.area = p.jw.area := by
  unfold Part.readingClaim
  dsimp only
  (repeat' split) <;> simp

@[simp] theorem Part.serialClaim_fields (k : Nat) (m : Meter) (n : Nat) :
    (p.serialClaim k m n).dt.geometry = p.dt.geometry ∧
      (p.serialClaim k m n).dt.offset = p.dt.offset ∧
      (p.serialClaim k m n).dt.dwell = p.dt.dwell ∧
      (p.serialClaim k m n).dt.pockets.length = p.dt.pockets.length ∧
      (p.serialClaim k m n).dt.items.map Item.key = p.dt.items.map Item.key := by
  unfold Part.serialClaim
  simp

@[simp] theorem Part.noTakeClaim_fields (k : Nat) (m : Meter) (s : ReadingStatus) :
    (p.noTakeClaim k m s).dt.geometry = p.dt.geometry ∧
      (p.noTakeClaim k m s).dt.offset = p.dt.offset ∧
      (p.noTakeClaim k m s).dt.dwell = p.dt.dwell ∧
      (p.noTakeClaim k m s).dt.pockets.length = p.dt.pockets.length ∧
      (p.noTakeClaim k m s).dt.items.map Item.key = p.dt.items.map Item.key := by
  unfold Part.noTakeClaim
  (repeat' split) <;> simp

@[simp] theorem Part.raisePending_fields (n : Nat) :
    (p.raisePending n).gbt.items = p.gbt.items ∧
      (p.raisePending n).gbt.bins.length = p.gbt.bins.length ∧
      (p.raisePending n).gbt.pulses.length = p.gbt.pulses.length := by
  unfold Part.raisePending
  simp

@[simp] theorem Part.releasePending_fields (n : Nat) :
    (p.releasePending n).gbt.items = p.gbt.items ∧
      (p.releasePending n).gbt.bins.length = p.gbt.bins.length ∧
      (p.releasePending n).gbt.pulses.length = p.gbt.pulses.length := by
  unfold Part.releasePending
  simp

@[simp] theorem Part.settleTakeTimer_fields (m : Meter) :
    (p.settleTakeTimer m).lct.lines = p.lct.lines ∧
      (p.settleTakeTimer m).lct.chain = p.lct.chain ∧
      (p.settleTakeTimer m).lct.timers.pulse.length = p.lct.timers.pulse.length := by
  unfold Part.settleTakeTimer
  split <;> simp

@[simp] theorem Part.withdrawFaulted_fields (m : Meter) :
    (p.withdrawFaulted m).dt.geometry = p.dt.geometry ∧
      (p.withdrawFaulted m).dt.offset = p.dt.offset ∧
      (p.withdrawFaulted m).dt.dwell = p.dt.dwell ∧
      (p.withdrawFaulted m).dt.pockets.length = p.dt.pockets.length ∧
      (p.withdrawFaulted m).dt.items.map Item.key = p.dt.items.map Item.key := by
  unfold Part.withdrawFaulted
  (repeat' split) <;> simp

@[simp] theorem Part.suspect_fields (m : Meter) :
    (p.suspect m).dt.geometry = p.dt.geometry ∧
      (p.suspect m).dt.offset = p.dt.offset ∧
      (p.suspect m).dt.dwell = p.dt.dwell ∧
      (p.suspect m).dt.pockets.length = p.dt.pockets.length ∧
      (p.suspect m).dt.items.map Item.key = p.dt.items.map Item.key ∧
      (p.suspect m).jw.area = p.jw.area ∧
      (p.suspect m).lct.lines = p.lct.lines ∧
      (p.suspect m).lct.chain = p.lct.chain ∧
      (p.suspect m).lct.timers.pulse.length = p.lct.timers.pulse.length := by
  unfold Part.suspect
  dsimp only
  split <;> simp

@[simp] theorem Part.referenceResult_fields (m : Meter) (s : ReadingStatus) (d : Option Int) :
    (p.referenceResult m s d).dt.geometry = p.dt.geometry ∧
      (p.referenceResult m s d).dt.offset = p.dt.offset ∧
      (p.referenceResult m s d).dt.dwell = p.dt.dwell ∧
      (p.referenceResult m s d).dt.pockets.length = p.dt.pockets.length ∧
      (p.referenceResult m s d).dt.items.map Item.key = p.dt.items.map Item.key ∧
      (p.referenceResult m s d).jw.area = p.jw.area ∧
      (p.referenceResult m s d).lct.lines = p.lct.lines ∧
      (p.referenceResult m s d).lct.chain = p.lct.chain ∧
      (p.referenceResult m s d).lct.timers.pulse.length = p.lct.timers.pulse.length := by
  unfold Part.referenceResult
  dsimp only
  (repeat' split) <;> simp

@[simp] theorem Part.sendTake_fields (m : Meter) (x : TakeKind) (k d : Nat) :
    (p.sendTake m x k d).dt.geometry = p.dt.geometry ∧
      (p.sendTake m x k d).dt.offset = p.dt.offset ∧
      (p.sendTake m x k d).dt.dwell = p.dt.dwell ∧
      (p.sendTake m x k d).dt.pockets.length = p.dt.pockets.length ∧
      (p.sendTake m x k d).dt.items.map Item.key = p.dt.items.map Item.key := by
  unfold Part.sendTake
  split <;> simp

@[simp] theorem Part.pendTake_fields (m : Meter) (x : TakeKind) (k d : Nat) :
    (p.pendTake m x k d).lct.lines = p.lct.lines ∧
      (p.pendTake m x k d).lct.chain = p.lct.chain ∧
      (p.pendTake m x k d).lct.timers.pulse.length = p.lct.timers.pulse.length := by
  unfold Part.pendTake
  split <;> simp

@[simp] theorem Part.issueTake_fields (m : Meter) (x : TakeKind) (k d : Nat) :
    (p.issueTake m x k d).dt.geometry = p.dt.geometry ∧
      (p.issueTake m x k d).dt.offset = p.dt.offset ∧
      (p.issueTake m x k d).dt.dwell = p.dt.dwell ∧
      (p.issueTake m x k d).dt.pockets.length = p.dt.pockets.length ∧
      (p.issueTake m x k d).dt.items.map Item.key = p.dt.items.map Item.key ∧
      (p.issueTake m x k d).lct.lines = p.lct.lines ∧
      (p.issueTake m x k d).lct.chain = p.lct.chain ∧
      (p.issueTake m x k d).lct.timers.pulse.length = p.lct.timers.pulse.length := by
  unfold Part.issueTake
  split <;> simp

@[simp] theorem Part.startTakeItem_fields (m : Meter) (k : Nat) :
    (p.startTakeItem m k).dt.geometry = p.dt.geometry ∧
      (p.startTakeItem m k).dt.offset = p.dt.offset ∧
      (p.startTakeItem m k).dt.dwell = p.dt.dwell ∧
      (p.startTakeItem m k).dt.pockets.length = p.dt.pockets.length ∧
      (p.startTakeItem m k).dt.items.map Item.key = p.dt.items.map Item.key ∧
      (p.startTakeItem m k).lct.lines = p.lct.lines ∧
      (p.startTakeItem m k).lct.chain = p.lct.chain ∧
      (p.startTakeItem m k).lct.timers.pulse.length = p.lct.timers.pulse.length := by
  unfold Part.startTakeItem
  dsimp only
  (repeat' split) <;> simp

@[simp] theorem Part.skipTakeItem_fields (m : Meter) (d : Nat) :
    (p.skipTakeItem m d).lct.lines = p.lct.lines ∧
      (p.skipTakeItem m d).lct.chain = p.lct.chain ∧
      (p.skipTakeItem m d).lct.timers.pulse.length = p.lct.timers.pulse.length := by
  unfold Part.skipTakeItem
  (repeat' split) <;> simp

@[simp] theorem Part.faultTag_fields (m : Meter) (t : Tag) :
    (p.faultTag m t).dt.geometry = p.dt.geometry ∧
      (p.faultTag m t).dt.offset = p.dt.offset ∧
      (p.faultTag m t).dt.dwell = p.dt.dwell ∧
      (p.faultTag m t).dt.pockets.length = p.dt.pockets.length ∧
      (p.faultTag m t).dt.items.map Item.key = p.dt.items.map Item.key ∧
      (p.faultTag m t).jw.area = p.jw.area ∧
      (p.faultTag m t).lct.lines = p.lct.lines ∧
      (p.faultTag m t).lct.chain = p.lct.chain ∧
      (p.faultTag m t).lct.timers.pulse.length = p.lct.timers.pulse.length := by
  unfold Part.faultTag
  split <;> simp

@[simp] theorem Part.faultWork_fields (m : Meter) :
    (p.faultWork m).dt.geometry = p.dt.geometry ∧
      (p.faultWork m).dt.offset = p.dt.offset ∧
      (p.faultWork m).dt.dwell = p.dt.dwell ∧
      (p.faultWork m).dt.pockets.length = p.dt.pockets.length ∧
      (p.faultWork m).dt.items.map Item.key = p.dt.items.map Item.key ∧
      (p.faultWork m).jw.area = p.jw.area ∧
      (p.faultWork m).lct.lines = p.lct.lines ∧
      (p.faultWork m).lct.chain = p.lct.chain ∧
      (p.faultWork m).lct.timers.pulse.length = p.lct.timers.pulse.length := by
  have h0 := fun (q : Part) (l : List Tag) =>
    Part.foldl_same (fun q => q.dt.geometry) (fun (x : Part) (t : Tag) => x.faultTag m t) (by simp) l q
  have h1 := fun (q : Part) (l : List Tag) =>
    Part.foldl_same (fun q => q.dt.offset) (fun (x : Part) (t : Tag) => x.faultTag m t) (by simp) l q
  have h2 := fun (q : Part) (l : List Tag) =>
    Part.foldl_same (fun q => q.dt.dwell) (fun (x : Part) (t : Tag) => x.faultTag m t) (by simp) l q
  have h3 := fun (q : Part) (l : List Tag) =>
    Part.foldl_same (fun q => q.dt.pockets.length) (fun (x : Part) (t : Tag) => x.faultTag m t) (by simp) l q
  have h4 := fun (q : Part) (l : List Tag) =>
    Part.foldl_same (fun q => q.dt.items.map Item.key) (fun (x : Part) (t : Tag) => x.faultTag m t) (by simp) l q
  have h5 := fun (q : Part) (l : List Tag) =>
    Part.foldl_same (fun q => q.jw.area) (fun (x : Part) (t : Tag) => x.faultTag m t) (by simp) l q
  have h6 := fun (q : Part) (l : List Tag) =>
    Part.foldl_same (fun q => q.lct.lines) (fun (x : Part) (t : Tag) => x.faultTag m t) (by simp) l q
  have h7 := fun (q : Part) (l : List Tag) =>
    Part.foldl_same (fun q => q.lct.chain) (fun (x : Part) (t : Tag) => x.faultTag m t) (by simp) l q
  have h8 := fun (q : Part) (l : List Tag) =>
    Part.foldl_same (fun q => q.lct.timers.pulse.length) (fun (x : Part) (t : Tag) => x.faultTag m t) (by simp) l q
  unfold Part.faultWork
  (try dsimp only)
  simp [h0, h1, h2, h3, h4, h5, h6, h7, h8]

@[simp] theorem Part.failChannel_fields (m : Meter) (c : ChannelCause) :
    (p.failChannel m c).dt.geometry = p.dt.geometry ∧
      (p.failChannel m c).dt.offset = p.dt.offset ∧
      (p.failChannel m c).dt.dwell = p.dt.dwell ∧
      (p.failChannel m c).dt.pockets.length = p.dt.pockets.length ∧
      (p.failChannel m c).dt.items.map Item.key = p.dt.items.map Item.key ∧
      (p.failChannel m c).jw.area = p.jw.area ∧
      (p.failChannel m c).lct.lines = p.lct.lines ∧
      (p.failChannel m c).lct.chain = p.lct.chain ∧
      (p.failChannel m c).lct.timers.pulse.length = p.lct.timers.pulse.length := by
  unfold Part.failChannel
  simp

@[simp] theorem Part.endSetup_fields (m : Meter) (o : ChannelCause) :
    (p.endSetup m o).jw.area = p.jw.area ∧
      (p.endSetup m o).lct.lines = p.lct.lines ∧
      (p.endSetup m o).lct.chain = p.lct.chain ∧
      (p.endSetup m o).lct.timers.pulse.length = p.lct.timers.pulse.length := by
  unfold Part.endSetup
  (repeat' split) <;> simp

@[simp] theorem Part.enterSetup_fields (m : Meter) (a : SetupAsker) (b : Bool) :
    (p.enterSetup m a b).dt.geometry = p.dt.geometry ∧
      (p.enterSetup m a b).dt.offset = p.dt.offset ∧
      (p.enterSetup m a b).dt.dwell = p.dt.dwell ∧
      (p.enterSetup m a b).dt.pockets.length = p.dt.pockets.length ∧
      (p.enterSetup m a b).dt.items.map Item.key = p.dt.items.map Item.key ∧
      (p.enterSetup m a b).jw.area = p.jw.area ∧
      (p.enterSetup m a b).lct.lines = p.lct.lines ∧
      (p.enterSetup m a b).lct.chain = p.lct.chain ∧
      (p.enterSetup m a b).lct.timers.pulse.length = p.lct.timers.pulse.length := by
  unfold Part.enterSetup
  split <;> simp

@[simp] theorem Part.acceptReport_fields (m : Meter) (t : Tag) (s : ReadingStatus) (d : Option Int) :
    (p.acceptReport m t s d).dt.geometry = p.dt.geometry ∧
      (p.acceptReport m t s d).dt.offset = p.dt.offset ∧
      (p.acceptReport m t s d).dt.dwell = p.dt.dwell ∧
      (p.acceptReport m t s d).dt.pockets.length = p.dt.pockets.length ∧
      (p.acceptReport m t s d).dt.items.map Item.key = p.dt.items.map Item.key ∧
      (p.acceptReport m t s d).jw.area = p.jw.area ∧
      (p.acceptReport m t s d).lct.lines = p.lct.lines ∧
      (p.acceptReport m t s d).lct.chain = p.lct.chain ∧
      (p.acceptReport m t s d).lct.timers.pulse.length = p.lct.timers.pulse.length := by
  unfold Part.acceptReport
  split <;> simp

@[simp] theorem Part.reportEnded_fields (m : Meter) (f : List Byte) (b : Bool) :
    (p.reportEnded m f b).dt.geometry = p.dt.geometry ∧
      (p.reportEnded m f b).dt.offset = p.dt.offset ∧
      (p.reportEnded m f b).dt.dwell = p.dt.dwell ∧
      (p.reportEnded m f b).dt.pockets.length = p.dt.pockets.length ∧
      (p.reportEnded m f b).dt.items.map Item.key = p.dt.items.map Item.key ∧
      (p.reportEnded m f b).jw.area = p.jw.area ∧
      (p.reportEnded m f b).lct.lines = p.lct.lines ∧
      (p.reportEnded m f b).lct.chain = p.lct.chain ∧
      (p.reportEnded m f b).lct.timers.pulse.length = p.lct.timers.pulse.length := by
  unfold Part.reportEnded
  dsimp only
  (repeat' split) <;> simp

@[simp] theorem Part.faultByState_fields (m : Meter) (c : ChannelCause) :
    (p.faultByState m c).dt.geometry = p.dt.geometry ∧
      (p.faultByState m c).dt.offset = p.dt.offset ∧
      (p.faultByState m c).dt.dwell = p.dt.dwell ∧
      (p.faultByState m c).dt.pockets.length = p.dt.pockets.length ∧
      (p.faultByState m c).dt.items.map Item.key = p.dt.items.map Item.key ∧
      (p.faultByState m c).jw.area = p.jw.area ∧
      (p.faultByState m c).lct.lines = p.lct.lines ∧
      (p.faultByState m c).lct.chain = p.lct.chain ∧
      (p.faultByState m c).lct.timers.pulse.length = p.lct.timers.pulse.length := by
  unfold Part.faultByState
  split <;> simp

@[simp] theorem Part.acqRises_fields (m : Meter) :
    (p.acqRises m).dt.geometry = p.dt.geometry ∧
      (p.acqRises m).dt.offset = p.dt.offset ∧
      (p.acqRises m).dt.dwell = p.dt.dwell ∧
      (p.acqRises m).dt.pockets.length = p.dt.pockets.length ∧
      (p.acqRises m).dt.items.map Item.key = p.dt.items.map Item.key ∧
      (p.acqRises m).jw.area = p.jw.area ∧
      (p.acqRises m).lct.lines = p.lct.lines ∧
      (p.acqRises m).lct.chain = p.lct.chain ∧
      (p.acqRises m).lct.timers.pulse.length = p.lct.timers.pulse.length := by
  unfold Part.acqRises
  dsimp only
  (repeat' split) <;> simp

@[simp] theorem Part.acqFalls_fields (m : Meter) :
    (p.acqFalls m).dt.geometry = p.dt.geometry ∧
      (p.acqFalls m).dt.offset = p.dt.offset ∧
      (p.acqFalls m).dt.dwell = p.dt.dwell ∧
      (p.acqFalls m).dt.pockets.length = p.dt.pockets.length ∧
      (p.acqFalls m).dt.items.map Item.key = p.dt.items.map Item.key ∧
      (p.acqFalls m).lct.lines = p.lct.lines ∧
      (p.acqFalls m).lct.chain = p.lct.chain ∧
      (p.acqFalls m).lct.timers.pulse.length = p.lct.timers.pulse.length := by
  unfold Part.acqFalls
  dsimp only
  (repeat' split) <;> simp

@[simp] theorem Part.fltRises_fields (m : Meter) :
    (p.fltRises m).dt.geometry = p.dt.geometry ∧
      (p.fltRises m).dt.offset = p.dt.offset ∧
      (p.fltRises m).dt.dwell = p.dt.dwell ∧
      (p.fltRises m).dt.pockets.length = p.dt.pockets.length ∧
      (p.fltRises m).dt.items.map Item.key = p.dt.items.map Item.key ∧
      (p.fltRises m).jw.area = p.jw.area ∧
      (p.fltRises m).lct.lines = p.lct.lines ∧
      (p.fltRises m).lct.chain = p.lct.chain ∧
      (p.fltRises m).lct.timers.pulse.length = p.lct.timers.pulse.length := by
  unfold Part.fltRises
  simp

@[simp] theorem Part.frameSent_fields (m : Meter) (f : Frame) :
    (p.frameSent m f).lct.lines = p.lct.lines ∧
      (p.frameSent m f).lct.chain = p.lct.chain ∧
      (p.frameSent m f).lct.timers.pulse.length = p.lct.timers.pulse.length := by
  unfold Part.frameSent
  dsimp only
  (repeat' split) <;> simp

@[simp] theorem Part.pendingTakeDue_fields (m : Meter) (t : PendingTake) :
    (p.pendingTakeDue m t).dt.geometry = p.dt.geometry ∧
      (p.pendingTakeDue m t).dt.offset = p.dt.offset ∧
      (p.pendingTakeDue m t).dt.dwell = p.dt.dwell ∧
      (p.pendingTakeDue m t).dt.pockets.length = p.dt.pockets.length ∧
      (p.pendingTakeDue m t).dt.items.map Item.key = p.dt.items.map Item.key ∧
      (p.pendingTakeDue m t).lct.lines = p.lct.lines ∧
      (p.pendingTakeDue m t).lct.chain = p.lct.chain ∧
      (p.pendingTakeDue m t).lct.timers.pulse.length = p.lct.timers.pulse.length := by
  unfold Part.pendingTakeDue
  split <;> simp

@[simp] theorem Part.takeTimerExpires_fields (m : Meter) :
    (p.takeTimerExpires m).dt.geometry = p.dt.geometry ∧
      (p.takeTimerExpires m).dt.offset = p.dt.offset ∧
      (p.takeTimerExpires m).dt.dwell = p.dt.dwell ∧
      (p.takeTimerExpires m).dt.pockets.length = p.dt.pockets.length ∧
      (p.takeTimerExpires m).dt.items.map Item.key = p.dt.items.map Item.key ∧
      (p.takeTimerExpires m).jw.area = p.jw.area ∧
      (p.takeTimerExpires m).lct.lines = p.lct.lines ∧
      (p.takeTimerExpires m).lct.chain = p.lct.chain ∧
      (p.takeTimerExpires m).lct.timers.pulse.length = p.lct.timers.pulse.length := by
  unfold Part.takeTimerExpires
  simp

@[simp] theorem Part.firingClaim_fields (n k t d : Nat) (b : Bool) :
    (p.firingClaim n k t d b).dt.geometry = p.dt.geometry ∧
      (p.firingClaim n k t d b).dt.offset = p.dt.offset ∧
      (p.firingClaim n k t d b).dt.dwell = p.dt.dwell ∧
      (p.firingClaim n k t d b).dt.pockets.length = p.dt.pockets.length ∧
      (p.firingClaim n k t d b).dt.items.map Item.key = p.dt.items.map Item.key ∧
      (p.firingClaim n k t d b).gbt.items = p.gbt.items ∧
      (p.firingClaim n k t d b).gbt.bins.length = p.gbt.bins.length ∧
      (p.firingClaim n k t d b).gbt.pulses.length = p.gbt.pulses.length := by
  unfold Part.firingClaim
  (repeat' split) <;> simp

@[simp] theorem Part.endPulse_fields (n : Nat) :
    (p.endPulse n).dt.geometry = p.dt.geometry ∧
      (p.endPulse n).dt.offset = p.dt.offset ∧
      (p.endPulse n).dt.dwell = p.dt.dwell ∧
      (p.endPulse n).dt.pockets.length = p.dt.pockets.length ∧
      (p.endPulse n).dt.items.map Item.key = p.dt.items.map Item.key ∧
      (p.endPulse n).gbt.items = p.gbt.items ∧
      (p.endPulse n).gbt.bins.length = p.gbt.bins.length ∧
      (p.endPulse n).gbt.pulses.length = p.gbt.pulses.length := by
  unfold Part.endPulse
  split <;> simp

@[simp] theorem Part.fireGate_fields (n k : Nat) :
    (p.fireGate n k).dt.geometry = p.dt.geometry ∧
      (p.fireGate n k).dt.offset = p.dt.offset ∧
      (p.fireGate n k).dt.dwell = p.dt.dwell ∧
      (p.fireGate n k).dt.pockets.length = p.dt.pockets.length ∧
      (p.fireGate n k).dt.items.map Item.key = p.dt.items.map Item.key ∧
      (p.fireGate n k).gbt.items = p.gbt.items ∧
      (p.fireGate n k).gbt.bins.length = p.gbt.bins.length ∧
      (p.fireGate n k).gbt.pulses.length = p.gbt.pulses.length ∧
      (p.fireGate n k).lct.lines = p.lct.lines ∧
      (p.fireGate n k).lct.chain = p.lct.chain ∧
      (p.fireGate n k).lct.timers.pulse.length = p.lct.timers.pulse.length := by
  unfold Part.fireGate
  split <;> simp

@[simp] theorem Part.routeClaim_fields (l : List Nat) :
    ((p.routeClaim l).1).gbt.items = p.gbt.items ∧
      ((p.routeClaim l).1).gbt.bins.length = p.gbt.bins.length ∧
      ((p.routeClaim l).1).gbt.pulses.length = p.gbt.pulses.length := by
  unfold Part.routeClaim
  split <;> simp

@[simp] theorem Part.specialRoute_fields (b : Option Nat) (r : Reason) :
    ((p.specialRoute b r).1).gbt.items = p.gbt.items ∧
      ((p.specialRoute b r).1).gbt.bins.length = p.gbt.bins.length ∧
      ((p.specialRoute b r).1).gbt.pulses.length = p.gbt.pulses.length := by
  unfold Part.specialRoute
  simp

@[simp] theorem Part.rowRoute_fields (pl : Plan) (n : Nat) (r : PlanRow) :
    ((p.rowRoute pl n r).1).gbt.items = p.gbt.items ∧
      ((p.rowRoute pl n r).1).gbt.bins.length = p.gbt.bins.length ∧
      ((p.rowRoute pl n r).1).gbt.pulses.length = p.gbt.pulses.length := by
  unfold Part.rowRoute
  simp

@[simp] theorem Part.decision_fields (pl : Plan) (rs : List Reading) :
    ((p.decision pl rs).1).gbt.items = p.gbt.items ∧
      ((p.decision pl rs).1).gbt.bins.length = p.gbt.bins.length ∧
      ((p.decision pl rs).1).gbt.pulses.length = p.gbt.pulses.length := by
  unfold Part.decision
  dsimp only
  (repeat' split) <;> simp

@[simp] theorem Part.decidePocket_fields (k : Nat) :
    (p.decidePocket k).dt.geometry = p.dt.geometry ∧
      (p.decidePocket k).dt.offset = p.dt.offset ∧
      (p.decidePocket k).dt.dwell = p.dt.dwell ∧
      (p.decidePocket k).dt.pockets.length = p.dt.pockets.length ∧
      (p.decidePocket k).dt.items.map Item.key = p.dt.items.map Item.key ∧
      (p.decidePocket k).gbt.items = p.gbt.items ∧
      (p.decidePocket k).gbt.bins.length = p.gbt.bins.length ∧
      (p.decidePocket k).gbt.pulses.length = p.gbt.pulses.length := by
  unfold Part.decidePocket
  dsimp only
  (repeat' split) <;> simp

@[simp] theorem Part.startDecisionItem_fields (k : Nat) :
    (p.startDecisionItem k).dt.geometry = p.dt.geometry ∧
      (p.startDecisionItem k).dt.offset = p.dt.offset ∧
      (p.startDecisionItem k).dt.dwell = p.dt.dwell ∧
      (p.startDecisionItem k).dt.pockets.length = p.dt.pockets.length ∧
      (p.startDecisionItem k).dt.items.map Item.key = p.dt.items.map Item.key ∧
      (p.startDecisionItem k).gbt.items = p.gbt.items ∧
      (p.startDecisionItem k).gbt.bins.length = p.gbt.bins.length ∧
      (p.startDecisionItem k).gbt.pulses.length = p.gbt.pulses.length := by
  unfold Part.startDecisionItem
  simp

@[simp] theorem Part.reroute_fields (n k : Nat) :
    (p.reroute n k).dt.geometry = p.dt.geometry ∧
      (p.reroute n k).dt.offset = p.dt.offset ∧
      (p.reroute n k).dt.dwell = p.dt.dwell ∧
      (p.reroute n k).dt.pockets.length = p.dt.pockets.length ∧
      (p.reroute n k).dt.items.map Item.key = p.dt.items.map Item.key ∧
      (p.reroute n k).gbt.items = p.gbt.items ∧
      (p.reroute n k).gbt.bins.length = p.gbt.bins.length ∧
      (p.reroute n k).gbt.pulses.length = p.gbt.pulses.length := by
  unfold Part.reroute
  split <;> simp

@[simp] theorem Part.startFireItem_fields (n k : Nat) :
    (p.startFireItem n k).dt.geometry = p.dt.geometry ∧
      (p.startFireItem n k).dt.offset = p.dt.offset ∧
      (p.startFireItem n k).dt.dwell = p.dt.dwell ∧
      (p.startFireItem n k).dt.pockets.length = p.dt.pockets.length ∧
      (p.startFireItem n k).dt.items.map Item.key = p.dt.items.map Item.key ∧
      (p.startFireItem n k).gbt.items = p.gbt.items ∧
      (p.startFireItem n k).gbt.bins.length = p.gbt.bins.length ∧
      (p.startFireItem n k).gbt.pulses.length = p.gbt.pulses.length ∧
      (p.startFireItem n k).lct.lines = p.lct.lines ∧
      (p.startFireItem n k).lct.chain = p.lct.chain ∧
      (p.startFireItem n k).lct.timers.pulse.length = p.lct.timers.pulse.length := by
  unfold Part.startFireItem
  (repeat' split) <;> simp

@[simp] theorem Part.skipFireItem_fields (n k : Nat) :
    (p.skipFireItem n k).dt.geometry = p.dt.geometry ∧
      (p.skipFireItem n k).dt.offset = p.dt.offset ∧
      (p.skipFireItem n k).dt.dwell = p.dt.dwell ∧
      (p.skipFireItem n k).dt.pockets.length = p.dt.pockets.length ∧
      (p.skipFireItem n k).dt.items.map Item.key = p.dt.items.map Item.key ∧
      (p.skipFireItem n k).gbt.items = p.gbt.items ∧
      (p.skipFireItem n k).gbt.bins.length = p.gbt.bins.length ∧
      (p.skipFireItem n k).gbt.pulses.length = p.gbt.pulses.length := by
  unfold Part.skipFireItem
  split <;> simp

@[simp] theorem Part.tubeRemoved_fields (n : Nat) :
    (p.tubeRemoved n).gbt.items = p.gbt.items ∧
      (p.tubeRemoved n).gbt.bins.length = p.gbt.bins.length ∧
      (p.tubeRemoved n).gbt.pulses.length = p.gbt.pulses.length ∧
      (p.tubeRemoved n).jw.area = p.jw.area := by
  unfold Part.tubeRemoved
  simp

@[simp] theorem Part.tubeInserted_fields (n : Nat) :
    (p.tubeInserted n).gbt.items = p.gbt.items ∧
      (p.tubeInserted n).gbt.bins.length = p.gbt.bins.length ∧
      (p.tubeInserted n).gbt.pulses.length = p.gbt.pulses.length := by
  unfold Part.tubeInserted
  simp

@[simp] theorem Part.fullRises_fields (n : Nat) :
    (p.fullRises n).gbt.items = p.gbt.items ∧
      (p.fullRises n).gbt.bins.length = p.gbt.bins.length ∧
      (p.fullRises n).gbt.pulses.length = p.gbt.pulses.length := by
  unfold Part.fullRises
  split <;> simp

@[simp] theorem Part.chainInputChanged_fields (i : Nat) :
    (p.chainInputChanged i).gbt.items = p.gbt.items ∧
      (p.chainInputChanged i).gbt.bins.length = p.gbt.bins.length ∧
      (p.chainInputChanged i).gbt.pulses.length = p.gbt.pulses.length ∧
      (p.chainInputChanged i).jw.area = p.jw.area := by
  unfold Part.chainInputChanged
  dsimp only
  (repeat' split) <;> simp

@[simp] theorem Part.ejectedClaim_fields (n : Nat) :
    (p.ejectedClaim n).gbt.items = p.gbt.items ∧
      (p.ejectedClaim n).gbt.bins.length = p.gbt.bins.length ∧
      (p.ejectedClaim n).gbt.pulses.length = p.gbt.pulses.length := by
  unfold Part.ejectedClaim
  simp

@[simp] theorem Part.missedClaim_fields (n t : Nat) :
    (p.missedClaim n t).gbt.items = p.gbt.items ∧
      (p.missedClaim n t).gbt.bins.length = p.gbt.bins.length ∧
      (p.missedClaim n t).gbt.pulses.length = p.gbt.pulses.length ∧
      (p.missedClaim n t).jw.area = p.jw.area := by
  unfold Part.missedClaim
  dsimp only
  (repeat' split) <;> simp

@[simp] theorem Part.binControl_fields (a : Nat) :
    (p.binControl a).gbt.items = p.gbt.items ∧
      (p.binControl a).gbt.bins.length = p.gbt.bins.length ∧
      (p.binControl a).gbt.pulses.length = p.gbt.pulses.length := by
  unfold Part.binControl
  split <;> simp

@[simp] theorem Part.reserve_fields (k : Nat) :
    (p.reserve k).dt.geometry = p.dt.geometry ∧
      (p.reserve k).dt.offset = p.dt.offset ∧
      (p.reserve k).dt.dwell = p.dt.dwell ∧
      (p.reserve k).dt.pockets.length = p.dt.pockets.length ∧
      (p.reserve k).dt.items.map Item.key = p.dt.items.map Item.key := by
  unfold Part.reserve
  simp

@[simp] theorem Part.feed_fields (k : Nat) :
    (p.feed k).lct.lines = p.lct.lines ∧
      (p.feed k).lct.chain = p.lct.chain ∧
      (p.feed k).lct.timers.pulse.length = p.lct.timers.pulse.length := by
  unfold Part.feed
  split <;> simp

@[simp] theorem Part.offer_fields (k : Nat) :
    (p.offer k).dt.geometry = p.dt.geometry ∧
      (p.offer k).dt.offset = p.dt.offset ∧
      (p.offer k).dt.dwell = p.dt.dwell ∧
      (p.offer k).dt.pockets.length = p.dt.pockets.length ∧
      (p.offer k).dt.items.map Item.key = p.dt.items.map Item.key ∧
      (p.offer k).lct.lines = p.lct.lines ∧
      (p.offer k).lct.chain = p.lct.chain ∧
      (p.offer k).lct.timers.pulse.length = p.lct.timers.pulse.length := by
  unfold Part.offer
  dsimp only
  split <;> simp

@[simp] theorem Part.workLoad_fields (k : Nat) :
    (p.workLoad k).dt.geometry = p.dt.geometry ∧
      (p.workLoad k).dt.offset = p.dt.offset ∧
      (p.workLoad k).dt.dwell = p.dt.dwell ∧
      (p.workLoad k).dt.pockets.length = p.dt.pockets.length ∧
      (p.workLoad k).dt.items.map Item.key = p.dt.items.map Item.key ∧
      (p.workLoad k).lct.lines = p.lct.lines ∧
      (p.workLoad k).lct.chain = p.lct.chain ∧
      (p.workLoad k).lct.timers.pulse.length = p.lct.timers.pulse.length := by
  unfold Part.workLoad
  (repeat' split) <;> simp

@[simp] theorem Part.startLoadItem_fields (k : Nat) :
    (p.startLoadItem k).dt.geometry = p.dt.geometry ∧
      (p.startLoadItem k).dt.offset = p.dt.offset ∧
      (p.startLoadItem k).dt.dwell = p.dt.dwell ∧
      (p.startLoadItem k).dt.pockets.length = p.dt.pockets.length ∧
      (p.startLoadItem k).dt.items.map Item.key = p.dt.items.map Item.key ∧
      (p.startLoadItem k).lct.lines = p.lct.lines ∧
      (p.startLoadItem k).lct.chain = p.lct.chain ∧
      (p.startLoadItem k).lct.timers.pulse.length = p.lct.timers.pulse.length := by
  unfold Part.startLoadItem
  split <;> simp

@[simp] theorem Part.dropFeed_fields (n : Nat) :
    (p.dropFeed n).dt.geometry = p.dt.geometry ∧
      (p.dropFeed n).dt.offset = p.dt.offset ∧
      (p.dropFeed n).dt.dwell = p.dt.dwell ∧
      (p.dropFeed n).dt.pockets.length = p.dt.pockets.length ∧
      (p.dropFeed n).dt.items.map Item.key = p.dt.items.map Item.key ∧
      (p.dropFeed n).lct.lines = p.lct.lines ∧
      (p.dropFeed n).lct.chain = p.lct.chain ∧
      (p.dropFeed n).lct.timers.pulse.length = p.lct.timers.pulse.length := by
  unfold Part.dropFeed
  simp

@[simp] theorem Part.proceedLoad_fields :
    (p.proceedLoad).dt.geometry = p.dt.geometry ∧
      (p.proceedLoad).dt.offset = p.dt.offset ∧
      (p.proceedLoad).dt.dwell = p.dt.dwell ∧
      (p.proceedLoad).dt.pockets.length = p.dt.pockets.length ∧
      (p.proceedLoad).dt.items.map Item.key = p.dt.items.map Item.key ∧
      (p.proceedLoad).lct.lines = p.lct.lines ∧
      (p.proceedLoad).lct.chain = p.lct.chain ∧
      (p.proceedLoad).lct.timers.pulse.length = p.lct.timers.pulse.length := by
  unfold Part.proceedLoad
  split <;> simp

@[simp] theorem Part.endFeed_fields (n : Nat) :
    (p.endFeed n).dt.geometry = p.dt.geometry ∧
      (p.endFeed n).dt.offset = p.dt.offset ∧
      (p.endFeed n).dt.dwell = p.dt.dwell ∧
      (p.endFeed n).dt.pockets.length = p.dt.pockets.length ∧
      (p.endFeed n).dt.items.map Item.key = p.dt.items.map Item.key ∧
      (p.endFeed n).lct.lines = p.lct.lines ∧
      (p.endFeed n).lct.chain = p.lct.chain ∧
      (p.endFeed n).lct.timers.pulse.length = p.lct.timers.pulse.length := by
  unfold Part.endFeed
  simp

@[simp] theorem Part.withdrawFeed_fields :
    (p.withdrawFeed).dt.geometry = p.dt.geometry ∧
      (p.withdrawFeed).dt.offset = p.dt.offset ∧
      (p.withdrawFeed).dt.dwell = p.dt.dwell ∧
      (p.withdrawFeed).dt.pockets.length = p.dt.pockets.length ∧
      (p.withdrawFeed).dt.items.map Item.key = p.dt.items.map Item.key ∧
      (p.withdrawFeed).lct.lines = p.lct.lines ∧
      (p.withdrawFeed).lct.chain = p.lct.chain ∧
      (p.withdrawFeed).lct.timers.pulse.length = p.lct.timers.pulse.length := by
  unfold Part.withdrawFeed
  split <;> simp

@[simp] theorem Part.applySwitch_fields (n : Nat) :
    (p.applySwitch n).jw.area = p.jw.area := by
  unfold Part.applySwitch
  (repeat' split) <;> simp

@[simp] theorem Part.issueSequence_fields :
    (p.issueSequence).jw.area = p.jw.area := by
  unfold Part.issueSequence
  dsimp only
  split <;> simp

@[simp] theorem Part.reloadStarvation_fields :
    (p.reloadStarvation).lct.lines = p.lct.lines ∧
      (p.reloadStarvation).lct.chain = p.lct.chain ∧
      (p.reloadStarvation).lct.timers.pulse.length = p.lct.timers.pulse.length := by
  unfold Part.reloadStarvation
  split <;> simp

@[simp] theorem Part.loadPart_fields (k : Nat) :
    (p.loadPart k).dt.geometry = p.dt.geometry ∧
      (p.loadPart k).dt.offset = p.dt.offset ∧
      (p.loadPart k).dt.dwell = p.dt.dwell ∧
      (p.loadPart k).dt.pockets.length = p.dt.pockets.length ∧
      (p.loadPart k).dt.items.map Item.key = p.dt.items.map Item.key ∧
      (p.loadPart k).jw.area = p.jw.area ∧
      (p.loadPart k).lct.lines = p.lct.lines ∧
      (p.loadPart k).lct.chain = p.lct.chain ∧
      (p.loadPart k).lct.timers.pulse.length = p.lct.timers.pulse.length := by
  unfold Part.loadPart
  simp

@[simp] theorem Part.placed_fields :
    (p.placed).dt.geometry = p.dt.geometry ∧
      (p.placed).dt.offset = p.dt.offset ∧
      (p.placed).dt.dwell = p.dt.dwell ∧
      (p.placed).dt.pockets.length = p.dt.pockets.length ∧
      (p.placed).dt.items.map Item.key = p.dt.items.map Item.key ∧
      (p.placed).jw.area = p.jw.area ∧
      (p.placed).lct.lines = p.lct.lines ∧
      (p.placed).lct.chain = p.lct.chain ∧
      (p.placed).lct.timers.pulse.length = p.lct.timers.pulse.length := by
  unfold Part.placed
  (repeat' split) <;> simp

@[simp] theorem Part.feedTimerExpires_fields :
    (p.feedTimerExpires).dt.geometry = p.dt.geometry ∧
      (p.feedTimerExpires).dt.offset = p.dt.offset ∧
      (p.feedTimerExpires).dt.dwell = p.dt.dwell ∧
      (p.feedTimerExpires).dt.pockets.length = p.dt.pockets.length ∧
      (p.feedTimerExpires).dt.items.map Item.key = p.dt.items.map Item.key ∧
      (p.feedTimerExpires).jw.area = p.jw.area ∧
      (p.feedTimerExpires).lct.lines = p.lct.lines ∧
      (p.feedTimerExpires).lct.chain = p.lct.chain ∧
      (p.feedTimerExpires).lct.timers.pulse.length = p.lct.timers.pulse.length := by
  unfold Part.feedTimerExpires
  split <;> simp

@[simp] theorem Part.starvationExpires_fields :
    (p.starvationExpires).jw.area = p.jw.area ∧
      (p.starvationExpires).lct.lines = p.lct.lines ∧
      (p.starvationExpires).lct.chain = p.lct.chain ∧
      (p.starvationExpires).lct.timers.pulse.length = p.lct.timers.pulse.length := by
  unfold Part.starvationExpires
  simp

@[simp] theorem Part.tryCompleteClear_fields (n : Nat) :
    (p.tryCompleteClear n).dt.geometry = p.dt.geometry ∧
      (p.tryCompleteClear n).dt.offset = p.dt.offset ∧
      (p.tryCompleteClear n).dt.dwell = p.dt.dwell ∧
      (p.tryCompleteClear n).dt.pockets.length = p.dt.pockets.length ∧
      (p.tryCompleteClear n).dt.items.map Item.key = p.dt.items.map Item.key := by
  unfold Part.tryCompleteClear
  dsimp only
  (repeat' split) <;> simp

@[simp] theorem Part.endCatch_fields :
    (p.endCatch).dt.geometry = p.dt.geometry ∧
      (p.endCatch).dt.offset = p.dt.offset ∧
      (p.endCatch).dt.dwell = p.dt.dwell ∧
      (p.endCatch).dt.pockets.length = p.dt.pockets.length ∧
      (p.endCatch).dt.items.map Item.key = p.dt.items.map Item.key := by
  unfold Part.endCatch
  (repeat' split) <;> simp

@[simp] theorem Part.fireCatch_fields :
    (p.fireCatch).dt.geometry = p.dt.geometry ∧
      (p.fireCatch).dt.offset = p.dt.offset ∧
      (p.fireCatch).dt.dwell = p.dt.dwell ∧
      (p.fireCatch).dt.pockets.length = p.dt.pockets.length ∧
      (p.fireCatch).dt.items.map Item.key = p.dt.items.map Item.key ∧
      (p.fireCatch).lct.lines = p.lct.lines ∧
      (p.fireCatch).lct.chain = p.lct.chain ∧
      (p.fireCatch).lct.timers.pulse.length = p.lct.timers.pulse.length := by
  unfold Part.fireCatch
  split <;> simp

@[simp] theorem Part.catchTimerExpires_fields :
    (p.catchTimerExpires).dt.geometry = p.dt.geometry ∧
      (p.catchTimerExpires).dt.offset = p.dt.offset ∧
      (p.catchTimerExpires).dt.dwell = p.dt.dwell ∧
      (p.catchTimerExpires).dt.pockets.length = p.dt.pockets.length ∧
      (p.catchTimerExpires).dt.items.map Item.key = p.dt.items.map Item.key ∧
      (p.catchTimerExpires).lct.lines = p.lct.lines ∧
      (p.catchTimerExpires).lct.chain = p.lct.chain ∧
      (p.catchTimerExpires).lct.timers.pulse.length = p.lct.timers.pulse.length := by
  unfold Part.catchTimerExpires
  simp

@[simp] theorem Part.settlePart_fields (k : Nat) (x : PartRecord) (r : Routing) (d : Disposition) (c : Option Nat) :
    (p.settlePart k x r d c).dt.geometry = p.dt.geometry ∧
      (p.settlePart k x r d c).dt.offset = p.dt.offset ∧
      (p.settlePart k x r d c).dt.dwell = p.dt.dwell ∧
      (p.settlePart k x r d c).dt.pockets.length = p.dt.pockets.length ∧
      (p.settlePart k x r d c).dt.items.map Item.key = p.dt.items.map Item.key ∧
      (p.settlePart k x r d c).jw.area = p.jw.area := by
  unfold Part.settlePart
  simp

@[simp] theorem Part.releaseRoute_fields (r : Route) :
    (p.releaseRoute r).gbt.items = p.gbt.items ∧
      (p.releaseRoute r).gbt.bins.length = p.gbt.bins.length ∧
      (p.releaseRoute r).gbt.pulses.length = p.gbt.pulses.length := by
  unfold Part.releaseRoute
  split <;> simp

@[simp] theorem Part.settleCarried_fields (k : Nat) (x : PartRecord) (b : Bool) (c : Option Nat) :
    (p.settleCarried k x b c).dt.geometry = p.dt.geometry ∧
      (p.settleCarried k x b c).dt.offset = p.dt.offset ∧
      (p.settleCarried k x b c).dt.dwell = p.dt.dwell ∧
      (p.settleCarried k x b c).dt.pockets.length = p.dt.pockets.length ∧
      (p.settleCarried k x b c).dt.items.map Item.key = p.dt.items.map Item.key ∧
      (p.settleCarried k x b c).jw.area = p.jw.area := by
  unfold Part.settleCarried
  simp

@[simp] theorem Part.settleClear_fields (k : Nat) (b : Bool) :
    (p.settleClear k b).dt.geometry = p.dt.geometry ∧
      (p.settleClear k b).dt.offset = p.dt.offset ∧
      (p.settleClear k b).dt.dwell = p.dt.dwell ∧
      (p.settleClear k b).dt.pockets.length = p.dt.pockets.length ∧
      (p.settleClear k b).dt.items.map Item.key = p.dt.items.map Item.key ∧
      (p.settleClear k b).gbt.items = p.gbt.items ∧
      (p.settleClear k b).gbt.bins.length = p.gbt.bins.length ∧
      (p.settleClear k b).gbt.pulses.length = p.gbt.pulses.length ∧
      (p.settleClear k b).jw.area = p.jw.area := by
  unfold Part.settleClear
  (repeat' split) <;> simp

@[simp] theorem Part.startClearItem_fields (k : Nat) :
    (p.startClearItem k).dt.geometry = p.dt.geometry ∧
      (p.startClearItem k).dt.offset = p.dt.offset ∧
      (p.startClearItem k).dt.dwell = p.dt.dwell ∧
      (p.startClearItem k).dt.pockets.length = p.dt.pockets.length ∧
      (p.startClearItem k).dt.items.map Item.key = p.dt.items.map Item.key ∧
      (p.startClearItem k).gbt.items = p.gbt.items ∧
      (p.startClearItem k).gbt.bins.length = p.gbt.bins.length ∧
      (p.startClearItem k).gbt.pulses.length = p.gbt.pulses.length ∧
      (p.startClearItem k).jw.area = p.jw.area ∧
      (p.startClearItem k).lct.lines = p.lct.lines ∧
      (p.startClearItem k).lct.chain = p.lct.chain ∧
      (p.startClearItem k).lct.timers.pulse.length = p.lct.timers.pulse.length := by
  unfold Part.startClearItem
  dsimp only
  split <;> simp

@[simp] theorem Part.skipClearItem_fields (k : Nat) :
    (p.skipClearItem k).dt.geometry = p.dt.geometry ∧
      (p.skipClearItem k).dt.offset = p.dt.offset ∧
      (p.skipClearItem k).dt.dwell = p.dt.dwell ∧
      (p.skipClearItem k).dt.pockets.length = p.dt.pockets.length ∧
      (p.skipClearItem k).dt.items.map Item.key = p.dt.items.map Item.key ∧
      (p.skipClearItem k).gbt.items = p.gbt.items ∧
      (p.skipClearItem k).gbt.bins.length = p.gbt.bins.length ∧
      (p.skipClearItem k).gbt.pulses.length = p.gbt.pulses.length ∧
      (p.skipClearItem k).jw.area = p.jw.area := by
  unfold Part.skipClearItem
  split <;> simp

@[simp] theorem Part.startItem_fields (i : Item) :
    (p.startItem i).dt.geometry = p.dt.geometry ∧
      (p.startItem i).dt.offset = p.dt.offset ∧
      (p.startItem i).dt.dwell = p.dt.dwell ∧
      (p.startItem i).dt.pockets.length = p.dt.pockets.length ∧
      (p.startItem i).dt.items.map Item.key = p.dt.items.map Item.key ∧
      (p.startItem i).gbt.items = p.gbt.items ∧
      (p.startItem i).gbt.bins.length = p.gbt.bins.length ∧
      (p.startItem i).gbt.pulses.length = p.gbt.pulses.length ∧
      (p.startItem i).jw.area = p.jw.area ∧
      (p.startItem i).lct.lines = p.lct.lines ∧
      (p.startItem i).lct.chain = p.lct.chain ∧
      (p.startItem i).lct.timers.pulse.length = p.lct.timers.pulse.length := by
  unfold Part.startItem
  split <;> simp

@[simp] theorem Part.startDeferred_fields :
    (p.startDeferred).dt.geometry = p.dt.geometry ∧
      (p.startDeferred).dt.offset = p.dt.offset ∧
      (p.startDeferred).dt.dwell = p.dt.dwell ∧
      (p.startDeferred).dt.pockets.length = p.dt.pockets.length ∧
      (p.startDeferred).dt.items.map Item.key = p.dt.items.map Item.key ∧
      (p.startDeferred).gbt.items = p.gbt.items ∧
      (p.startDeferred).gbt.bins.length = p.gbt.bins.length ∧
      (p.startDeferred).gbt.pulses.length = p.gbt.pulses.length ∧
      (p.startDeferred).jw.area = p.jw.area ∧
      (p.startDeferred).lct.lines = p.lct.lines ∧
      (p.startDeferred).lct.chain = p.lct.chain ∧
      (p.startDeferred).lct.timers.pulse.length = p.lct.timers.pulse.length := by
  have h0 := fun (q : Part) (l : List Item) =>
    Part.foldl_same (fun q => q.dt.geometry) Part.startItem (by simp) l q
  have h1 := fun (q : Part) (l : List Item) =>
    Part.foldl_same (fun q => q.dt.offset) Part.startItem (by simp) l q
  have h2 := fun (q : Part) (l : List Item) =>
    Part.foldl_same (fun q => q.dt.dwell) Part.startItem (by simp) l q
  have h3 := fun (q : Part) (l : List Item) =>
    Part.foldl_same (fun q => q.dt.pockets.length) Part.startItem (by simp) l q
  have h4 := fun (q : Part) (l : List Item) =>
    Part.foldl_same (fun q => q.dt.items.map Item.key) Part.startItem (by simp) l q
  have h5 := fun (q : Part) (l : List Item) =>
    Part.foldl_same (fun q => q.gbt.items) Part.startItem (by simp) l q
  have h6 := fun (q : Part) (l : List Item) =>
    Part.foldl_same (fun q => q.gbt.bins.length) Part.startItem (by simp) l q
  have h7 := fun (q : Part) (l : List Item) =>
    Part.foldl_same (fun q => q.gbt.pulses.length) Part.startItem (by simp) l q
  have h8 := fun (q : Part) (l : List Item) =>
    Part.foldl_same (fun q => q.jw.area) Part.startItem (by simp) l q
  have h9 := fun (q : Part) (l : List Item) =>
    Part.foldl_same (fun q => q.lct.lines) Part.startItem (by simp) l q
  have h10 := fun (q : Part) (l : List Item) =>
    Part.foldl_same (fun q => q.lct.chain) Part.startItem (by simp) l q
  have h11 := fun (q : Part) (l : List Item) =>
    Part.foldl_same (fun q => q.lct.timers.pulse.length) Part.startItem (by simp) l q
  unfold Part.startDeferred
  (try dsimp only)
  simp [h0, h1, h2, h3, h4, h5, h6, h7, h8, h9, h10, h11]

@[simp] theorem Part.skipItem_fields (n : Nat) (i : Item) :
    (Part.skipItem n p i).dt.geometry = p.dt.geometry ∧
      (Part.skipItem n p i).dt.offset = p.dt.offset ∧
      (Part.skipItem n p i).dt.dwell = p.dt.dwell ∧
      (Part.skipItem n p i).dt.pockets.length = p.dt.pockets.length ∧
      (Part.skipItem n p i).dt.items.map Item.key = p.dt.items.map Item.key ∧
      (Part.skipItem n p i).gbt.items = p.gbt.items ∧
      (Part.skipItem n p i).gbt.bins.length = p.gbt.bins.length ∧
      (Part.skipItem n p i).gbt.pulses.length = p.gbt.pulses.length ∧
      (Part.skipItem n p i).jw.area = p.jw.area ∧
      (Part.skipItem n p i).lct.lines = p.lct.lines ∧
      (Part.skipItem n p i).lct.chain = p.lct.chain ∧
      (Part.skipItem n p i).lct.timers.pulse.length = p.lct.timers.pulse.length := by
  unfold Part.skipItem
  split <;> simp

@[simp] theorem Part.supersede_fields (l : List Item) (n o : Nat) :
    (p.supersede l n o).dt.geometry = p.dt.geometry ∧
      (p.supersede l n o).dt.offset = p.dt.offset ∧
      (p.supersede l n o).dt.dwell = p.dt.dwell ∧
      (p.supersede l n o).dt.pockets.length = p.dt.pockets.length ∧
      (p.supersede l n o).dt.items.map Item.key = p.dt.items.map Item.key ∧
      (p.supersede l n o).gbt.items = p.gbt.items ∧
      (p.supersede l n o).gbt.bins.length = p.gbt.bins.length ∧
      (p.supersede l n o).gbt.pulses.length = p.gbt.pulses.length ∧
      (p.supersede l n o).jw.area = p.jw.area ∧
      (p.supersede l n o).lct.lines = p.lct.lines ∧
      (p.supersede l n o).lct.chain = p.lct.chain ∧
      (p.supersede l n o).lct.timers.pulse.length = p.lct.timers.pulse.length := by
  have h0 := fun (q : Part) (l : List Item) =>
    Part.foldl_same (fun q => q.dt.geometry) (Part.skipItem n) (by simp) l q
  have h1 := fun (q : Part) (l : List Item) =>
    Part.foldl_same (fun q => q.dt.offset) (Part.skipItem n) (by simp) l q
  have h2 := fun (q : Part) (l : List Item) =>
    Part.foldl_same (fun q => q.dt.dwell) (Part.skipItem n) (by simp) l q
  have h3 := fun (q : Part) (l : List Item) =>
    Part.foldl_same (fun q => q.dt.pockets.length) (Part.skipItem n) (by simp) l q
  have h4 := fun (q : Part) (l : List Item) =>
    Part.foldl_same (fun q => q.dt.items.map Item.key) (Part.skipItem n) (by simp) l q
  have h5 := fun (q : Part) (l : List Item) =>
    Part.foldl_same (fun q => q.gbt.items) (Part.skipItem n) (by simp) l q
  have h6 := fun (q : Part) (l : List Item) =>
    Part.foldl_same (fun q => q.gbt.bins.length) (Part.skipItem n) (by simp) l q
  have h7 := fun (q : Part) (l : List Item) =>
    Part.foldl_same (fun q => q.gbt.pulses.length) (Part.skipItem n) (by simp) l q
  have h8 := fun (q : Part) (l : List Item) =>
    Part.foldl_same (fun q => q.jw.area) (Part.skipItem n) (by simp) l q
  have h9 := fun (q : Part) (l : List Item) =>
    Part.foldl_same (fun q => q.lct.lines) (Part.skipItem n) (by simp) l q
  have h10 := fun (q : Part) (l : List Item) =>
    Part.foldl_same (fun q => q.lct.chain) (Part.skipItem n) (by simp) l q
  have h11 := fun (q : Part) (l : List Item) =>
    Part.foldl_same (fun q => q.lct.timers.pulse.length) (Part.skipItem n) (by simp) l q
  unfold Part.supersede
  (try dsimp only)
  (try split) <;> simp [h0, h1, h2, h3, h4, h5, h6, h7, h8, h9, h10, h11]

@[simp] theorem Part.turnDial_fields (g : Geometry) :
    (p.turnDial g).gbt.items = p.gbt.items ∧
      (p.turnDial g).gbt.bins.length = p.gbt.bins.length ∧
      (p.turnDial g).gbt.pulses.length = p.gbt.pulses.length ∧
      (p.turnDial g).jw.area = p.jw.area ∧
      (p.turnDial g).lct.lines = p.lct.lines ∧
      (p.turnDial g).lct.chain = p.lct.chain ∧
      (p.turnDial g).lct.timers.pulse.length = p.lct.timers.pulse.length := by
  unfold Part.turnDial
  simp

@[simp] theorem Part.index_fields :
    (p.index).gbt.items = p.gbt.items ∧
      (p.index).gbt.bins.length = p.gbt.bins.length ∧
      (p.index).gbt.pulses.length = p.gbt.pulses.length ∧
      (p.index).jw.area = p.jw.area ∧
      (p.index).lct.lines = p.lct.lines ∧
      (p.index).lct.chain = p.lct.chain ∧
      (p.index).lct.timers.pulse.length = p.lct.timers.pulse.length := by
  unfold Part.index
  dsimp only
  (repeat' split) <;> simp

@[simp] theorem Part.jamExpires_fields :
    (p.jamExpires).jw.area = p.jw.area ∧
      (p.jamExpires).lct.lines = p.lct.lines ∧
      (p.jamExpires).lct.chain = p.lct.chain ∧
      (p.jamExpires).lct.timers.pulse.length = p.lct.timers.pulse.length := by
  unfold Part.jamExpires
  simp

theorem catchPocket_fields (r : Reason) (a : Part × Nat) (k : Nat) :
    (catchPocket r a k).1.dt.geometry = a.1.dt.geometry ∧ (catchPocket r a k).1.dt.offset = a.1.dt.offset ∧
      (catchPocket r a k).1.dt.dwell = a.1.dt.dwell ∧
      (catchPocket r a k).1.dt.pockets.length = a.1.dt.pockets.length ∧
      (catchPocket r a k).1.dt.items = a.1.dt.items ∧ (catchPocket r a k).1.gbt.items = a.1.gbt.items ∧
      (catchPocket r a k).1.gbt.bins.length = a.1.gbt.bins.length ∧
      (catchPocket r a k).1.gbt.pulses.length = a.1.gbt.pulses.length := by
  unfold catchPocket
  (repeat' split) <;> simp

@[simp] theorem Part.catchAll_fields (r : Reason) :
    ((p.catchAll r).1).dt.geometry = p.dt.geometry ∧
      ((p.catchAll r).1).dt.offset = p.dt.offset ∧
      ((p.catchAll r).1).dt.dwell = p.dt.dwell ∧
      ((p.catchAll r).1).dt.pockets.length = p.dt.pockets.length ∧
      ((p.catchAll r).1).dt.items.map Item.key = p.dt.items.map Item.key ∧
      ((p.catchAll r).1).gbt.items = p.gbt.items ∧
      ((p.catchAll r).1).gbt.bins.length = p.gbt.bins.length ∧
      ((p.catchAll r).1).gbt.pulses.length = p.gbt.pulses.length := by
  unfold Part.catchAll
  refine ⟨?_, ?_, ?_, ?_, ?_, ?_, ?_, ?_⟩
  · exact catchFold_same (fun q => q.dt.geometry) r (fun a k => by simp [catchPocket_fields]) _ _
  · exact catchFold_same (fun q => q.dt.offset) r (fun a k => by simp [catchPocket_fields]) _ _
  · exact catchFold_same (fun q => q.dt.dwell) r (fun a k => by simp [catchPocket_fields]) _ _
  · exact catchFold_same (fun q => q.dt.pockets.length) r (fun a k => by simp [catchPocket_fields]) _ _
  · exact catchFold_same (fun q => q.dt.items.map Item.key) r (fun a k => by simp [catchPocket_fields]) _ _
  · exact catchFold_same (fun q => q.gbt.items) r (fun a k => by simp [catchPocket_fields]) _ _
  · exact catchFold_same (fun q => q.gbt.bins.length) r (fun a k => by simp [catchPocket_fields]) _ _
  · exact catchFold_same (fun q => q.gbt.pulses.length) r (fun a k => by simp [catchPocket_fields]) _ _

@[simp] theorem Part.endStaging_fields (w : Staging) :
    (p.endStaging w).jw.area = p.jw.area := by
  unfold Part.endStaging
  split <;> simp

@[simp] theorem Part.recheckSlot_fields (n : Nat) (s : SlotId) :
    (p.recheckSlot n s).jw.area = p.jw.area := by
  unfold Part.recheckSlot
  (repeat' split) <;> simp

@[simp] theorem Part.setupUnderLot_fields (x : Nominal) (f : Four Bool) (m : Meter) :
    (Part.setupUnderLot x f p m).dt.geometry = p.dt.geometry ∧
      (Part.setupUnderLot x f p m).dt.offset = p.dt.offset ∧
      (Part.setupUnderLot x f p m).dt.dwell = p.dt.dwell ∧
      (Part.setupUnderLot x f p m).dt.pockets.length = p.dt.pockets.length ∧
      (Part.setupUnderLot x f p m).dt.items.map Item.key = p.dt.items.map Item.key ∧
      (Part.setupUnderLot x f p m).jw.area = p.jw.area ∧
      (Part.setupUnderLot x f p m).lct.lines = p.lct.lines ∧
      (Part.setupUnderLot x f p m).lct.chain = p.lct.chain ∧
      (Part.setupUnderLot x f p m).lct.timers.pulse.length = p.lct.timers.pulse.length := by
  unfold Part.setupUnderLot
  split <;> simp

@[simp] theorem Part.beginSetups_fields (w : StartLotWork) (r : Option (Nat × LotCounters)) (f : Four Bool) :
    (p.beginSetups w r f).dt.geometry = p.dt.geometry ∧
      (p.beginSetups w r f).dt.offset = p.dt.offset ∧
      (p.beginSetups w r f).dt.dwell = p.dt.dwell ∧
      (p.beginSetups w r f).dt.pockets.length = p.dt.pockets.length ∧
      (p.beginSetups w r f).dt.items.map Item.key = p.dt.items.map Item.key ∧
      (p.beginSetups w r f).jw.area = p.jw.area ∧
      (p.beginSetups w r f).lct.lines = p.lct.lines ∧
      (p.beginSetups w r f).lct.chain = p.lct.chain ∧
      (p.beginSetups w r f).lct.timers.pulse.length = p.lct.timers.pulse.length := by
  have h0 := fun (q : Part) (l : List Meter) =>
    Part.foldl_same (fun q => q.dt.geometry) (Part.setupUnderLot w.nominal f) (by simp) l q
  have h1 := fun (q : Part) (l : List Meter) =>
    Part.foldl_same (fun q => q.dt.offset) (Part.setupUnderLot w.nominal f) (by simp) l q
  have h2 := fun (q : Part) (l : List Meter) =>
    Part.foldl_same (fun q => q.dt.dwell) (Part.setupUnderLot w.nominal f) (by simp) l q
  have h3 := fun (q : Part) (l : List Meter) =>
    Part.foldl_same (fun q => q.dt.pockets.length) (Part.setupUnderLot w.nominal f) (by simp) l q
  have h4 := fun (q : Part) (l : List Meter) =>
    Part.foldl_same (fun q => q.dt.items.map Item.key) (Part.setupUnderLot w.nominal f) (by simp) l q
  have h5 := fun (q : Part) (l : List Meter) =>
    Part.foldl_same (fun q => q.jw.area) (Part.setupUnderLot w.nominal f) (by simp) l q
  have h6 := fun (q : Part) (l : List Meter) =>
    Part.foldl_same (fun q => q.lct.lines) (Part.setupUnderLot w.nominal f) (by simp) l q
  have h7 := fun (q : Part) (l : List Meter) =>
    Part.foldl_same (fun q => q.lct.chain) (Part.setupUnderLot w.nominal f) (by simp) l q
  have h8 := fun (q : Part) (l : List Meter) =>
    Part.foldl_same (fun q => q.lct.timers.pulse.length) (Part.setupUnderLot w.nominal f) (by simp) l q
  unfold Part.beginSetups
  (try dsimp only)
  simp [h0, h1, h2, h3, h4, h5, h6, h7, h8]

@[simp] theorem Part.startLot_fields (f : Four Bool) :
    (p.startLot f).dt.geometry = p.dt.geometry ∧
      (p.startLot f).dt.offset = p.dt.offset ∧
      (p.startLot f).dt.dwell = p.dt.dwell ∧
      (p.startLot f).dt.pockets.length = p.dt.pockets.length ∧
      (p.startLot f).dt.items.map Item.key = p.dt.items.map Item.key ∧
      (p.startLot f).jw.area = p.jw.area ∧
      (p.startLot f).lct.lines = p.lct.lines ∧
      (p.startLot f).lct.chain = p.lct.chain ∧
      (p.startLot f).lct.timers.pulse.length = p.lct.timers.pulse.length := by
  unfold Part.startLot
  dsimp only
  (repeat' split) <;> simp

@[simp] theorem Part.contextRead_fields (w : StartLotWork) (d : List Byte) (f : Four Bool) :
    (p.contextRead w d f).dt.geometry = p.dt.geometry ∧
      (p.contextRead w d f).dt.offset = p.dt.offset ∧
      (p.contextRead w d f).dt.dwell = p.dt.dwell ∧
      (p.contextRead w d f).dt.pockets.length = p.dt.pockets.length ∧
      (p.contextRead w d f).dt.items.map Item.key = p.dt.items.map Item.key ∧
      (p.contextRead w d f).jw.area = p.jw.area ∧
      (p.contextRead w d f).lct.lines = p.lct.lines ∧
      (p.contextRead w d f).lct.chain = p.lct.chain ∧
      (p.contextRead w d f).lct.timers.pulse.length = p.lct.timers.pulse.length := by
  unfold Part.contextRead
  split <;> simp

@[simp] theorem Part.joinIfPresent_fields (c : HoldCause) :
    (p.joinIfPresent c).jw.area = p.jw.area := by
  unfold Part.joinIfPresent
  split <;> simp

@[simp] theorem Part.enterOpenLot_fields :
    (p.enterOpenLot).jw.area = p.jw.area ∧
      (p.enterOpenLot).lct.lines = p.lct.lines ∧
      (p.enterOpenLot).lct.chain = p.lct.chain ∧
      (p.enterOpenLot).lct.timers.pulse.length = p.lct.timers.pulse.length := by
  unfold Part.enterOpenLot
  split <;> simp

@[simp] theorem Part.openLot_fields (w : StartLotWork) (r : Option (Nat × LotCounters)) :
    (p.openLot w r).jw.area = p.jw.area ∧
      (p.openLot w r).lct.lines = p.lct.lines ∧
      (p.openLot w r).lct.chain = p.lct.chain ∧
      (p.openLot w r).lct.timers.pulse.length = p.lct.timers.pulse.length := by
  unfold Part.openLot
  simp

@[simp] theorem Part.combineSetups_fields (w : StartLotWork) (r : Option (Nat × LotCounters)) (o : Four (Option ChannelCause)) :
    (p.combineSetups w r o).jw.area = p.jw.area ∧
      (p.combineSetups w r o).lct.lines = p.lct.lines ∧
      (p.combineSetups w r o).lct.chain = p.lct.chain ∧
      (p.combineSetups w r o).lct.timers.pulse.length = p.lct.timers.pulse.length := by
  unfold Part.combineSetups
  split <;> simp

@[simp] theorem Part.drain_fields :
    (p.drain).lct.lines = p.lct.lines ∧
      (p.drain).lct.chain = p.lct.chain ∧
      (p.drain).lct.timers.pulse.length = p.lct.timers.pulse.length := by
  unfold Part.drain
  split <;> simp

@[simp] theorem Part.endLot_fields :
    (p.endLot).lct.lines = p.lct.lines ∧
      (p.endLot).lct.chain = p.lct.chain ∧
      (p.endLot).lct.timers.pulse.length = p.lct.timers.pulse.length := by
  unfold Part.endLot
  dsimp only
  (repeat' split) <;> simp

@[simp] theorem Part.abortLot_fields :
    (p.abortLot).dt.geometry = p.dt.geometry ∧
      (p.abortLot).dt.offset = p.dt.offset ∧
      (p.abortLot).dt.dwell = p.dt.dwell ∧
      (p.abortLot).dt.pockets.length = p.dt.pockets.length ∧
      (p.abortLot).dt.items.map Item.key = p.dt.items.map Item.key ∧
      (p.abortLot).gbt.items = p.gbt.items ∧
      (p.abortLot).gbt.bins.length = p.gbt.bins.length ∧
      (p.abortLot).gbt.pulses.length = p.gbt.pulses.length ∧
      (p.abortLot).jw.area = p.jw.area ∧
      (p.abortLot).lct.lines = p.lct.lines ∧
      (p.abortLot).lct.chain = p.lct.chain ∧
      (p.abortLot).lct.timers.pulse.length = p.lct.timers.pulse.length := by
  unfold Part.abortLot
  (repeat' split) <;> simp

@[simp] theorem withdrawReservation_fields (k : Nat) :
    (withdrawReservation p k).dt.geometry = p.dt.geometry ∧
      (withdrawReservation p k).dt.offset = p.dt.offset ∧
      (withdrawReservation p k).dt.dwell = p.dt.dwell ∧
      (withdrawReservation p k).dt.pockets.length = p.dt.pockets.length ∧
      (withdrawReservation p k).dt.items.map Item.key = p.dt.items.map Item.key := by
  unfold withdrawReservation
  split <;> simp

@[simp] theorem Part.withdrawSwitch_fields :
    (p.withdrawSwitch).jw.area = p.jw.area := by
  unfold Part.withdrawSwitch
  split <;> simp

@[simp] theorem Part.foldWithdraw_fields (l : List Nat) :
    (l.foldl withdrawReservation p).dt.geometry = p.dt.geometry ∧
      (l.foldl withdrawReservation p).dt.offset = p.dt.offset ∧
      (l.foldl withdrawReservation p).dt.dwell = p.dt.dwell ∧
      (l.foldl withdrawReservation p).dt.pockets.length = p.dt.pockets.length ∧
      (l.foldl withdrawReservation p).dt.items.map Item.key = p.dt.items.map Item.key := by
  refine ⟨?_, ?_, ?_, ?_, ?_⟩
  · exact Part.foldl_same (fun q => q.dt.geometry) _ (fun q c => by simp) _ _
  · exact Part.foldl_same (fun q => q.dt.offset) _ (fun q c => by simp) _ _
  · exact Part.foldl_same (fun q => q.dt.dwell) _ (fun q c => by simp) _ _
  · exact Part.foldl_same (fun q => q.dt.pockets.length) _ (fun q c => by simp) _ _
  · exact Part.foldl_same (fun q => q.dt.items.map Item.key) _ (fun q c => by simp) _ _

@[simp] theorem Part.lotClose_fields :
    (p.lotClose).dt.geometry = p.dt.geometry ∧
      (p.lotClose).dt.offset = p.dt.offset ∧
      (p.lotClose).dt.dwell = p.dt.dwell ∧
      (p.lotClose).dt.pockets.length = p.dt.pockets.length ∧
      (p.lotClose).dt.items.map Item.key = p.dt.items.map Item.key ∧
      (p.lotClose).jw.area = p.jw.area ∧
      (p.lotClose).lct.lines = p.lct.lines ∧
      (p.lotClose).lct.chain = p.lct.chain ∧
      (p.lotClose).lct.timers.pulse.length = p.lct.timers.pulse.length := by
  unfold Part.lotClose
  simp

@[simp] theorem Part.holdRequest_fields :
    (p.holdRequest).jw.area = p.jw.area ∧
      (p.holdRequest).lct.lines = p.lct.lines ∧
      (p.holdRequest).lct.chain = p.lct.chain ∧
      (p.holdRequest).lct.timers.pulse.length = p.lct.timers.pulse.length := by
  unfold Part.holdRequest
  split <;> simp

@[simp] theorem Part.enterLotMode_fields :
    (p.enterLotMode).dt.geometry = p.dt.geometry ∧
      (p.enterLotMode).dt.offset = p.dt.offset ∧
      (p.enterLotMode).dt.dwell = p.dt.dwell ∧
      (p.enterLotMode).dt.pockets.length = p.dt.pockets.length ∧
      (p.enterLotMode).dt.items.map Item.key = p.dt.items.map Item.key ∧
      (p.enterLotMode).gbt.items = p.gbt.items ∧
      (p.enterLotMode).gbt.bins.length = p.gbt.bins.length ∧
      (p.enterLotMode).gbt.pulses.length = p.gbt.pulses.length ∧
      (p.enterLotMode).jw.area = p.jw.area ∧
      (p.enterLotMode).lct.lines = p.lct.lines ∧
      (p.enterLotMode).lct.chain = p.lct.chain ∧
      (p.enterLotMode).lct.timers.pulse.length = p.lct.timers.pulse.length := by
  unfold Part.enterLotMode
  split <;> simp

@[simp] theorem Part.resume_fields :
    (p.resume).dt.geometry = p.dt.geometry ∧
      (p.resume).dt.offset = p.dt.offset ∧
      (p.resume).dt.dwell = p.dt.dwell ∧
      (p.resume).dt.pockets.length = p.dt.pockets.length ∧
      (p.resume).dt.items.map Item.key = p.dt.items.map Item.key ∧
      (p.resume).gbt.items = p.gbt.items ∧
      (p.resume).gbt.bins.length = p.gbt.bins.length ∧
      (p.resume).gbt.pulses.length = p.gbt.pulses.length ∧
      (p.resume).jw.area = p.jw.area ∧
      (p.resume).lct.lines = p.lct.lines ∧
      (p.resume).lct.chain = p.lct.chain ∧
      (p.resume).lct.timers.pulse.length = p.lct.timers.pulse.length := by
  unfold Part.resume
  dsimp only
  (repeat' split) <;> simp

@[simp] theorem Part.clearHalt_fields :
    (p.clearHalt).dt.geometry = p.dt.geometry ∧
      (p.clearHalt).dt.offset = p.dt.offset ∧
      (p.clearHalt).dt.dwell = p.dt.dwell ∧
      (p.clearHalt).dt.pockets.length = p.dt.pockets.length ∧
      (p.clearHalt).dt.items.map Item.key = p.dt.items.map Item.key ∧
      (p.clearHalt).gbt.items = p.gbt.items ∧
      (p.clearHalt).gbt.bins.length = p.gbt.bins.length ∧
      (p.clearHalt).gbt.pulses.length = p.gbt.pulses.length ∧
      (p.clearHalt).jw.area = p.jw.area ∧
      (p.clearHalt).lct.lines = p.lct.lines ∧
      (p.clearHalt).lct.chain = p.lct.chain ∧
      (p.clearHalt).lct.timers.pulse.length = p.lct.timers.pulse.length := by
  unfold Part.clearHalt
  dsimp only
  (repeat' split) <;> simp

@[simp] theorem Part.meterRestart_fields (b : Bool) :
    (p.meterRestart b).dt.geometry = p.dt.geometry ∧
      (p.meterRestart b).dt.offset = p.dt.offset ∧
      (p.meterRestart b).dt.dwell = p.dt.dwell ∧
      (p.meterRestart b).dt.pockets.length = p.dt.pockets.length ∧
      (p.meterRestart b).dt.items.map Item.key = p.dt.items.map Item.key ∧
      (p.meterRestart b).jw.area = p.jw.area ∧
      (p.meterRestart b).lct.lines = p.lct.lines ∧
      (p.meterRestart b).lct.chain = p.lct.chain ∧
      (p.meterRestart b).lct.timers.pulse.length = p.lct.timers.pulse.length := by
  unfold Part.meterRestart
  dsimp only
  (repeat' split) <;> simp

@[simp] theorem Part.testHead_fields :
    (p.testHead).jw.area = p.jw.area := by
  unfold Part.testHead
  (repeat' split) <;> simp

@[simp] theorem Part.settleLevel_fields (a : JournalArea) :
    (p.settleLevel a).jw.area = p.jw.area := by
  unfold Part.settleLevel
  simp

@[simp] theorem Part.startAge_fields (a : JournalArea) :
    (p.startAge a).lct.lines = p.lct.lines ∧
      (p.startAge a).lct.chain = p.lct.chain ∧
      (p.startAge a).lct.timers.pulse.length = p.lct.timers.pulse.length := by
  unfold Part.startAge
  split <;> simp

@[simp] theorem Part.ageAtPublish_fields (a : JournalArea) :
    (p.ageAtPublish a).lct.lines = p.lct.lines ∧
      (p.ageAtPublish a).lct.chain = p.lct.chain ∧
      (p.ageAtPublish a).lct.timers.pulse.length = p.lct.timers.pulse.length := by
  unfold Part.ageAtPublish
  split <;> simp

@[simp] theorem Part.ageAtReclaim_fields (a : JournalArea) :
    (p.ageAtReclaim a).lct.lines = p.lct.lines ∧
      (p.ageAtReclaim a).lct.chain = p.lct.chain ∧
      (p.ageAtReclaim a).lct.timers.pulse.length = p.lct.timers.pulse.length := by
  unfold Part.ageAtReclaim
  split <;> simp

@[simp] theorem Part.acceptWaiting_fields :
    (p.acceptWaiting).dt.geometry = p.dt.geometry ∧
      (p.acceptWaiting).dt.offset = p.dt.offset ∧
      (p.acceptWaiting).dt.dwell = p.dt.dwell ∧
      (p.acceptWaiting).dt.pockets.length = p.dt.pockets.length ∧
      (p.acceptWaiting).dt.items.map Item.key = p.dt.items.map Item.key ∧
      (p.acceptWaiting).jw.area = p.jw.area := by
  unfold Part.acceptWaiting
  (repeat' split) <;> simp

@[simp] theorem Part.published_fields (f w : Nat) :
    (p.published f w).dt.geometry = p.dt.geometry ∧
      (p.published f w).dt.offset = p.dt.offset ∧
      (p.published f w).dt.dwell = p.dt.dwell ∧
      (p.published f w).dt.pockets.length = p.dt.pockets.length ∧
      (p.published f w).dt.items.map Item.key = p.dt.items.map Item.key ∧
      (p.published f w).jw.area = p.jw.area ∧
      (p.published f w).lct.lines = p.lct.lines ∧
      (p.published f w).lct.chain = p.lct.chain ∧
      (p.published f w).lct.timers.pulse.length = p.lct.timers.pulse.length := by
  unfold Part.published
  split <;> simp

@[simp] theorem Part.retest_fields :
    (p.retest).jw.area = p.jw.area := by
  unfold Part.retest
  split <;> simp

@[simp] theorem Part.reclaim_fields (v : Nat) :
    (p.reclaim v).jw.area = p.jw.area ∧
      (p.reclaim v).lct.lines = p.lct.lines ∧
      (p.reclaim v).lct.chain = p.lct.chain ∧
      (p.reclaim v).lct.timers.pulse.length = p.lct.timers.pulse.length := by
  unfold Part.reclaim
  (repeat' split) <;> simp

@[simp] theorem Part.ageExpires_fields :
    (p.ageExpires).lct.lines = p.lct.lines ∧
      (p.ageExpires).lct.chain = p.lct.chain ∧
      (p.ageExpires).lct.timers.pulse.length = p.lct.timers.pulse.length := by
  unfold Part.ageExpires
  simp

@[simp] theorem Part.writeGranted_fields (e : WriteEffect) :
    (p.writeGranted e).dt.geometry = p.dt.geometry ∧
      (p.writeGranted e).dt.offset = p.dt.offset ∧
      (p.writeGranted e).dt.dwell = p.dt.dwell ∧
      (p.writeGranted e).dt.pockets.length = p.dt.pockets.length ∧
      (p.writeGranted e).dt.items.map Item.key = p.dt.items.map Item.key ∧
      (p.writeGranted e).jw.area = p.jw.area ∧
      (p.writeGranted e).lct.lines = p.lct.lines ∧
      (p.writeGranted e).lct.chain = p.lct.chain ∧
      (p.writeGranted e).lct.timers.pulse.length = p.lct.timers.pulse.length := by
  unfold Part.writeGranted
  (repeat' split) <;> simp

@[simp] theorem Part.watchReclaim_fields (a : Nat) (m : List Host.Cell) :
    (p.watchReclaim a m).jw.area = p.jw.area ∧
      (p.watchReclaim a m).lct.lines = p.lct.lines ∧
      (p.watchReclaim a m).lct.chain = p.lct.chain ∧
      (p.watchReclaim a m).lct.timers.pulse.length = p.lct.timers.pulse.length := by
  unfold Part.watchReclaim
  split <;> simp

@[simp] theorem Part.handLine_fields (l : LineId) (b : Bool) :
    (p.handLine l b).gbt.items = p.gbt.items ∧
      (p.handLine l b).gbt.bins.length = p.gbt.bins.length ∧
      (p.handLine l b).gbt.pulses.length = p.gbt.pulses.length ∧
      (p.handLine l b).jw.area = p.jw.area ∧
      (p.handLine l b).lct.lines = p.lct.lines ∧
      (p.handLine l b).lct.chain = p.lct.chain ∧
      (p.handLine l b).lct.timers.pulse.length = p.lct.timers.pulse.length := by
  unfold Part.handLine
  (repeat' split) <;> simp

@[simp] theorem Part.changeStable_fields (l : LineId) :
    (p.changeStable l).gbt.items = p.gbt.items ∧
      (p.changeStable l).gbt.bins.length = p.gbt.bins.length ∧
      (p.changeStable l).gbt.pulses.length = p.gbt.pulses.length ∧
      (p.changeStable l).jw.area = p.jw.area := by
  unfold Part.changeStable
  simp

@[simp] theorem Part.pinChanged_fields (l : LineId) (b : Bool) :
    (p.pinChanged l b).gbt.items = p.gbt.items ∧
      (p.pinChanged l b).gbt.bins.length = p.gbt.bins.length ∧
      (p.pinChanged l b).gbt.pulses.length = p.gbt.pulses.length ∧
      (p.pinChanged l b).jw.area = p.jw.area := by
  unfold Part.pinChanged
  dsimp only
  (repeat' split) <;> simp

@[simp] theorem Part.scanned_fields (b : BitVec 64) :
    (p.scanned b).gbt.items = p.gbt.items ∧
      (p.scanned b).gbt.bins.length = p.gbt.bins.length ∧
      (p.scanned b).gbt.pulses.length = p.gbt.pulses.length ∧
      (p.scanned b).jw.area = p.jw.area := by
  unfold Part.scanned
  refine ⟨?_, ?_, ?_, ?_⟩
  · exact Part.foldl_same (fun q => q.gbt.items) _ (fun q c => by simp) _ _
  · exact Part.foldl_same (fun q => q.gbt.bins.length) _ (fun q c => by simp) _ _
  · exact Part.foldl_same (fun q => q.gbt.pulses.length) _ (fun q c => by simp) _ _
  · exact Part.foldl_same (fun q => q.jw.area) _ (fun q c => by simp) _ _

@[simp] theorem Part.pulseExpires_fields (n : Nat) :
    (p.pulseExpires n).dt.geometry = p.dt.geometry ∧
      (p.pulseExpires n).dt.offset = p.dt.offset ∧
      (p.pulseExpires n).dt.dwell = p.dt.dwell ∧
      (p.pulseExpires n).dt.pockets.length = p.dt.pockets.length ∧
      (p.pulseExpires n).dt.items.map Item.key = p.dt.items.map Item.key ∧
      (p.pulseExpires n).gbt.items = p.gbt.items ∧
      (p.pulseExpires n).gbt.bins.length = p.gbt.bins.length ∧
      (p.pulseExpires n).gbt.pulses.length = p.gbt.pulses.length ∧
      (p.pulseExpires n).lct.lines = p.lct.lines ∧
      (p.pulseExpires n).lct.chain = p.lct.chain ∧
      (p.pulseExpires n).lct.timers.pulse.length = p.lct.timers.pulse.length := by
  unfold Part.pulseExpires
  simp

@[simp] theorem Part.configureJournal_fields (a : JournalArea) :
    (p.configureJournal a).lct.lines = p.lct.lines ∧
      (p.configureJournal a).lct.chain = p.lct.chain ∧
      (p.configureJournal a).lct.timers.pulse.length = p.lct.timers.pulse.length := by
  unfold Part.configureJournal
  split <;> simp

@[simp] theorem Part.raisePermit_fields :
    (p.raisePermit).dt.geometry = p.dt.geometry ∧
      (p.raisePermit).dt.offset = p.dt.offset ∧
      (p.raisePermit).dt.dwell = p.dt.dwell ∧
      (p.raisePermit).dt.pockets.length = p.dt.pockets.length ∧
      (p.raisePermit).dt.items.map Item.key = p.dt.items.map Item.key ∧
      (p.raisePermit).lct.lines = p.lct.lines ∧
      (p.raisePermit).lct.chain = p.lct.chain ∧
      (p.raisePermit).lct.timers.pulse.length = p.lct.timers.pulse.length := by
  unfold Part.raisePermit
  split <;> simp

@[simp] theorem Part.dropPermit_fields :
    (p.dropPermit).dt.geometry = p.dt.geometry ∧
      (p.dropPermit).dt.offset = p.dt.offset ∧
      (p.dropPermit).dt.dwell = p.dt.dwell ∧
      (p.dropPermit).dt.pockets.length = p.dt.pockets.length ∧
      (p.dropPermit).dt.items.map Item.key = p.dt.items.map Item.key ∧
      (p.dropPermit).lct.lines = p.lct.lines ∧
      (p.dropPermit).lct.chain = p.lct.chain ∧
      (p.dropPermit).lct.timers.pulse.length = p.lct.timers.pulse.length := by
  unfold Part.dropPermit
  simp

@[simp] theorem Part.settlePermit_fields :
    (p.settlePermit).dt.geometry = p.dt.geometry ∧
      (p.settlePermit).dt.offset = p.dt.offset ∧
      (p.settlePermit).dt.dwell = p.dt.dwell ∧
      (p.settlePermit).dt.pockets.length = p.dt.pockets.length ∧
      (p.settlePermit).dt.items.map Item.key = p.dt.items.map Item.key ∧
      (p.settlePermit).lct.lines = p.lct.lines ∧
      (p.settlePermit).lct.chain = p.lct.chain ∧
      (p.settlePermit).lct.timers.pulse.length = p.lct.timers.pulse.length := by
  unfold Part.settlePermit
  (repeat' split) <;> simp

end Sys2Proof.Machine
end

