-- ==== Sys2Proof/Laws/Commit.lean ====
section
/-! SUPPORT. What follows every command: it keeps every region, PERMIT comes to agree with its conditions, a request's
end stays an end. And the form in which each kind of command answers. -/

/- The proofs of this file are elaborated one after the other, so that the package, compiled as one file, does
not ask for more threads at once than a machine of limited memory can give. -/
set_option Elab.async false

namespace Sys2Proof.Machine

/-! ## Filing the status writes (R180) -/

/-- `requestItem` adds at most the write of its item, where none waited. -/
theorem requestItem_spec (l : List StatusRequest) (i : StatusItem) :
    (∃ r ∈ requestItem l i, r.item = i) ∧
      ((requestItem l i = l ∧ ∃ r ∈ l, r.item = i) ∨
        (requestItem l i = l ++ [{ item := i, holdsRead := false }] ∧ ∀ r ∈ l, r.item ≠ i)) := by
  unfold requestItem
  by_cases h : l.any (fun r => r.item == i) = true
  · have h' : ∃ r ∈ l, r.item = i := by simpa using h
    simp [h, h']
  · have h' : ∀ r ∈ l, r.item ≠ i := by simpa using h
    simp [h]
    exact h'

/-- Requesting items adds writes of some of them, each once, where none waited; each then has one. -/
theorem foldl_requestItem_spec (is : List StatusItem) (l : List StatusRequest) :
    ∃ new : List StatusItem, is.foldl requestItem l = l ++ new.map (fun i => { item := i, holdsRead := false }) ∧
      new.Nodup ∧ (∀ i ∈ new, i ∈ is ∧ ∀ r ∈ l, r.item ≠ i) ∧ ∀ i ∈ is, ∃ r ∈ is.foldl requestItem l, r.item = i := by
  induction is generalizing l with
  | nil => exact ⟨[], by simp⟩
  | cons i rest ih =>
    obtain ⟨new, h1, h2, h3, h4⟩ := ih (requestItem l i)
    obtain ⟨k1, k2⟩ := requestItem_spec l i
    rw [List.foldl_cons]
    have hmem : ∀ x ∈ i :: rest, ∃ r ∈ rest.foldl requestItem (requestItem l i), r.item = x := by
      intro x hx
      rcases List.mem_cons.mp hx with rfl | hx
      · obtain ⟨r, hr, hi⟩ := k1
        exact ⟨r, by rw [h1]; simp [hr], hi⟩
      · exact h4 x hx
    rcases k2 with ⟨k2, -⟩ | ⟨k2, k3⟩
    · rw [k2] at h1 h3 hmem
      rw [k2]
      exact ⟨new, h1, h2, fun x hx => ⟨List.mem_cons_of_mem _ (h3 x hx).1, (h3 x hx).2⟩, hmem⟩
    · refine ⟨i :: new, by rw [h1, k2]; simp, ?_, ?_, hmem⟩
      · refine List.nodup_cons.mpr ⟨fun hi => ?_, h2⟩
        exact (h3 i hi).2 { item := i, holdsRead := false } (by rw [k2]; simp) rfl
      · intro x hx
        rcases List.mem_cons.mp hx with rfl | hx
        · exact ⟨by simp, k3⟩
        · exact ⟨List.mem_cons_of_mem _ (h3 x hx).1, fun r hr => (h3 x hx).2 r (by rw [k2]; simp [hr])⟩

/-! ## Regions -/

theorem Sa.follows_refl (a : Sa) : a.follows a := ⟨rfl, rfl, ⟨[], by simp⟩, ⟨[], by simp⟩⟩

theorem Sa.follows_trans {a b c : Sa} (h : a.follows b) (k : b.follows c) : a.follows c := by
  obtain ⟨h1, h2, ⟨rs, h3, h4⟩, is, h5, h6, h7⟩ := h
  obtain ⟨k1, k2, ⟨ss, k3, k4⟩, js, k5, k6, k7⟩ := k
  refine ⟨k1.trans h1, k2.trans h2, ⟨rs ++ ss, by rw [k3, h3, List.append_assoc], ?_⟩,
    ⟨is ++ js, by rw [k5, h5, List.append_assoc, List.map_append], ?_, ?_⟩⟩
  · intro x hx
    rcases List.mem_append.mp hx with hx | hx
    · exact h4 x hx
    · exact k4 x hx
  · refine List.nodup_append.mpr ⟨h6, k6, fun i hi j hj e => ?_⟩
    subst e
    exact k7 i hj { item := i, holdsRead := false } (by rw [h5]; simp [hi]) rfl
  · intro i hi r hr
    rcases List.mem_append.mp hi with hi | hi
    · exact h7 i hi r hr
    · exact k7 i hi r (by rw [h5]; simp [hr])

theorem Region.same_refl (r : Region) (p : Part) : r.same p p := by
  cases r <;> simp [Region.same, Sa.follows_refl]

theorem Region.same_trans {r : Region} {p q t : Part} (h : r.same p q) (k : r.same q t) : r.same p t := by
  cases r <;> simp only [Region.same] at h k ⊢
  case dial => rw [← h, ← k]
  case timers => rw [← h, ← k]
  case queues => exact Sa.follows_trans h k
  all_goals simp_all

theorem Part.keeps_trans {rs : List Region} {p q t : Part} (h : Part.keeps rs p q) (k : Part.keeps rs q t) :
    Part.keeps rs p t := fun r hr => Region.same_trans (h r hr) (k r hr)

theorem Part.keepsBut_trans {rs : List Region} {p q t : Part} (h : Part.keepsBut rs p q) (k : Part.keepsBut rs q t) :
    Part.keepsBut rs p t := fun r hr => Region.same_trans (h r hr) (k r hr)

/-- `fetchPost` takes from the post queue and files one more access behind the REQUEST queue. -/
theorem Part.fetchPost_frame (p : Part) :
    p.fetchPost.rqx.current = p.rqx.current ∧ p.fetchPost.rqx.base = p.rqx.base ∧
      p.fetchPost.rqx.parkedRef = p.rqx.parkedRef ∧ p.fetchPost.sa.status = p.sa.status ∧
      p.sa.follows p.fetchPost.sa := by
  unfold Part.fetchPost
  split
  · split
    · simp [Sa.follows_refl]
    · refine ⟨rfl, rfl, rfl, rfl, rfl, rfl, ⟨_, rfl, fun x hx => ?_⟩, ⟨[], by simp⟩⟩
      simp only [readRequests, List.mem_map] at hx
      obtain ⟨i, -, rfl⟩ := hx
      exact ⟨_, _, rfl⟩
  · simp [Sa.follows_refl]

theorem Part.settlePermit_frame (p : Part) :
    { p.settlePermit.dt with permit := p.dt.permit, indexExpected := p.dt.indexExpected } = p.dt ∧
      p.settlePermit.lct.lines = p.lct.lines ∧ p.settlePermit.lct.chain = p.lct.chain ∧
      { p.settlePermit.lct.timers with jam := p.lct.timers.jam } = p.lct.timers := by
  unfold Part.settlePermit Part.raisePermit Part.dropPermit
  (repeat' split) <;> simp

/-- Filing the status writes leaves all but the STATUS queue. -/
theorem Part.requestChanged_follows (b p : Part) : p.sa.follows (Part.requestChanged b p).sa := by
  obtain ⟨new, h1, h2, h3, -⟩ := foldl_requestItem_spec (Part.itemsDue b p) p.sa.status
  exact ⟨rfl, rfl, ⟨[], by simp⟩, ⟨new, by simpa using h1, h2, fun i hi => (h3 i hi).2⟩⟩

/-- The items noted on the way are the command's own affair: what follows it puts them back. -/
theorem Part.commit_changed (b p : Part) : (Part.commit b p).changed = b.changed := by simp [Part.commit]

/-- What follows a command files in the arbiter's queues nothing but reads of a request slot and status writes. -/
theorem Part.commit_follows (b p : Part) : p.sa.follows (Part.commit b p).sa := by
  have h := Part.requestChanged_follows b p.fetchPost.settlePermit
  have k : p.fetchPost.settlePermit.sa = p.fetchPost.sa := by simp
  rw [k] at h
  exact Sa.follows_trans p.fetchPost_frame.2.2.2.2 h

/-- What follows a command keeps every region; the items it noted are dropped. -/
theorem Part.commit_keeps (b p : Part) (rs : List Region) :
    Part.keeps rs { p with changed := b.changed } (Part.commit b p) := by
  intro r _
  have h1 := p.fetchPost_frame
  have h2 := p.fetchPost.settlePermit_frame
  have h3 := Part.commit_follows b p
  unfold Part.commit at h3 ⊢
  cases r <;> simp_all [Region.same]

/-- What a command keeps as it works, what follows it keeps too. -/
theorem Part.keeps_commit {rs : List Region} {p q : Part} (h : Part.keeps rs p { q with changed := p.changed }) :
    Part.keeps rs p (Part.commit p q) := Part.keeps_trans h (Part.commit_keeps p q rs)

theorem Part.keepsBut_commit {rs : List Region} {p q : Part}
    (h : Part.keepsBut rs p { q with changed := p.changed }) : Part.keepsBut rs p (Part.commit p q) :=
  fun r hr => Region.same_trans (h r hr) (Part.commit_keeps p q [r] r (by simp))

/-- The blocks that what follows a command leaves alone. -/
@[simp] theorem Part.commit_blocks (b p : Part) :
    (Part.commit b p).lcu = p.lcu ∧ (Part.commit b p).mc = p.mc ∧ (Part.commit b p).rsc = p.rsc ∧
      (Part.commit b p).ps = p.ps ∧ (Part.commit b p).gbt = p.gbt ∧ (Part.commit b p).lsq = p.lsq ∧
      (Part.commit b p).jw = p.jw ∧ (Part.commit b p).attn = p.attn ∧ (Part.commit b p).cfg = p.cfg ∧
      (Part.commit b p).draws = p.draws ∧ (Part.commit b p).changed = b.changed := by
  simp [Part.commit]

/-- The fields of the DT, the RQX and the LCT that what follows a command leaves alone. -/
@[simp] theorem Part.commit_fields (b p : Part) :
    (Part.commit b p).dt.geometry = p.dt.geometry ∧ (Part.commit b p).dt.offset = p.dt.offset ∧
      (Part.commit b p).dt.pockets = p.dt.pockets ∧ (Part.commit b p).dt.dwell = p.dt.dwell ∧
      (Part.commit b p).dt.items = p.dt.items ∧ (Part.commit b p).dt.openedIn = p.dt.openedIn ∧
      (Part.commit b p).rqx.current = p.rqx.current ∧ (Part.commit b p).rqx.base = p.rqx.base ∧
      (Part.commit b p).rqx.parkedRef = p.rqx.parkedRef ∧
      (Part.commit b p).lct.lines = p.lct.lines ∧ (Part.commit b p).lct.chain = p.lct.chain := by
  have h1 := Part.commit_keeps b p [.dial, .requests, .lines]
  have hd := h1 .dial (by simp)
  have hr := h1 .requests (by simp)
  have hl := h1 .lines (by simp)
  simp only [Region.same] at hd hr hl
  have key : ∀ (x y : Dt) (a c : Bool), { x with permit := a, indexExpected := c } = y →
      x.geometry = y.geometry ∧ x.offset = y.offset ∧ x.pockets = y.pockets ∧ x.dwell = y.dwell ∧
        x.items = y.items ∧ x.openedIn = y.openedIn := by
    rintro x y a c rfl; simp
  obtain ⟨a1, a2, a3, a4, a5, a6⟩ := key _ _ _ _ hd
  exact ⟨a1, a2, a3, a4, a5, a6, hr.1, hr.2.1, hr.2.2, hl.1, hl.2⟩

/-- The timers but the jam timer. -/
@[simp] theorem Part.commit_timers (b p : Part) :
    (Part.commit b p).lct.timers.feed = p.lct.timers.feed ∧
      (Part.commit b p).lct.timers.clearJet = p.lct.timers.clearJet ∧
      (Part.commit b p).lct.timers.starvation = p.lct.timers.starvation ∧
      (Part.commit b p).lct.timers.age = p.lct.timers.age ∧
      (Part.commit b p).lct.timers.take = p.lct.timers.take ∧
      (Part.commit b p).lct.timers.pulse = p.lct.timers.pulse := by
  have h := Part.commit_keeps b p [.timers] .timers (by simp)
  simp only [Region.same] at h
  have key : ∀ (x y : Timers) (a : Timer), { x with jam := a } = y →
      x.feed = y.feed ∧ x.clearJet = y.clearJet ∧ x.starvation = y.starvation ∧ x.age = y.age ∧ x.take = y.take ∧
        x.pulse = y.pulse := by
    rintro x y a rfl; simp
  exact key _ _ _ h

/-- What follows a command leaves JOURNAL and BULK, and what the other two queues held, in its place. -/
@[simp] theorem Part.commit_queues (b p : Part) :
    (Part.commit b p).sa.journal = p.sa.journal ∧ (Part.commit b p).sa.bulk = p.sa.bulk ∧
      p.sa.request <+: (Part.commit b p).sa.request ∧ p.sa.status <+: (Part.commit b p).sa.status := by
  obtain ⟨h1, h2, ⟨rs, h3, -⟩, is, h4, -⟩ := Part.commit_follows b p
  exact ⟨h1, h2, ⟨rs, h3.symm⟩, ⟨_, h4.symm⟩⟩

/-- Where the command filed the requests `rs` behind the REQUEST queue, and no others, so does what it comes to. -/
theorem Part.filed_commit {p q : Part} {rs : List StoreRequest}
    (h : q.sa = { p.sa with request := p.sa.request ++ rs }) (b : Part) : Part.filed p (Part.commit b q) rs := by
  unfold Part.filed
  rw [← h]
  exact Part.commit_follows b q

/-- What follows a command changes no timer but the jam timer. -/
theorem Part.commit_timers_eq (b p : Part) :
    (Part.commit b p).lct.timers = { p.lct.timers with jam := (Part.commit b p).lct.timers.jam } := by
  have h := Part.commit_keeps b p [.timers] .timers (by simp)
  simp only [Region.same] at h
  rw [← h]

/-- What the operations read of the tables, after a command. -/
@[simp] theorem Part.commit_reads (b p : Part) :
    (Part.commit b p).pocket = p.pocket ∧ (Part.commit b p).bin = p.bin ∧ (Part.commit b p).pulse = p.pulse ∧
      (Part.commit b p).channel = p.channel ∧ (Part.commit b p).gateCount = p.gateCount ∧
      (Part.commit b p).indexCount = p.indexCount := by
  refine ⟨?_, ?_, ?_, ?_, ?_, ?_⟩
  · funext k; simp [Part.pocket]
  · funext k; simp [Part.bin]
  · funext k; simp [Part.pulse]
  · funext k; simp [Part.channel]
  · simp [Part.gateCount]
  · simp [Part.indexCount]

/-! ## The status items that a command files (R180) -/

/-- The value of an item is read from five blocks. -/
theorem Part.statusBytes_congr {p q : Part} (h1 : q.lsq = p.lsq) (h2 : q.cfg = p.cfg) (h3 : q.lcu = p.lcu)
    (h4 : q.ps = p.ps) (h5 : q.mc = p.mc) (h6 : q.rsc = p.rsc) (h7 : q.gbt = p.gbt) :
    q.statusBytes = p.statusBytes := by
  funext i
  cases i <;> simp only [Part.statusBytes, Part.channel, Part.bin, h1, h2, h3, h4, h5, h6, h7]

@[simp] theorem Part.statusBytes_commit (b p : Part) : (Part.commit b p).statusBytes = p.statusBytes :=
  Part.statusBytes_congr (by simp) (by simp) (by simp) (by simp) (by simp) (by simp) (by simp)

/-- Noting looks at the values that change, and drops nothing noted before. -/
theorem Part.noteChanges_changed (items : List StatusItem) (p q : Part) :
    (Part.noteChanges items p q).changed =
      q.changed ++ items.filter (fun i => p.statusBytes i != q.statusBytes i) := rfl

theorem Part.asOneChange_changed (p q : Part) :
    (Part.asOneChange p q).changed =
      p.changed ++ StatusItem.all.filter (fun i => p.statusBytes i != q.statusBytes i) := rfl

/-- The STATUS queue after a command: the items noted at its changes, in their order, and any other that differs. -/
theorem Part.commit_status (b p : Part) :
    (Part.commit b p).sa.status =
      (p.changed.drop b.changed.length ++ Part.alteredItems b p).foldl requestItem p.sa.status := by
  have h : p.fetchPost.settlePermit.statusBytes = p.statusBytes :=
    Part.statusBytes_congr (by simp) (by simp) (by simp) (by simp) (by simp) (by simp) (by simp)
  simp only [Part.commit, Part.requestChanged_sa, Part.itemsDue, Part.alteredItems, h, Part.settlePermit_keeps,
    Part.fetchPost_keeps, p.fetchPost_frame.2.2.2.1]

/-- A command that changes none of the mirrored blocks and notes nothing files no status write. -/
theorem Part.commit_status_same {p q : Part} (h : q.statusBytes = p.statusBytes) (k : q.changed = p.changed) :
    (Part.commit p q).sa.status = q.sa.status := by
  have e : Part.alteredItems p q = [] := List.filter_eq_nil_iff.mpr (fun i _ => by simp [h])
  rw [Part.commit_status, k, e]
  simp

/-! ## PERMIT (R14) -/

theorem Part.settlePermit_permit (p : Part) : p.settlePermit.dt.permit = p.permitConditions := by
  unfold Part.settlePermit Part.raisePermit Part.dropPermit
  cases h : p.permitConditions <;> cases k : p.dt.permit <;> simp [k]
  split <;> simp

/-- The conditions of PERMIT read the engine state, the items and the staging queue alone. -/
theorem Part.permitConditions_congr {p q : Part} (h1 : q.lsq = p.lsq) (h2 : q.dt.items = p.dt.items) (h3 : q.jw = p.jw) :
    q.permitConditions = p.permitConditions := by
  unfold Part.permitConditions
  rw [h1, h2, h3]

/-- After every command PERMIT is high exactly while its conditions hold. -/
theorem Part.commit_permit (b p : Part) :
    (Part.commit b p).dt.permit = (Part.commit b p).permitConditions := by
  rw [Part.permitConditions_congr (p := p) (by simp) (by simp) (by simp)]
  have h2 : p.fetchPost.permitConditions = p.permitConditions :=
    Part.permitConditions_congr (by simp) (by simp) (by simp)
  simp only [Part.commit, Part.requestChanged_dt, Part.settlePermit_permit, h2]

/-! ## Ends of requests (R157) -/

/-- A request that a command ends, having changed neither the requests nor the queues before, has ended after it. -/
theorem Part.ended_endRequest {p q : Part} (b : Part) (r : Result) (h1 : q.rqx = p.rqx) (h2 : q.sa = p.sa) :
    Part.ended p (Part.commit b (q.endRequest r)) r := by
  have hf := Part.commit_follows b (q.endRequest r)
  cases hc : p.rqx.current with
  | none =>
    have hq : q.endRequest r = q := by simp [Part.endRequest, Part.endRequestAs, h1, hc]
    rw [hq] at hf ⊢
    simp [Part.ended, Part.filed, h1, hc, ← h2, hf]
  | some c =>
    have hc' : q.rqx.current = some c := by rw [h1, hc]
    have hq : (q.endRequest r).sa = { p.sa with request := p.sa.request ++ r.writes c.address c.notify .plain } := by
      simp [Part.endRequest, Part.endRequestAs, hc', h2]
    have hr : (q.endRequest r).rqx = { p.rqx with current := none } := by
      simp only [Part.endRequest, Part.endRequestAs, hc']
      rw [h1]
    rw [hq] at hf
    simp [Part.ended, Part.filed, hr, hc, hf]

/-- The end of a request changes the requests and the queues alone. -/
theorem Part.endRequest_keepsBut (p : Part) (r : Result) : Part.keepsBut [.requests, .queues] p (p.endRequest r) := by
  intro x hx
  cases x <;> simp_all [Region.same]

theorem Part.endRequest_status (p : Part) (r : Result) : (p.endRequest r).sa.status = p.sa.status := by
  unfold Part.endRequest Part.endRequestAs
  split <;> simp

theorem Part.endedAlone_commit (p : Part) (r : Result) :
    Part.endedAlone p (Part.commit p (p.endRequest r)) r := by
  have hc : (p.endRequest r).changed = p.changed := by simp
  refine ⟨Part.ended_endRequest p r rfl rfl, Part.keepsBut_commit ?_, ?_⟩
  · rw [← hc]
    exact Part.endRequest_keepsBut p r
  · rw [Part.commit_status_same (Part.statusBytes_congr (by simp) (by simp) (by simp) (by simp) (by simp) (by simp)
      (by simp)) hc]
    exact Part.endRequest_status p r

/-! ## Forms of answer -/

theorem State.onRequest_of_executes {s : State} {k : Nat} (f : Part → Part) (h : s.part.executes k) :
    s.onRequest k f = .next { s with part := Part.commit s.part (f s.part) } := by
  obtain ⟨c, h1, h2, h3⟩ := h
  simp [State.onRequest, State.onOccasion, State.onPart, Part.requestOfKind, h1, h2, h3]

theorem State.onOccasion_of {s : State} {b : Bool} (f : Part → Part) (h : b = true) :
    s.onOccasion b f = .next { s with part := Part.commit s.part (f s.part) } := by
  simp [State.onOccasion, State.onPart, h]

end Sys2Proof.Machine
end

