-- ==== Sys2Proof/Laws/Tables.lean ====
section
/-! SUPPORT. Reading a table after one of its entries is replaced: the four-fold tables, the plan slots, the bins, the
pulse records, the pockets, the channels. -/

/- The proofs of this file are elaborated one after the other, so that the package, compiled as one file, does
not ask for more threads at once than a machine of limited memory can give. -/
set_option Elab.async false

namespace Sys2Proof

variable {α β γ : Type}

@[simp] theorem Four.get_set_self (f : Four α) (m : Meter) (x : α) : (f.set m x).get m = x := by
  match m with
  | 0 | 1 | 2 | 3 => rfl

theorem Four.get_set_ne (f : Four α) {m n : Meter} (x : α) (h : n ≠ m) : (f.set m x).get n = f.get n := by
  match m, n with
  | 0, 1 | 0, 2 | 0, 3 | 1, 0 | 1, 2 | 1, 3 | 2, 0 | 2, 1 | 2, 3 | 3, 0 | 3, 1 | 3, 2 => rfl
  | 0, 0 | 1, 1 | 2, 2 | 3, 3 => exact absurd rfl h

@[simp] theorem Four.set_get_self (f : Four α) (m : Meter) : f.set m (f.get m) = f := by
  match m with
  | 0 | 1 | 2 | 3 => rfl

@[simp] theorem Four.set_set (f : Four α) (m : Meter) (x y : α) : (f.set m x).set m y = f.set m y := by
  match m with
  | 0 | 1 | 2 | 3 => rfl

@[simp] theorem Four.get_map (f : Four α) (g : α → β) (m : Meter) : (f.map g).get m = g (f.get m) := by
  match m with
  | 0 | 1 | 2 | 3 => rfl

@[simp] theorem Four.get_zipWith (g : α → β → γ) (f : Four α) (h : Four β) (m : Meter) :
    (Four.zipWith g f h).get m = g (f.get m) (h.get m) := by
  match m with
  | 0 | 1 | 2 | 3 => rfl

theorem Four.ext_get {f g : Four α} (h : ∀ m, f.get m = g.get m) : f = g := by
  cases f; cases g
  have h0 := h 0; have h1 := h 1; have h2 := h 2; have h3 := h 3
  simp_all [Four.get]

namespace Machine

@[simp] theorem Four.get_const (x : α) (m : Meter) : (Four.const x).get m = x := by
  match m with
  | 0 | 1 | 2 | 3 => rfl

@[simp] theorem Ps.slot_setSlot_self (ps : Ps) (s : SlotId) (x : PlanSlot) : (ps.setSlot s x).slot s = x := by
  cases s <;> rfl

theorem Ps.slot_setSlot_ne (ps : Ps) {s y : SlotId} (x : PlanSlot) (h : y ≠ s) :
    (ps.setSlot s x).slot y = ps.slot y := by
  cases s <;> cases y <;> first | rfl | exact absurd rfl h

@[simp] theorem Part.channel_setChannel_self (p : Part) (m : Meter) (c : Channel) : (p.setChannel m c).channel m = c :=
  Four.get_set_self _ _ _

theorem Part.channel_setChannel_ne (p : Part) {m n : Meter} (c : Channel) (h : n ≠ m) :
    (p.setChannel m c).channel n = p.channel n := Four.get_set_ne _ _ h

/-- Reading a list with a default after one place is replaced. -/
theorem getD_set {l : List α} {n m : Nat} {x d : α} :
    (l.set n x).getD m d = if m = n ∧ n < l.length then x else l.getD m d := by
  by_cases h : m = n
  · subst h
    by_cases k : m < l.length <;> simp [List.getD, k]
  · simp [List.getD, h, List.getElem?_set_ne (Ne.symm h)]

theorem Part.bin_setBin (p : Part) (n m : Nat) (b : BinEntry) :
    (p.setBin n b).bin m = if m = n ∧ n < p.gbt.bins.length then b else p.bin m := getD_set

theorem Part.pulse_setPulse (p : Part) (n m : Nat) (x : Pulse) :
    (p.setPulse n x).pulse m = if m = n ∧ n < p.gbt.pulses.length then x else p.pulse m := getD_set

theorem Part.pocket_setPocket (p : Part) (n m : Nat) (x : Pocket) :
    (p.setPocket n x).pocket m = if m = n ∧ n < p.dt.pockets.length then x else p.pocket m := getD_set

/-- A pocket that is not VACANT has a record in the table. -/
theorem Part.pocket_lt {p : Part} {k : Nat} (h : p.pocket k ≠ .vacant) : k < p.dt.pockets.length := by
  refine Nat.lt_of_not_le (fun hk => ?_)
  exact h (by simp [Part.pocket, List.getD, hk])

end Machine

end Sys2Proof
end

