-- ==== Sys2Proof/Laws/Claims.lean ====
section
/-! SUPPORT. What entering an engine state does, and what routing pockets to CATCH does. -/

/- The proofs of this file are elaborated one after the other, so that the package, compiled as one file, does
not ask for more threads at once than a machine of limited memory can give. -/
set_option Elab.async false

namespace Sys2Proof.Machine

theorem Part.enterEngine_lsq (p : Part) (e) : (p.enterEngine e).lsq = { p.lsq with engine := e, portLatch := p.lsq.latchOn e } := by
  unfold Part.enterEngine Lsq.latchOn
  dsimp only
  cases hp : p.lsq.presets <;> cases e <;> simp <;> (repeat' split) <;> simp [Part.startStarvation] <;> (repeat' split) <;> simp
theorem Part.enterEngine_timers (p : Part) (e) : (p.enterEngine e).lct.timers = { p.lct.timers with starvation := p.starvationOn e } := by
  unfold Part.enterEngine Part.starvationOn
  dsimp only
  by_cases h1 : e = .run
  · subst h1
    by_cases h2 : p.lsq.engine = .run
    · simp [h2]
    · simp [h2, Ne.symm h2, Part.startStarvation]
      (repeat' split) <;> simp_all [Timer.start]
  · by_cases h2 : p.lsq.engine = .run
    · simp [h1, h2]
    · simp [h1, h2]
/-- Routing a set of pockets to CATCH (R8): each takes its new record, the bins release theirs, and the count rises by
the number of pockets routed. -/
theorem catchFold_spec (reason : Reason) (ks : List Nat) (hn : ks.Nodup) (a : Part × Nat) :
    let r := ks.foldl (catchPocket reason) a
    (∀ k, r.1.pocket k = if k ∈ ks then (a.1.pocket k).toCatch reason else a.1.pocket k) ∧
    (∀ n, r.1.bin n = { a.1.bin n with pending := (a.1.bin n).pending - (ks.filter (fun k => (a.1.pocket k).routedTo n)).length }) ∧
    r.2 = a.2 + (ks.filter (fun k => (a.1.pocket k).catchable)).length ∧ r.1.gbt.pulses = a.1.gbt.pulses ∧ r.1.gbt.items = a.1.gbt.items := by
  induction ks generalizing a with
  | nil => simp
  | cons k rest ih =>
    simp only [List.nodup_cons] at hn
    have h := ih hn.2 (catchPocket reason a k)
    dsimp only at h ⊢
    rw [List.foldl_cons]
    obtain ⟨h1, h2, h3, h4, h5⟩ := h
    have hstep : (∀ j, (catchPocket reason a k).1.pocket j = if j = k then (a.1.pocket k).toCatch reason else a.1.pocket j) ∧
       (∀ n, (catchPocket reason a k).1.bin n = { a.1.bin n with pending := (a.1.bin n).pending - (if (a.1.pocket k).routedTo n then 1 else 0)}) ∧
       (catchPocket reason a k).2 = a.2 + (if (a.1.pocket k).catchable then 1 else 0) ∧ (catchPocket reason a k).1.gbt.pulses = a.1.gbt.pulses ∧ (catchPocket reason a k).1.gbt.items = a.1.gbt.items := by
      unfold catchPocket
      cases hk : a.1.pocket k with
      | vacant => simp [Pocket.toCatch, Pocket.catchable, Pocket.routedTo]; exact hk
      | reserved s => simp [Pocket.toCatch, Pocket.catchable, Pocket.routedTo]; exact hk
      | stray => simp [Pocket.toCatch, Pocket.catchable, Pocket.routedTo]; exact hk
      | spent => simp [Pocket.toCatch, Pocket.catchable, Pocket.routedTo]; exact hk
      | carry x =>
        have hl := Part.pocket_lt (p := a.1) (k := k) (by simp [hk])
        simp [Pocket.toCatch, Pocket.catchable, Pocket.routedTo, Part.pocket_setPocket, hl]
        intro n; rfl
      | routed x r =>
        have hl := Part.pocket_lt (p := a.1) (k := k) (by simp [hk])
        cases hr : r.route with
        | toCatch => simp [Pocket.toCatch, Pocket.catchable, Pocket.routedTo, hr]; exact hk
        | gate n =>
          have hd : (a.1.releasePending n).dt = a.1.dt := rfl
          simp only [hr]
          refine ⟨fun j => ?_, fun m => ?_, ?_, rfl, rfl⟩
          · rw [Part.pocket_setPocket, hd]
            simp [hl, Pocket.toCatch, hr, Part.pocket]
          · show (a.1.releasePending n).bin m = _
            unfold Part.releasePending
            rw [Part.bin_setBin]
            by_cases hm : n = m
            · subst hm
              by_cases hlen : n < a.1.gbt.bins.length
              · simp [hlen, Pocket.routedTo, hr]
              · simp [hlen, Part.bin, List.getD, BinEntry.reset]
            · simp [hm, Ne.symm hm, Pocket.routedTo, hr]
          · simp [Pocket.catchable, hr]
    obtain ⟨s1, s2, s3, s4, s5⟩ := hstep
    have hf : ∀ f : Pocket → Bool, rest.filter (fun j => f ((catchPocket reason a k).1.pocket j)) = rest.filter (fun j => f (a.1.pocket j)) := by
      intro f
      apply List.filter_congr
      intro j hj
      rw [s1, if_neg (by rintro rfl; exact hn.1 hj)]
    refine ⟨?_, ?_, ?_, by rw [h4, s4], by rw [h5, s5]⟩
    · intro j
      rw [h1, s1]
      by_cases hj : j = k
      · subst hj; simp [hn.1]
      · simp [hj]
    · intro n
      rw [h2, s2, hf (fun x => x.routedTo n)]
      simp only [List.filter_cons]
      congr 1
      by_cases hr : (a.1.pocket k).routedTo n <;> simp [hr]; omega
    · rw [h3, s3, hf Pocket.catchable]
      simp only [List.filter_cons]
      by_cases hr : (a.1.pocket k).catchable <;> simp [hr]; omega

end Sys2Proof.Machine
end

