-- ==== Sys2Proof/Laws/HostPort.lean ====
section
/-! SUPPORT. The host side of the Host Port: what the translation reads, what accepting a cycle and granting a request
change. -/

/- The proofs of this file are elaborated one after the other, so that the package, compiled as one file, does
not ask for more threads at once than a machine of limited memory can give. -/
set_option Elab.async false

namespace Sys2Proof.Machine

/-- The translation reads the apertures alone. -/
@[simp] theorem HostPort.translate_mk (h : HostPort) (b : List PostedWrite) (c : HostCycle) (d : Bool)
    (n : Nat) (w : HostWord) (a : HostWord) :
    HostPort.translate { aperture1 := h.aperture1, aperture2 := h.aperture2, aperture3 := h.aperture3, buffer := b,
                         cycle := c, draining := d, promotion := n, data := w } a = h.translate a := rfl

/-- Accepting a write keeps the buffer within 4 writes. -/
theorem HostPort.acceptWrite_bounds {h : HostPort} (k : h.buffer.length ≤ 4) (w : Bool) :
    (h.acceptWrite w).buffer.length ≤ 4 ∧ (h.acceptWrite w).promotion = h.promotion := by
  unfold HostPort.acceptWrite
  split
  · split
    · next hb => split <;> simp <;> omega
    · exact ⟨k, rfl⟩
  all_goals exact ⟨k, rfl⟩

theorem HostPort.partGranted_bounds {h : HostPort} (k : h.promotion ≤ 8) :
    h.partGranted.promotion ≤ 8 ∧ h.partGranted.buffer = h.buffer := by
  unfold HostPort.partGranted
  split
  · refine ⟨?_, rfl⟩
    dsimp only
    split <;> omega
  · exact ⟨k, rfl⟩

end Sys2Proof.Machine
end

