-- ==== Sys2Proof/Laws/LotMode.lean ====
section
/-! SUPPORT. The lot mode goes with the engine state (R130): each operation that moves either keeps them together, and
what `enterEngine` does to the LSQ. -/

/- The proofs of this file are elaborated one after the other, so that the package, compiled as one file, does
not ask for more threads at once than a machine of limited memory can give. -/
set_option Elab.async false

namespace Sys2Proof.Machine

/-- What an entry of the engine changes in the LSQ. -/
theorem Part.enterEngine_lots (p : Part) (e : EngineState) :
    (p.enterEngine e).lsq.engine = e ∧ (p.enterEngine e).lsq.lotMode = p.lsq.lotMode ∧
      (p.enterEngine e).lsq.holds = p.lsq.holds ∧ (p.enterEngine e).lsq.haltCause = p.lsq.haltCause ∧
      (p.enterEngine e).lsq.lot = p.lsq.lot ∧ (p.enterEngine e).lsq.parked = p.lsq.parked ∧
      (p.enterEngine e).lsq.completion = p.lsq.completion ∧ (p.enterEngine e).lsq.presets = p.lsq.presets ∧
      (p.enterEngine e).lsq.startLot = p.lsq.startLot := by
  unfold Part.enterEngine
  dsimp only
  (repeat' split) <;> simp

/-- What a hold cause that joins changes in the LSQ. -/
theorem Part.addHoldCause_lots (p : Part) (c : HoldCause) :
    (p.addHoldCause c).lsq = { p.lsq with holds := p.lsq.holds.insert c } := by
  unfold Part.addHoldCause
  split
  · next h => cases c <;> simp_all [HoldCauses.has, HoldCauses.insert] <;> rw [← h]
  · simp

theorem Part.joinIfPresent_lots (p : Part) (c : HoldCause) :
    (p.joinIfPresent c).lsq =
      { p.lsq with holds := if p.holdCondition c then p.lsq.holds.insert c else p.lsq.holds } := by
  unfold Part.joinIfPresent
  split <;> simp_all [Part.addHoldCause_lots]

theorem Lsq.modeOk_of {l k : Lsq} (h : l.modeOk) (h1 : k.engine = l.engine) (h2 : k.lotMode = l.lotMode) : k.modeOk := by
  unfold Lsq.modeOk at *
  rw [h1, h2]
  exact h

variable {p : Part}

theorem Part.enterHold_modeOk (h : p.lsq.lotMode ≠ .none) : p.enterHold.lsq.modeOk := by
  simp only [Part.enterHold, Part.event_keeps, Lsq.modeOk, Part.enterEngine_lots]
  exact h

theorem Part.raiseHold_modeOk (c : HoldCause) (k : p.lsq.modeOk) : (p.raiseHold c).lsq.modeOk := by
  unfold Part.raiseHold Part.settleHold
  split
  · split
    · next hw =>
      apply Part.enterHold_modeOk
      rw [Part.addHoldCause_lots] at hw ⊢
      unfold Lsq.modeOk at k
      cases e : p.lsq.engine <;> simp_all [EngineState.working]
    · exact Lsq.modeOk_of k (by rw [Part.addHoldCause_lots]) (by rw [Part.addHoldCause_lots])
  · exact k

theorem Part.raiseHalt_modeOk (c : HaltCause) (k : p.lsq.modeOk) : (p.raiseHalt c).lsq.modeOk := by
  unfold Part.raiseHalt
  dsimp only
  split
  · next hw =>
    simp only [Part.event_keeps, Part.latch_keeps, Part.asOneChange_lsq, Part.setLsq_lsq, Lsq.modeOk,
      Part.enterEngine_lots]
    unfold Lsq.modeOk at k
    rcases hw with h | h | h <;> simp_all
  · exact k

theorem Part.tellChannelState_modeOk (k : p.lsq.modeOk) : p.tellChannelState.lsq.modeOk := by
  unfold Part.tellChannelState
  split
  · exact Part.raiseHold_modeOk _ k
  · exact k

theorem Part.suspect_modeOk (m : Meter) (k : p.lsq.modeOk) : (p.suspect m).lsq.modeOk := by
  unfold Part.suspect
  dsimp only
  apply Part.tellChannelState_modeOk
  split <;> simpa using k

theorem Part.referenceResult_modeOk (m : Meter) (s : ReadingStatus) (d : Option Int) (k : p.lsq.modeOk) :
    (p.referenceResult m s d).lsq.modeOk := by
  unfold Part.referenceResult
  dsimp only
  split
  · exact k
  · split
    · simpa using k
    · simp only [Part.latch_keeps, Part.handOff_keeps, Part.coverJudged_keeps]
      exact Part.suspect_modeOk m (by simpa using k)
    · simpa using k

theorem Part.foldl_modeOk {α : Type} (g : Part → α → Part) (h : ∀ p a, p.lsq.modeOk → (g p a).lsq.modeOk) (l : List α)
    (k : p.lsq.modeOk) : (l.foldl g p).lsq.modeOk := by
  induction l generalizing p with
  | nil => exact k
  | cons a r ih => exact ih (h _ _ k)

theorem Part.faultTag_modeOk (m : Meter) (t : Tag) (k : p.lsq.modeOk) : (p.faultTag m t).lsq.modeOk := by
  unfold Part.faultTag
  split
  · simpa using k
  · exact Part.referenceResult_modeOk _ _ _ k

theorem Part.faultWork_modeOk (m : Meter) (k : p.lsq.modeOk) : (p.faultWork m).lsq.modeOk := by
  simp only [Part.faultWork, Part.completeItem_keeps, Part.withdrawFaulted_keeps]
  exact Part.foldl_modeOk _ (fun q t h => Part.faultTag_modeOk m t h) _ (by simpa using k)

theorem Part.failChannel_modeOk (m : Meter) (c : ChannelCause) (k : p.lsq.modeOk) :
    (p.failChannel m c).lsq.modeOk := by
  unfold Part.failChannel
  apply Part.tellChannelState_modeOk
  simp only [Part.latch_keeps, Part.event_keeps]
  exact Part.faultWork_modeOk m (by simpa using k)

theorem Part.giveSetupOutcome_modeOk (m : Meter) (a : SetupAsker) (o : ChannelCause) (k : p.lsq.modeOk) :
    (p.giveSetupOutcome m a o).lsq.modeOk := by
  unfold Part.giveSetupOutcome
  (repeat' split) <;> first | exact k | (simp; exact k)

theorem Part.endSetup_modeOk (m : Meter) (o : ChannelCause) (k : p.lsq.modeOk) : (p.endSetup m o).lsq.modeOk := by
  unfold Part.endSetup
  split
  · exact k
  · simp only [Part.beginNextTransfer_keeps]
    apply Part.giveSetupOutcome_modeOk
    apply Part.tellChannelState_modeOk
    split <;> simpa using k

theorem Part.enterSetup_modeOk (m : Meter) (a : SetupAsker) (b : Bool) (k : p.lsq.modeOk) :
    (p.enterSetup m a b).lsq.modeOk := by
  unfold Part.enterSetup
  dsimp only
  split
  · apply Part.endSetup_modeOk
    apply Part.tellChannelState_modeOk
    apply Part.faultWork_modeOk
    simpa using k
  · simp only [Part.beginNextTransfer_keeps, Part.setChannel_lsq]
    apply Part.tellChannelState_modeOk
    apply Part.faultWork_modeOk
    simpa using k

theorem Part.faultByState_modeOk (m : Meter) (c : ChannelCause) (k : p.lsq.modeOk) :
    (p.faultByState m c).lsq.modeOk := by
  unfold Part.faultByState
  split
  · exact Part.endSetup_modeOk _ _ k
  · exact Part.failChannel_modeOk _ _ k
  · exact Part.failChannel_modeOk _ _ k
  · exact k
  · exact k

theorem Part.acceptReport_modeOk (m : Meter) (t : Tag) (s : ReadingStatus) (d : Option Int) (k : p.lsq.modeOk) :
    (p.acceptReport m t s d).lsq.modeOk := by
  unfold Part.acceptReport
  dsimp only
  split
  · simpa using k
  · exact Part.referenceResult_modeOk _ _ _ (by simpa using k)

theorem Part.reportEnded_modeOk (m : Meter) (f : List Byte) (b : Bool) (k : p.lsq.modeOk) :
    (p.reportEnded m f b).lsq.modeOk := by
  unfold Part.reportEnded
  simp only [Part.beginNextTransfer_keeps]
  have k' : (p.setChannel m { p.channel m with link := .idle }).lsq.modeOk := by simpa using k
  (repeat' split) <;> first
    | exact k' | exact Part.endSetup_modeOk _ _ k' | exact Part.failChannel_modeOk _ _ k'
    | exact Part.acceptReport_modeOk _ _ _ _ k'

theorem Part.acqRises_modeOk (m : Meter) (k : p.lsq.modeOk) : (p.acqRises m).lsq.modeOk := by
  unfold Part.acqRises
  dsimp only
  have k' : (p.setChannel m { p.channel m with acq := true }).lsq.modeOk := by simpa using k
  (repeat' split) <;> first
    | exact k' | exact Part.endSetup_modeOk _ _ k' | exact Part.failChannel_modeOk _ _ k'

theorem Part.index_modeOk (k : p.lsq.modeOk) : p.index.lsq.modeOk := by
  unfold Part.index
  dsimp only
  split
  · exact k
  · next g _ =>
    have k' : ((p.turnDial g).openDwell g).lsq.modeOk := by simpa using k
    (repeat' split) <;> first | exact k | exact k' | exact Part.raiseHalt_modeOk _ k' | simpa using k'

theorem Part.handLine_modeOk (l : LineId) (b : Bool) (k : p.lsq.modeOk) : (p.handLine l b).lsq.modeOk := by
  unfold Part.handLine
  (repeat' split) <;> first
    | exact k | exact Part.index_modeOk k | exact Part.raiseHold_modeOk _ k | simpa using k

theorem Part.changeStable_modeOk (l : LineId) (k : p.lsq.modeOk) : (p.changeStable l).lsq.modeOk :=
  Part.handLine_modeOk _ _ (by simpa using k)

theorem Part.pinChanged_modeOk (l : LineId) (b : Bool) (k : p.lsq.modeOk) : (p.pinChanged l b).lsq.modeOk := by
  unfold Part.pinChanged
  dsimp only
  have k' : (p.setLine l { p.lct.lines.get l with pin := b }).lsq.modeOk := by simpa using k
  (repeat' split) <;> first | exact k' | exact Part.changeStable_modeOk _ k'

theorem Part.beginSetups_modeOk (w : StartLotWork) (r : Option (Nat × LotCounters)) (f : Four Bool)
    (k : p.lsq.modeOk) : (p.beginSetups w r f).lsq.modeOk := by
  unfold Part.beginSetups
  apply Part.foldl_modeOk
  · intro q m h
    unfold Part.setupUnderLot
    split
    · exact Part.enterSetup_modeOk _ _ _ (by simpa using h)
    · exact h
  · exact Lsq.modeOk_of k rfl rfl

theorem Part.startLot_modeOk (f : Four Bool) (k : p.lsq.modeOk) : (p.startLot f).lsq.modeOk := by
  unfold Part.startLot
  dsimp only
  split
  · simpa using k
  · split
    · exact Part.beginSetups_modeOk _ _ _ (by simpa using k)
    · exact Lsq.modeOk_of k (by simp) (by simp)

theorem Part.enterOpenLot_modeOk (h : p.lsq.lotMode = .run) : p.enterOpenLot.lsq.modeOk := by
  unfold Part.enterOpenLot
  split
  · simp only [Lsq.modeOk, Part.enterEngine_lots, h]
  · exact Part.enterHold_modeOk (by simp [h])

theorem Part.combineSetups_modeOk (w : StartLotWork) (r : Option (Nat × LotCounters))
    (o : Four (Option ChannelCause)) (k : p.lsq.modeOk) : (p.combineSetups w r o).lsq.modeOk := by
  unfold Part.combineSetups
  split
  · simp only [Part.endRequest_keeps, Part.openLot, Part.handOff_keeps]
    apply Part.enterOpenLot_modeOk
    simp only [Part.joinIfPresent_lots]
  · simp only [Part.endRequest_keeps]
    exact Lsq.modeOk_of k rfl rfl

theorem Part.drain_modeOk (k : p.lsq.modeOk) (h : p.lsq.engine.inLot = true) : p.drain.lsq.modeOk := by
  unfold Part.drain
  dsimp only
  split
  · simp only [Part.asOneChange_lsq, Part.setLsq_lsq, Lsq.modeOk, Part.enterEngine_lots]
  · unfold Lsq.modeOk at k ⊢
    cases e : p.lsq.engine <;> simp_all [EngineState.inLot]

theorem Part.endLot_modeOk (k : p.lsq.modeOk) : p.endLot.lsq.modeOk := by
  unfold Part.endLot
  dsimp only
  split
  · simpa using k
  · next h =>
    split
    · simpa using k
    · apply Part.drain_modeOk
      · exact Lsq.modeOk_of k (by simp) (by simp)
      · cases e : p.lsq.engine <;> simp_all [EngineState.inLot]

theorem Part.abortLot_modeOk (k : p.lsq.modeOk) : p.abortLot.lsq.modeOk := by
  unfold Part.abortLot
  split
  · simpa using k
  · next h =>
    split
    · simpa using k
    · simp only [Part.proceedLoad_keeps, Part.event_keeps]
      apply Part.drain_modeOk
      · exact Lsq.modeOk_of k (by simp) (by simp)
      · simpa using h

theorem Part.lotClose_modeOk (p : Part) : p.lotClose.lsq.modeOk := by
  unfold Part.lotClose
  simp [Lsq.modeOk, Part.enterEngine_lots]

theorem Part.enterLotMode_modeOk (k : p.lsq.modeOk) : p.enterLotMode.lsq.modeOk := by
  unfold Part.enterLotMode
  split
  · exact k
  · next h => simp only [Part.startDeferred_keeps, Lsq.modeOk, Part.enterEngine_lots, h]
  · next h => simp only [Part.startDeferred_keeps, Lsq.modeOk, Part.enterEngine_lots, h]

theorem Part.resume_modeOk (k : p.lsq.modeOk) : p.resume.lsq.modeOk := by
  unfold Part.resume
  split
  · simpa using k
  · simp only [Part.endRequest_keeps, Part.event_keeps]
    split
    · exact Part.enterLotMode_modeOk (Lsq.modeOk_of k rfl rfl)
    · exact Lsq.modeOk_of k rfl rfl

theorem Part.clearHalt_modeOk (k : p.lsq.modeOk) : p.clearHalt.lsq.modeOk := by
  unfold Part.clearHalt
  split
  · simpa using k
  · next h =>
    have h' : p.lsq.engine = .halt := by simpa using h
    unfold Lsq.modeOk at k
    rw [h'] at k
    simp only [Part.endRequest_keeps, Part.event_keeps, Lsq.modeOk, Part.enterEngine_lots, Part.addHoldCause_lots]
    split <;> simpa using k

theorem Part.holdRequest_modeOk (k : p.lsq.modeOk) : p.holdRequest.lsq.modeOk := by
  unfold Part.holdRequest
  split
  · simp only [Part.endRequest_keeps]
    exact Part.raiseHold_modeOk _ k
  · simpa using k

theorem Part.meterRestart_modeOk (b : Bool) (k : p.lsq.modeOk) : (p.meterRestart b).lsq.modeOk := by
  unfold Part.meterRestart
  dsimp only
  (repeat' split) <;> first | (simp; exact k) | exact Part.enterSetup_modeOk _ _ _ (by simpa using k)

theorem Part.portWrite_modeOk (k : p.lsq.modeOk) : p.portWrite.lsq.modeOk := by
  unfold Part.portWrite
  dsimp only
  (repeat' split) <;> (simp; exact k)

theorem Part.endCompletion_modeOk (c : CloseCompletion) (k : p.lsq.modeOk) : (p.endCompletion c).lsq.modeOk := by
  unfold Part.endCompletion
  split <;> exact Lsq.modeOk_of k (by simp) (by simp)

theorem Part.contextRead_modeOk (w : StartLotWork) (d : List Byte) (f : Four Bool) (k : p.lsq.modeOk) :
    (p.contextRead w d f).lsq.modeOk := by
  unfold Part.contextRead
  split
  · exact Part.beginSetups_modeOk _ _ _ k
  · simp only [Part.endRequest_keeps]
    exact Lsq.modeOk_of k rfl rfl

theorem Part.configureRead_modeOk (b : List Byte) (k : p.lsq.modeOk) : (p.configureRead b).lsq.modeOk := by
  unfold Part.configureRead
  split
  · simpa using k
  · next h =>
    have hm : p.lsq.lotMode = .none := by
      unfold Lsq.modeOk at k
      cases e : p.lsq.engine <;> simp_all [EngineState.inLot]
    split
    · simp [Part.configurePass, Lsq.modeOk, Part.enterEngine_lots, Part.configureBlocks, hm]
    · simp [Part.configureFail, Lsq.modeOk, Part.enterEngine_lots, hm]

theorem Part.writeGranted_modeOk (e : WriteEffect) (k : p.lsq.modeOk) : (p.writeGranted e).lsq.modeOk := by
  unfold Part.writeGranted
  (repeat' split) <;> first | exact k | (simp; exact k) | exact Lsq.modeOk_of k rfl rfl | skip
  unfold Part.published
  (repeat' split) <;> first | exact k | skip
  simp only [Part.settleLevel_keeps, Part.ageAtPublish_keeps, Part.checkBacklog_keeps]
  unfold Part.notePublished
  (repeat' split) <;> exact Lsq.modeOk_of k (by simp) (by simp)

theorem Part.readGranted_modeOk (o : ReadOwner) (l : List Byte) (k : p.lsq.modeOk) :
    (p.readGranted o l).lsq.modeOk := by
  unfold Part.readGranted
  (repeat' split) <;> first | exact k | (simp; exact k)

/-- What raising a hold cause leaves of the Lot Sequencer. -/
theorem Part.raiseHold_lsq (p : Part) (c : HoldCause) : (p.raiseHold c).lsq = p.lsq.raised c := by
  have full : ∀ h : HoldCauses, (h.insert c).isEmpty = false := by
    intro h; cases c <;> simp [HoldCauses.insert, HoldCauses.isEmpty]
  unfold Part.raiseHold Lsq.raised Part.settleHold Part.enterHold
  rw [Part.addHoldCause_lots]
  cases h : p.lsq.engine <;>
    simp [EngineState.inLot, EngineState.working, h, full, Part.addHoldCause_lots, Part.enterEngine_lsq, Lsq.latchOn]

end Sys2Proof.Machine
end

