-- ==== Sys2Proof/Laws/Memory.lean ====
section
/-! SUPPORT. The store: reading after writing, and the canonical form that every operation keeps. -/

/- The proofs of this file are elaborated one after the other, so that the package, compiled as one file, does
not ask for more threads at once than a machine of limited memory can give. -/
set_option Elab.async false

namespace Sys2Proof.Machine

theorem Memory.above_of_lt {a b : Nat} (h : a < b) {m : List Host.Cell} (k : Memory.above b m = true) :
    Memory.above a m = true := by
  induction m with
  | nil => rfl
  | cons c rest ih =>
    simp only [Memory.above, Bool.and_eq_true, decide_eq_true_eq] at k ⊢
    exact ⟨by omega, ih k.2⟩

theorem Memory.lookup_of_above {a b : Nat} {m : List Host.Cell} (h : Memory.above a m = true) (k : b ≤ a) :
    Memory.lookup m b = Config.storePowerOn := by
  induction m with
  | nil => rfl
  | cons c rest ih =>
    simp only [Memory.above, Bool.and_eq_true, decide_eq_true_eq] at h
    have hne : c.1 ≠ b := by omega
    simp [Memory.lookup, hne, ih h.2]

/-- A byte at another key is as it was; no condition on the listing. -/
theorem Memory.lookup_insert_ne (m : List Host.Cell) {a b : Nat} (v : Byte) (h : b ≠ a) :
    Memory.lookup (Memory.insert m a v) b = Memory.lookup m b := by
  induction m with
  | nil =>
    unfold Memory.insert
    split
    · rfl
    · simp [Memory.lookup, Ne.symm h]
  | cons c rest ih =>
    obtain ⟨k, w⟩ := c
    simp only [Memory.insert]
    by_cases h1 : a < k
    · rw [if_pos h1]
      split
      · rfl
      · simp [Memory.lookup, Ne.symm h]
    · rw [if_neg h1]
      by_cases h2 : a = k
      · subst h2
        rw [if_pos rfl]
        split <;> simp [Memory.lookup, Ne.symm h]
      · rw [if_neg h2]
        simp [Memory.lookup, ih]

/-- The byte written reads back, in a canonical listing. -/
theorem Memory.lookup_insert_eq {m : List Host.Cell} (hm : Memory.wf m = true) (a : Nat) (v : Byte) :
    Memory.lookup (Memory.insert m a v) a = v := by
  induction m with
  | nil =>
    unfold Memory.insert
    split
    · next h => rw [h]; rfl
    · simp [Memory.lookup]
  | cons c rest ih =>
    obtain ⟨k, w⟩ := c
    simp only [Memory.wf, Bool.and_eq_true] at hm
    simp only [Memory.insert]
    by_cases h1 : a < k
    · rw [if_pos h1]
      split
      · next hv =>
        have hne : k ≠ a := by omega
        rw [hv]
        simp only [Memory.lookup, if_neg hne]
        exact Memory.lookup_of_above hm.1.2 (by omega)
      · simp [Memory.lookup]
    · rw [if_neg h1]
      by_cases h2 : a = k
      · subst h2
        rw [if_pos rfl]
        split
        · next hv => rw [hv]; exact Memory.lookup_of_above hm.1.2 (le_refl a)
        · simp [Memory.lookup]
      · rw [if_neg h2]
        simp [Memory.lookup, Ne.symm h2, ih hm.2]

theorem Memory.above_insert {m : List Host.Cell} {a b : Nat} (v : Byte) (h : Memory.above b m = true) (k : b < a) :
    Memory.above b (Memory.insert m a v) = true := by
  induction m with
  | nil =>
    unfold Memory.insert
    split <;> simp [Memory.above, k]
  | cons c rest ih =>
    obtain ⟨x, w⟩ := c
    simp only [Memory.above, Bool.and_eq_true, decide_eq_true_eq] at h
    simp only [Memory.insert]
    (repeat' split) <;> simp_all [Memory.above]

/-- Writing keeps the canonical form. -/
theorem Memory.wf_insert {m : List Host.Cell} (hm : Memory.wf m = true) {a : Nat} (ha : a < storeBytes) (v : Byte) :
    Memory.wf (Memory.insert m a v) = true := by
  induction m with
  | nil =>
    unfold Memory.insert
    split
    · rfl
    · next h => simp [Memory.wf, Memory.above, ha, h]
  | cons c rest ih =>
    obtain ⟨k, w⟩ := c
    have hm' := hm
    simp only [Memory.wf, Bool.and_eq_true, decide_eq_true_eq, bne_iff_ne, ne_eq] at hm
    obtain ⟨⟨⟨h1, h2⟩, h3⟩, h4⟩ := hm
    simp only [Memory.insert]
    by_cases c1 : a < k
    · rw [if_pos c1]
      split
      · exact hm'
      · next hv =>
        have := Memory.above_of_lt c1 h3
        simp [Memory.wf, Memory.above, ha, hv, h1, h2, h3, h4, c1, this]
    · rw [if_neg c1]
      by_cases c2 : a = k
      · subst c2
        rw [if_pos rfl]
        split
        · exact h4
        · next hv => simp [Memory.wf, ha, hv, h3, h4]
      · rw [if_neg c2]
        have hk : k < a := by omega
        simp [Memory.wf, h1, h2, ih h4, Memory.above_insert v h3 hk]

theorem Memory.wf_write {m : List Host.Cell} (hm : Memory.wf m = true) (a : Nat) (v : Byte) :
    Memory.wf (Memory.write m a v) = true :=
  Memory.wf_insert hm (Nat.mod_lt _ (by decide)) v

theorem Memory.wf_writeAll (cells : List Host.Cell) {m : List Host.Cell} (hm : Memory.wf m = true) :
    Memory.wf (Memory.writeAll m cells) = true := by
  induction cells generalizing m with
  | nil => exact hm
  | cons c rest ih => exact ih (Memory.wf_write hm c.1 c.2)

/-- A write leaves every other byte of the store. -/
theorem Memory.read_write_ne (m : List Host.Cell) {a b : Nat} (v : Byte) (h : a % storeBytes ≠ b % storeBytes) :
    Memory.read (Memory.write m a v) b = Memory.read m b := Memory.lookup_insert_ne m v (Ne.symm h)

theorem Memory.read_write_eq {m : List Host.Cell} (hm : Memory.wf m = true) (a : Nat) (v : Byte) :
    Memory.read (Memory.write m a v) a = v := Memory.lookup_insert_eq hm _ v

/-- Writing a list of cells leaves every byte that none of them names. -/
theorem Memory.read_writeAll_ne (cells : List Host.Cell) (m : List Host.Cell) {b : Nat}
    (h : ∀ c ∈ cells, c.1 % storeBytes ≠ b % storeBytes) :
    Memory.read (Memory.writeAll m cells) b = Memory.read m b := by
  induction cells generalizing m with
  | nil => rfl
  | cons c rest ih =>
    have h1 := ih (Memory.write m c.1 c.2) (fun x hx => h x (List.mem_cons_of_mem _ hx))
    exact h1.trans (Memory.read_write_ne m c.2 (h c List.mem_cons_self))

/-- Writing cells at distinct addresses stores each of them. -/
theorem Memory.read_writeAll_mem (cells : List Host.Cell) {m : List Host.Cell} (hm : Memory.wf m = true)
    (hd : cells.Pairwise (fun x y => x.1 % storeBytes ≠ y.1 % storeBytes)) :
    ∀ c ∈ cells, Memory.read (Memory.writeAll m cells) c.1 = c.2 := by
  induction cells generalizing m with
  | nil => simp
  | cons c rest ih =>
    intro x hx
    rw [List.pairwise_cons] at hd
    have hw : Memory.writeAll m (c :: rest) = Memory.writeAll (Memory.write m c.1 c.2) rest := rfl
    rw [hw]
    rcases List.mem_cons.mp hx with rfl | hx
    · rw [Memory.read_writeAll_ne rest _ (fun y hy => (hd.1 y hy).symm)]
      exact Memory.read_write_eq hm _ _
    · exact ih (Memory.wf_write hm _ _) hd.2 x hx

theorem cellsAt_mem {a : Nat} {bs : List Byte} {c : Host.Cell} (h : c ∈ cellsAt a bs) :
    a ≤ c.1 ∧ c.1 < a + bs.length := by
  induction bs generalizing a with
  | nil => simp [cellsAt] at h
  | cons b rest ih =>
    rcases List.mem_cons.mp h with rfl | h
    · simp
    · have := ih h
      simp only [List.length_cons]
      omega

/-- Bytes laid from one address upward within the store stand at distinct addresses. -/
theorem cellsAt_pairwise {a : Nat} {bs : List Byte} (h : a + bs.length ≤ storeBytes) :
    (cellsAt a bs).Pairwise (fun x y => x.1 % storeBytes ≠ y.1 % storeBytes) := by
  induction bs generalizing a with
  | nil => exact List.Pairwise.nil
  | cons b rest ih =>
    simp only [List.length_cons] at h
    refine List.Pairwise.cons ?_ (ih (by omega))
    intro y hy
    have hb := cellsAt_mem hy
    have h1 : y.1 % storeBytes = y.1 := Nat.mod_eq_of_lt (by omega)
    have h2 : a % storeBytes = a := Nat.mod_eq_of_lt (by omega)
    rw [h1, h2]
    omega

theorem cellsAt_get {a i : Nat} {bs : List Byte} (h : i < bs.length) : (a + i, bs[i]) ∈ cellsAt a bs := by
  induction bs generalizing a i with
  | nil => simp at h
  | cons b rest ih =>
    cases i with
    | zero => simp [cellsAt]
    | succ j =>
      have hj : j < rest.length := by simpa using h
      have := ih (a := a + 1) hj
      simp only [cellsAt, List.getElem_cons_succ]
      refine List.mem_cons_of_mem _ ?_
      have e : a + (j + 1) = a + 1 + j := by omega
      rw [e]
      exact this

/-- Bytes laid in the store read back. -/
theorem Memory.readBytes_writeAll {m : List Host.Cell} (hm : Memory.wf m = true) {a : Nat} {bs : List Byte}
    (h : a + bs.length ≤ storeBytes) : Memory.readBytes (Memory.writeAll m (cellsAt a bs)) a bs.length = bs := by
  apply List.ext_getElem
  · simp [Memory.readBytes]
  · intro i h1 h2
    simp only [Memory.readBytes, List.getElem_map, List.getElem_range]
    exact Memory.read_writeAll_mem _ hm (cellsAt_pairwise h) _ (cellsAt_get h2)

end Sys2Proof.Machine
end

