-- ==== Sys2Proof/Laws/Meters.lean ====
section
/-! SUPPORT. What the shared operations of a meter channel and of its meter do, in the words of the statements: the link
after a transfer, the urgency of a count, and the naming of an owed meter. -/

namespace Sys2Proof.Machine

/-- Beginning the next transfer on an idle link is what the end of a transfer brings. -/
theorem Channel.nextTransfer_idle (c : Channel) : ({ c with link := .idle } : Channel).nextTransfer = c.linkEnded := by
  have off : (c.state == ChannelState.offline) = decide (c.state = .offline) := by cases c.state <;> rfl
  unfold Channel.nextTransfer Channel.linkEnded
  rw [if_pos rfl, ← off] <;>
    cases c.rememberedRdy <;> cases c.setupDue <;> cases c.setup <;> cases c.nominal <;> rfl

/-- A busy link keeps what it carries. -/
theorem Channel.nextTransfer_busy (c : Channel) (h : c.link ≠ .idle) : c.nextTransfer = c := by
  simp only [Channel.nextTransfer, if_neg h]

theorem urgencyOf_eq_urgencyAt (t : Thresholds) (n : Nat) : urgencyOf t n = t.urgencyAt n := rfl

theorem RefMeter.withCount_of_thresholds (r : RefMeter) (n : Nat) (t : Thresholds) (h : r.thresholds = some t) :
    r.withCount n = { r with count := n, urgency := t.urgencyAt n } := by
  simp only [RefMeter.withCount, h, urgencyOf_eq_urgencyAt]

/-- Naming an owed meter: its cover becomes PENDING and it joins the pending set exactly where R64's conditions hold. -/
theorem Part.nameOwed_eq (p : Part) (m : Meter) :
    p.nameOwed m =
      let r := p.rsc.get m
      if (p.channel m).owesReference r.urgency r.cover then
        { p.setRef m { r with cover := .pending } with lcu := { p.lcu with pendingSet := p.lcu.pendingSet.insert m } }
      else p := by
  have key : ((p.usedMeter m = true ∧ (p.rsc.get m).cover = .none ∧ (p.rsc.get m).urgency.isForced = true ∧
      (p.channel m).state = .online)) ↔
      (p.channel m).owesReference (p.rsc.get m).urgency (p.rsc.get m).cover = true := by
    simp only [Channel.owesReference, Part.usedMeter]
    cases (p.rsc.get m).urgency <;> cases (p.rsc.get m).cover <;> cases (p.channel m).state <;>
      simp [Urgency.isForced]
  simp only [Part.nameOwed, key]

end Sys2Proof.Machine
end

