-- ==== Sys2Proof/WellFormed.lean ====
section
/-! DEFINITION. Which commands the outside can send: the checks on operands that their types leave open. -/

namespace Sys2Proof

/-- R172: the write of `value` at the register address `address` has no effect: IDENT and SUMMARY are
read-only, and CONTROL ignores every value but 0x00C1 and 0x005A. Bit 0 of the address is ignored (R171). -/
def registerWriteIsIgnored (address value : HostWord) : Bool :=
  let word := address.toNat / 2
  word == 0 || word == 7 || (word == 1 && value != 0x00C1 && value != 0x005A)

/-- A command is well formed when its operands name what its row is about: a store cycle lies outside the
register region (R171), an ignored register write is one (R172), a REPORT has ten bytes (R195). -/
def Instr.wf : Instr → Bool
  | .registerWriteIgnored address value => registerWriteIsIgnored address value
  | .hostStoreWrite address _ => decide (16 ≤ address.toNat)
  | .hostStoreRead address => decide (16 ≤ address.toNat)
  | .report _ frame => frame.length == 10
  | .powerOnReset => true
  | .softReset => true
  | .softResetDrainEnd => true
  | .configure => true
  | .configureHeldTaken => true
  | .configureReadDone => true
  | .attnCauseWrite _ => true
  | .attnEnableWrite _ => true
  | .apertureWrite _ _ => true
  | .storeGrant => true
  | .journalRecordWrite => true
  | .requestSlotRead => true
  | .startLot _ => true
  | .contextReadDone _ => true
  | .startLotSetupsDone => true
  | .endLot => true
  | .abortLot => true
  | .stagePlan => true
  | .planStagingEnd => true
  | .switchPlan => true
  | .binControlClose => true
  | .binControlOpen => true
  | .binControlCapacity => true
  | .hold => true
  | .resume => true
  | .clearHalt => true
  | .meterRestart _ => true
  | .setThinning => true
  | .portWrite => true
  | .unknown => true
  | .lotClose => true
  | .closeCompletionEnd => true
  | .directLineChange _ _ => true
  | .debounceElapsed _ => true
  | .sensorScan _ => true
  | .acqRise _ => true
  | .acqFall _ => true
  | .rdyRise _ => true
  | .fltRise _ => true
  | .meterFrameSent _ => true
  | .pendingTakeSent _ => true
  | .jamTimerExpiry => true
  | .feedTimerExpiry => true
  | .catchTimerExpiry => true
  | .starvationTimerExpiry => true
  | .takeTimerExpiry _ => true
  | .pulseTimerExpiry _ => true
  | .ageTimerExpiry => true

end Sys2Proof
end

