-- ==== Sys2Proof/Laws/PerInstr.lean ====
section
/-! SUPPORT. The operand checks, one lemma per command: what the address and the frame of a well-formed command are. -/

/- The proofs of this file are elaborated one after the other, so that the package, compiled as one file, does
not ask for more threads at once than a machine of limited memory can give. -/
set_option Elab.async false

namespace Sys2Proof.Laws.OperandChecks

/-- The address of a store cycle. -/
def storeAddress : Instr → Option HostWord
  | .hostStoreWrite a _ => some a
  | .hostStoreRead a => some a
  | _ => none

/-- The address and the word of a register write that has no effect. -/
def ignoredWrite : Instr → Option (HostWord × HostWord)
  | .registerWriteIgnored a v => some (a, v)
  | _ => none

/-- The bytes clocked in by a REPORT transfer. -/
def frameOf : Instr → Option (List Byte)
  | .report _ f => some f
  | _ => none

/-- A command is well formed exactly when its store address, if it has one, lies at 0x0010 or above (R171), the register
write it stands for, if it is one, is ignored (R172), and its frame, if it has one, has ten bytes (R195). -/
def Statement (i : Instr) : Prop :=
  i.wf = true ↔
    (∀ a, storeAddress i = some a → 16 ≤ a.toNat) ∧
      (∀ a v, ignoredWrite i = some (a, v) → registerWriteIsIgnored a v = true) ∧
      ∀ f, frameOf i = some f → f.length = 10

/-- A command with neither an address nor a frame is always well formed. -/
theorem of_no_operand {i : Instr} (h : i.wf = true) (ha : storeAddress i = none) (hw : ignoredWrite i = none)
    (hf : frameOf i = none) : Statement i := by
  simp [Statement, h, ha, hw, hf]

theorem powerOnReset : Statement .powerOnReset :=
  of_no_operand rfl rfl rfl rfl

theorem softReset : Statement .softReset :=
  of_no_operand rfl rfl rfl rfl

theorem softResetDrainEnd : Statement .softResetDrainEnd :=
  of_no_operand rfl rfl rfl rfl

theorem configure : Statement .configure :=
  of_no_operand rfl rfl rfl rfl

theorem configureHeldTaken : Statement .configureHeldTaken :=
  of_no_operand rfl rfl rfl rfl

theorem configureReadDone : Statement .configureReadDone :=
  of_no_operand rfl rfl rfl rfl

theorem attnCauseWrite (value : HostWord) : Statement (.attnCauseWrite value) :=
  of_no_operand rfl rfl rfl rfl

theorem attnEnableWrite (value : HostWord) : Statement (.attnEnableWrite value) :=
  of_no_operand rfl rfl rfl rfl

theorem apertureWrite (number : Fin 3) (value : HostWord) : Statement (.apertureWrite number value) :=
  of_no_operand rfl rfl rfl rfl

theorem registerWriteIgnored (address value : HostWord) : Statement (.registerWriteIgnored address value) := by
  simp [Statement, Instr.wf, storeAddress, ignoredWrite, frameOf]

theorem hostStoreWrite (address value : HostWord) : Statement (.hostStoreWrite address value) := by
  simp [Statement, Instr.wf, storeAddress, ignoredWrite, frameOf]

theorem hostStoreRead (address : HostWord) : Statement (.hostStoreRead address) := by
  simp [Statement, Instr.wf, storeAddress, ignoredWrite, frameOf]

theorem storeGrant : Statement .storeGrant :=
  of_no_operand rfl rfl rfl rfl

theorem journalRecordWrite : Statement .journalRecordWrite :=
  of_no_operand rfl rfl rfl rfl

theorem requestSlotRead : Statement .requestSlotRead :=
  of_no_operand rfl rfl rfl rfl

theorem startLot (flt : Four Bool) : Statement (.startLot flt) :=
  of_no_operand rfl rfl rfl rfl

theorem contextReadDone (flt : Four Bool) : Statement (.contextReadDone flt) :=
  of_no_operand rfl rfl rfl rfl

theorem startLotSetupsDone : Statement .startLotSetupsDone :=
  of_no_operand rfl rfl rfl rfl

theorem endLot : Statement .endLot :=
  of_no_operand rfl rfl rfl rfl

theorem abortLot : Statement .abortLot :=
  of_no_operand rfl rfl rfl rfl

theorem stagePlan : Statement .stagePlan :=
  of_no_operand rfl rfl rfl rfl

theorem planStagingEnd : Statement .planStagingEnd :=
  of_no_operand rfl rfl rfl rfl

theorem switchPlan : Statement .switchPlan :=
  of_no_operand rfl rfl rfl rfl

theorem binControlClose : Statement .binControlClose :=
  of_no_operand rfl rfl rfl rfl

theorem binControlOpen : Statement .binControlOpen :=
  of_no_operand rfl rfl rfl rfl

theorem binControlCapacity : Statement .binControlCapacity :=
  of_no_operand rfl rfl rfl rfl

theorem hold : Statement .hold :=
  of_no_operand rfl rfl rfl rfl

theorem resume : Statement .resume :=
  of_no_operand rfl rfl rfl rfl

theorem clearHalt : Statement .clearHalt :=
  of_no_operand rfl rfl rfl rfl

theorem meterRestart (flt : Bool) : Statement (.meterRestart flt) :=
  of_no_operand rfl rfl rfl rfl

theorem setThinning : Statement .setThinning :=
  of_no_operand rfl rfl rfl rfl

theorem portWrite : Statement .portWrite :=
  of_no_operand rfl rfl rfl rfl

theorem unknown : Statement .unknown :=
  of_no_operand rfl rfl rfl rfl

theorem lotClose : Statement .lotClose :=
  of_no_operand rfl rfl rfl rfl

theorem closeCompletionEnd : Statement .closeCompletionEnd :=
  of_no_operand rfl rfl rfl rfl

theorem directLineChange (line : LineId) (high : Bool) : Statement (.directLineChange line high) :=
  of_no_operand rfl rfl rfl rfl

theorem debounceElapsed (line : LineId) : Statement (.debounceElapsed line) :=
  of_no_operand rfl rfl rfl rfl

theorem sensorScan (bits : BitVec 64) : Statement (.sensorScan bits) :=
  of_no_operand rfl rfl rfl rfl

theorem acqRise (m : Meter) : Statement (.acqRise m) :=
  of_no_operand rfl rfl rfl rfl

theorem acqFall (m : Meter) : Statement (.acqFall m) :=
  of_no_operand rfl rfl rfl rfl

theorem rdyRise (m : Meter) : Statement (.rdyRise m) :=
  of_no_operand rfl rfl rfl rfl

theorem fltRise (m : Meter) : Statement (.fltRise m) :=
  of_no_operand rfl rfl rfl rfl

theorem meterFrameSent (m : Meter) : Statement (.meterFrameSent m) :=
  of_no_operand rfl rfl rfl rfl

theorem pendingTakeSent (m : Meter) : Statement (.pendingTakeSent m) :=
  of_no_operand rfl rfl rfl rfl

theorem report (m : Meter) (f : List Byte) : Statement (.report m f) := by
  simp [Statement, Instr.wf, storeAddress, ignoredWrite, frameOf]

theorem jamTimerExpiry : Statement .jamTimerExpiry :=
  of_no_operand rfl rfl rfl rfl

theorem feedTimerExpiry : Statement .feedTimerExpiry :=
  of_no_operand rfl rfl rfl rfl

theorem catchTimerExpiry : Statement .catchTimerExpiry :=
  of_no_operand rfl rfl rfl rfl

theorem starvationTimerExpiry : Statement .starvationTimerExpiry :=
  of_no_operand rfl rfl rfl rfl

theorem takeTimerExpiry (m : Meter) : Statement (.takeTimerExpiry m) :=
  of_no_operand rfl rfl rfl rfl

theorem pulseTimerExpiry (gate : Fin 32) : Statement (.pulseTimerExpiry gate) :=
  of_no_operand rfl rfl rfl rfl

theorem ageTimerExpiry : Statement .ageTimerExpiry :=
  of_no_operand rfl rfl rfl rfl

end Sys2Proof.Laws.OperandChecks
end

