-- ==== Sys2Proof/Laws/Posts.lean ====
section
/-! SUPPORT. The post queue changes by posting writes, by the RQX's taking of its head, and by CONFIGURE and resets alone:
every other operation keeps it. -/

/- The proofs of this file are elaborated one after the other, so that the package, compiled as one file, does
not ask for more threads at once than a machine of limited memory can give. -/
set_option Elab.async false

namespace Sys2Proof.Machine

variable (p : Part)

@[simp] theorem Part.endRequestAs_posts (r : Result) (e : Nat → WriteEffect) :
    (p.endRequestAs r e).rqx.posts = p.rqx.posts := by
  unfold Part.endRequestAs
  split <;> simp

@[simp] theorem Part.endRequest_posts (r : Result) :
    (p.endRequest r).rqx.posts = p.rqx.posts := by
  unfold Part.endRequest
  simp

@[simp] theorem Part.endParked_posts (r : Result) :
    (p.endParked r).rqx.posts = p.rqx.posts := by
  unfold Part.endParked
  split <;> simp

@[simp] theorem Part.parkCurrent_posts :
    (p.parkCurrent).rqx.posts = p.rqx.posts := by
  unfold Part.parkCurrent
  split <;> simp

@[simp] theorem Part.beginWork_posts :
    (p.beginWork).rqx.posts = p.rqx.posts := by
  unfold Part.beginWork
  split <;> simp

@[simp] theorem Part.giveSetupOutcome_posts (m : Meter) (a : SetupAsker) (o : ChannelCause) :
    (p.giveSetupOutcome m a o).rqx.posts = p.rqx.posts := by
  unfold Part.giveSetupOutcome
  (repeat' split) <;> simp

@[simp] theorem Part.endSetup_posts (m : Meter) (o : ChannelCause) :
    (p.endSetup m o).rqx.posts = p.rqx.posts := by
  unfold Part.endSetup
  (repeat' split) <;> simp

@[simp] theorem Part.enterSetup_posts (m : Meter) (a : SetupAsker) (b : Bool) :
    (p.enterSetup m a b).rqx.posts = p.rqx.posts := by
  unfold Part.enterSetup
  split <;> simp

@[simp] theorem Part.reportEnded_posts (m : Meter) (f : List Byte) (b : Bool) :
    (p.reportEnded m f b).rqx.posts = p.rqx.posts := by
  unfold Part.reportEnded
  dsimp only
  (repeat' split) <;> simp

@[simp] theorem Part.faultByState_posts (m : Meter) (c : ChannelCause) :
    (p.faultByState m c).rqx.posts = p.rqx.posts := by
  unfold Part.faultByState
  split <;> simp

@[simp] theorem Part.acqRises_posts (m : Meter) :
    (p.acqRises m).rqx.posts = p.rqx.posts := by
  unfold Part.acqRises
  dsimp only
  (repeat' split) <;> simp

@[simp] theorem Part.fltRises_posts (m : Meter) :
    (p.fltRises m).rqx.posts = p.rqx.posts := by
  unfold Part.fltRises
  simp

@[simp] theorem Part.takeTimerExpires_posts (m : Meter) :
    (p.takeTimerExpires m).rqx.posts = p.rqx.posts := by
  unfold Part.takeTimerExpires
  simp

@[simp] theorem Part.binControl_posts (a : Nat) :
    (p.binControl a).rqx.posts = p.rqx.posts := by
  unfold Part.binControl
  split <;> simp

@[simp] theorem Part.stagePlan_posts :
    (p.stagePlan).rqx.posts = p.rqx.posts := by
  unfold Part.stagePlan
  split <;> simp

@[simp] theorem Part.endStaging_posts (w : Staging) :
    (p.endStaging w).rqx.posts = p.rqx.posts := by
  unfold Part.endStaging
  split <;> simp

@[simp] theorem Part.switchPlan_posts :
    (p.switchPlan).rqx.posts = p.rqx.posts := by
  unfold Part.switchPlan Part.refuseSwitch
  dsimp only
  (repeat' split) <;> simp

@[simp] theorem Part.setupUnderLot_posts (x : Nominal) (f : Four Bool) (m : Meter) :
    (Part.setupUnderLot x f p m).rqx.posts = p.rqx.posts := by
  unfold Part.setupUnderLot
  split <;> simp

@[simp] theorem Part.beginSetups_posts (w : StartLotWork) (r : Option (Nat × LotCounters)) (f : Four Bool) :
    (p.beginSetups w r f).rqx.posts = p.rqx.posts :=
  (Part.foldl_same (fun q => q.rqx.posts) (Part.setupUnderLot w.nominal f) (by simp) _ _).trans rfl

@[simp] theorem Part.startLot_posts (f : Four Bool) :
    (p.startLot f).rqx.posts = p.rqx.posts := by
  unfold Part.startLot
  dsimp only
  (repeat' split) <;> simp

@[simp] theorem Part.contextRead_posts (w : StartLotWork) (d : List Byte) (f : Four Bool) :
    (p.contextRead w d f).rqx.posts = p.rqx.posts := by
  unfold Part.contextRead
  split <;> simp

@[simp] theorem Part.combineSetups_posts (w : StartLotWork) (r : Option (Nat × LotCounters)) (o : Four (Option ChannelCause)) :
    (p.combineSetups w r o).rqx.posts = p.rqx.posts := by
  unfold Part.combineSetups
  split <;> simp

@[simp] theorem Part.endLot_posts :
    (p.endLot).rqx.posts = p.rqx.posts := by
  unfold Part.endLot
  dsimp only
  (repeat' split) <;> simp

@[simp] theorem Part.abortLot_posts :
    (p.abortLot).rqx.posts = p.rqx.posts := by
  unfold Part.abortLot
  (repeat' split) <;> simp

@[simp] theorem Part.endCompletion_posts (c : CloseCompletion) :
    (p.endCompletion c).rqx.posts = p.rqx.posts := by
  unfold Part.endCompletion
  split <;> simp

@[simp] theorem Part.holdRequest_posts :
    (p.holdRequest).rqx.posts = p.rqx.posts := by
  unfold Part.holdRequest
  split <;> simp

@[simp] theorem Part.resume_posts :
    (p.resume).rqx.posts = p.rqx.posts := by
  unfold Part.resume
  dsimp only
  (repeat' split) <;> simp

@[simp] theorem Part.clearHalt_posts :
    (p.clearHalt).rqx.posts = p.rqx.posts := by
  unfold Part.clearHalt
  dsimp only
  (repeat' split) <;> simp

@[simp] theorem Part.meterRestart_posts (b : Bool) :
    (p.meterRestart b).rqx.posts = p.rqx.posts := by
  unfold Part.meterRestart
  dsimp only
  (repeat' split) <;> simp

@[simp] theorem Part.setThinning_posts :
    (p.setThinning).rqx.posts = p.rqx.posts := by
  unfold Part.setThinning
  dsimp only
  (repeat' split) <;> simp

@[simp] theorem Part.endPortWrite_posts (c : ResultCode) :
    (p.endPortWrite c).rqx.posts = p.rqx.posts := by
  unfold Part.endPortWrite
  simp

@[simp] theorem Part.portWrite_posts :
    (p.portWrite).rqx.posts = p.rqx.posts := by
  unfold Part.portWrite
  dsimp only
  (repeat' split) <;> simp

@[simp] theorem Part.unknownRequest_posts :
    (p.unknownRequest).rqx.posts = p.rqx.posts := by
  unfold Part.unknownRequest
  simp

@[simp] theorem Part.readGranted_posts (o : ReadOwner) (l : List Byte) :
    (p.readGranted o l).rqx.posts = p.rqx.posts := by
  unfold Part.readGranted
  (repeat' split) <;> simp

@[simp] theorem Part.takeSlot_posts :
    (p.takeSlot).rqx.posts = p.rqx.posts := by
  unfold Part.takeSlot
  (repeat' split) <;> simp

/-- The Watch Unit passes over a write that was accepted with no request area base held (R154). -/
theorem Part.watchPost_unwatched (p : Part) (w : PostedWrite) (h : w.watched = false) : p.watchPost w = p := by
  unfold Part.watchPost
  split
  · rfl
  · split <;> simp [h]

end Sys2Proof.Machine
end

