-- ==== Sys2Proof/Laws/Records.lean ====
section
/-! SUPPORT. Handing records to the Journal Writer: what one hand-off does, and how hand-offs join; and the length of a
result extension. -/

/- The proofs of this file are elaborated one after the other, so that the package, compiled as one file, does
not ask for more threads at once than a machine of limited memory can give. -/
set_option Elab.async false

namespace Sys2Proof.Machine

theorem Part.handed_refl (p : Part) : Part.handed p p [] := by simp [Part.handed]

/-- One hand-off (R164): the record joins the tail, or is discarded while no area is held (R161). -/
theorem Part.handed_handOffFor (p : Part) (b : RecordBody) (d : Option Nat) :
    Part.handed p (p.handOffFor b d) [b] := by
  unfold Part.handed Part.handOffFor Jw.records Part.indexCount
  dsimp only
  split
  · next h => exact ⟨rfl, by simp [h]⟩
  · next a h =>
    split
    · next k => exact ⟨rfl, by simp [h, k.2]⟩
    · exact ⟨rfl, by simp [h]⟩

theorem Part.handed_handOff (p : Part) (b : RecordBody) : Part.handed p (p.handOff b) [b] :=
  p.handed_handOffFor b none

theorem Part.handed_event (p : Part) (e : Event) : Part.handed p (p.event e) [.event e] := p.handed_handOff _

/-- Hand-offs of one dwell join in order. -/
theorem Part.handed_trans {p q t : Part} {xs ys : List RecordBody} (h : Part.handed p q xs) (k : Part.handed q t ys)
    (hi : t.indexCount = q.indexCount) : Part.handed p t (xs ++ ys) := by
  obtain ⟨h1, h2⟩ := h
  obtain ⟨k1, k2⟩ := k
  have area : q.jw.area = p.jw.area := by rw [← h1]
  refine ⟨?_, ?_⟩
  · rw [← h1, ← k1]
  · rw [k2, h2, area, hi]
    split <;> simp

/-- A change that leaves the JW alone hands nothing. -/
theorem Part.handed_same {p q : Part} (h : q.jw = p.jw) : Part.handed p q [] := by
  simp [Part.handed, h, Jw.records]

theorem Part.handed_of_left {p q t : Part} {xs : List RecordBody} (h : q.jw = p.jw) (k : Part.handed q t xs) :
    Part.handed p t xs := by
  simpa [Part.handed, h] using k

theorem Part.handed_of_right {p q t : Part} {xs : List RecordBody} (h : Part.handed p q xs) (k : t.jw = q.jw)
    (hi : t.indexCount = q.indexCount) : Part.handed p t xs := by
  simpa [Part.handed, k, hi] using h

theorem Part.handed_commit {p q : Part} (b : Part) {xs : List RecordBody} (h : Part.handed p q xs) :
    Part.handed p (Part.commit b q) xs := Part.handed_of_right h (by simp) (by simp)

/-- A record just handed is among the records, where an area is held. -/
theorem Part.records_handOff (p : Part) (b : RecordBody) : (p.handOff b).records b := by
  intro h
  have k := p.handed_handOff b
  have area : (p.handOff b).jw.area = p.jw.area := by rw [← k.1]
  rw [area] at h
  rw [k.2, h]
  simp

/-- A result extension takes four bytes a field. -/
theorem extensionFields_length (fields : List Nat) : (extensionFields fields).length = 4 * fields.length := by
  induction fields with
  | nil => rfl
  | cons n rest ih =>
    have h : (leBytes 4 n).length = 4 := rfl
    simp only [extensionFields, List.flatMap_cons, List.length_append, List.length_cons, h] at ih ⊢
    omega

end Sys2Proof.Machine
end

