-- ==== Sys2Proof/Tests/Slice0.lean ====
section
/-! SUPPORT. The package's own tests: ill-formed commands, for every statement with hypotheses a state and operands that
meet them, clause by clause, and small tests of single commands. -/

/- The proofs of this file are elaborated one after the other, so that the package, compiled as one file, does
not ask for more threads at once than a machine of limited memory can give. -/
set_option Elab.async false

namespace Sys2Proof.Tests

open Sys2Proof Sys2Proof.Machine

/-! ## The states the tests are made on -/

/-- A dial of 24 pockets with a PRIMARY, a SECOND and a BACKUP station and two gates. -/
def dial : Geometry :=
  { pockets := 24, stations := ⟨⟨.primary, 2⟩, ⟨.second, 4⟩, ⟨.backup, 6⟩, ⟨.unused, 0⟩⟩, decision := 8, gates := [9, 10],
    clear := 22, jam := 0x41 }

/-- One row to gate 0 with gate 1 as its alternate. -/
def plan : Plan :=
  { id := 7041, reject := some 1, fail := none, spread := none, overflow := some 1, spreadCheck := false, spreadLimit := 0,
    rows := [{ low := -500, high := 500, target := 0, alternates := [1] }] }

/-- A used channel. -/
def channel (role : Role) (state : ChannelState) : Channel :=
  { Channel.reset false false with state, role, nominal := some ⟨1000, 0, 0⟩ }

/-- A configured meter of the scheduler. -/
def meterRef : RefMeter :=
  { thresholds := some ⟨10, 20, 30, 500⟩, count := 5, urgency := .current, cover := .none, refs := [] }

/-- A journal area of 4 KB with the fill offset and the reclaim offset given. -/
def journal (fill reclaim : Nat) : Jw :=
  { Jw.reset with
    area := some { base := 0x100000, size := 4096, t1 := 2048, t2 := 1024, t3 := 512, backlog := 3072, age := 0xC5 }
    fill, reclaim }

/-- A configured part in an engine state with a lot mode. -/
def partIn (e : EngineState) (mode : LotMode) : Machine.Part :=
  { State.reset.part with
    dt := { Dt.reset with geometry := some dial, pockets := List.replicate 24 .vacant }
    lcu := { Lcu.reset with intervals := some ⟨0x82, 0x43, 0xC5⟩ }
    mc :=
      { channels := ⟨channel .primary .online, channel .second .online, channel .backup .online, Channel.reset false false⟩
        takeTimeout := some 0x85 }
    rsc := Four.const meterRef
    ps := { Ps.reset with slotA := { state := .staged, plan := some plan, refs := 0 }, loadSlot := some .a }
    gbt :=
      { bins := List.replicate 32 { BinEntry.reset with tube := true, capacity := 3 }, pulses := List.replicate 32 .idle
        items := some ⟨0x43, 3, 2, 3⟩ }
    lsq := { Lsq.reset with engine := e, lotMode := mode, presets := some ⟨0x05, 0x0A, 0x30⟩ }
    rqx := { Rqx.reset with base := some 0x1000 }
    jw := journal 0 0
    sa := Sa.empty }

/-- The machine with a configured part. -/
def live (e : EngineState) (mode : LotMode) : State := { State.reset with part := partIn e mode }

/-- `s` with the commands waiting. -/
def queued (s : State) (cs : List Instr) : State := { s with pending := cs }

/-- `s` with a current request of the kind, with the argument bytes from byte 4 of its slot on. -/
def asks (s : State) (kind : Nat) (args : List Byte) : State :=
  { s with
    part := { s.part with rqx := { s.part.rqx with current := some ⟨0, 0x1000, kind, true, padTo 20 args, false⟩ } } }

/-- The state after a command. -/
def after (i : Instr) (s : State) : State :=
  match exec i s with
  | .next t => t
  | .fault _ => s
  | .refused _ => s

/-- The current request of `asks` is of its kind. -/
theorem asks_executes (s : State) (kind : Nat) (args : List Byte) : (asks s kind args).part.executes kind :=
  ⟨_, rfl, rfl, rfl⟩

/-- A part in CARRY with its reading entries. -/
def carried : PartRecord :=
  { sequence := 9, slot := .a,
    readings := [⟨0, some 3, .good, some 100, false⟩, ⟨1, some 2, .over, none, false⟩, ⟨2, none, .pending, none, false⟩] }

/-- The routing of a part sorted to a gate. -/
def sorted (n : Nat) : Routing := { row := some 0, route := .gate n, reason := .sorted }

/-- A posted write accepted with a request area held. -/
def post (a : StoreAddr) (v : HostWord) : PostedWrite := { address := a, value := v, watched := true }

/-- `s` with pocket `k` holding `x`. -/
def holding (s : State) (k : Nat) (x : Pocket) : State := { s with part := s.part.setPocket k x }

/-- `s` with channel 0 replaced. -/
def withChannel (s : State) (c : Channel) : State := { s with part := s.part.setChannel 0 c }

/-- A take's tag. -/
def tag (stage : TagStage) : Tag := { kind := .take, pocket := 7, serial := 3, dwell := 0, stage }

/-- The bytes of a REPORT frame. -/
def reportFrame (kind pocket serial status : Nat) (deviation : Int) : List Byte :=
  withCheck (byte kind ++ byte pocket ++ leBytes 2 serial ++ byte status ++ leSigned deviation)

/-- `s` with the STATUS queue, and the other classes, replaced. -/
def withQueues (s : State) (q : Sa) : State := { s with part := { s.part with sa := q } }

/-! ## Ill-formed commands -/

theorem test_wf_ignoredWrite_refuses_configure : (Instr.registerWriteIgnored 0x0002 0x00C1).wf = false := by decide
theorem test_wf_ignoredWrite_refuses_cause : (Instr.registerWriteIgnored 0x0004 0x0001).wf = false := by decide
theorem test_wf_ignoredWrite_takes_control : (Instr.registerWriteIgnored 0x0003 0x00C0).wf = true := by decide
theorem test_wf_storeWrite_refuses_register : (Instr.hostStoreWrite 0x000F 1).wf = false := by decide
theorem test_wf_storeWrite_takes_store : (Instr.hostStoreWrite 0x0010 1).wf = true := by decide
theorem test_wf_storeRead_refuses_register : (Instr.hostStoreRead 0x000F).wf = false := by decide
theorem test_wf_report_refuses_nine_bytes : (Instr.report 0 (List.replicate 9 0)).wf = false := by decide

/-! ## The hypotheses of the statements are met: the machine, what follows a command, resets, registers -/

theorem witness_IdleStepLetsTimePass : State.reset.pending = [] := rfl

theorem witness_OnlyGrantsChangeTheStore :
    Instr.portWrite ≠ .storeGrant ∧ ∃ t, exec .portWrite (asks (live .run .run) 12 [0xFF, 0]) = .next t :=
  ⟨by decide, _, rfl⟩

/-- A posted write of 0x1234 to 0x000600 waits, and its grant is the next command. -/
def posting : State :=
  queued { live .run .run with hp := { HostPort.reset with buffer := [post 0x600 0x1234] } } [.storeGrant]

theorem witness_StepKeepsTheStoreCanonical : posting.storeOk ∧ ∃ t, step posting = .next t :=
  ⟨by unfold State.storeOk; decide +kernel, _, rfl⟩

theorem witness_StepKeepsPermitAtItsConditions : State.reset.permitOk ∧ ∃ t, step State.reset = .next t :=
  ⟨by unfold State.permitOk; decide +kernel, _, rfl⟩

theorem witness_StepKeepsTheLotMode :
    (live .hold .drain).lotModeOk ∧ (live .run .run).lotModeOk ∧ ∃ t, step (live .hold .drain) = .next t :=
  ⟨by show LotMode.drain ≠ .none; decide, rfl, _, rfl⟩

theorem witness_StepKeepsTheBoundsOfQueuesAndTables :
    posting.postsOk ∧ posting.hostPortOk ∧ posting.tablesOk ∧ ∃ t, step posting = .next t :=
  ⟨by unfold State.postsOk; decide +kernel, by unfold State.hostPortOk; decide +kernel,
    by unfold State.tablesOk; decide +kernel, _, rfl⟩

/-- PERMIT high with its conditions. -/
def permitted : State :=
  { live .run .run with part := { partIn .run .run with dt := { (partIn .run .run).dt with permit := true } } }

theorem witness_PermitFollowsItsConditions :
    ((live .run .run).part.permitConditions = true ∧ (live .run .run).part.dt.permit = false ∧
      (live .run .run).part.dt.geometry = some dial) ∧
    (({ permitted.part with jw := { journal 0 0 with queue := List.replicate 13 ⟨.tube 0 1 0 1, 0⟩ } }).permitConditions =
        false ∧ permitted.part.dt.permit = true) ∧
    (({ permitted.part with jw := { journal 0 0 with queue := List.replicate 12 ⟨.tube 0 1 0 1, 0⟩ } }).permitConditions =
        permitted.part.dt.permit) := by
  decide +kernel

theorem witness_StatusWritesFollowTheChanges :
    (partIn .run .run).statusBytes .engine ≠ (partIn .hold .run).statusBytes .engine ∧
      ((partIn .hold .run).sa.status.map StatusRequest.item).Nodup := by
  decide +kernel

theorem witness_RqxTakesTheNextPost :
    let q := { (partIn .run .run) with rqx := { (partIn .run .run).rqx with posts := [15, 0] } }
    (q.rqx.current = none ∧ q.rqx.reading = none ∧ q.rqx.base = some 0x1000 ∧ q.rqx.posts = [15, 0] ∧
      q.cfg.work = .none) ∧
      (asks (live .run .run) 7 []).part.rqx.current ≠ none := by
  decide +kernel

/-- The host's bus held by a cycle. -/
def cycling (c : HostCycle) (draining : Bool) : State :=
  { live .idle .none with hp := { HostPort.reset with cycle := c, draining } }

theorem witness_PowerOnResetPutsEveryBlockAtReset :
    (cycling (.read 0x600) false).hp.cycle = .read 0x600 ∧
      (cycling (.readWaiting 0x4000) true).hp.cycle = .readWaiting 0x4000 ∧
      (cycling (.write 0x0600 7) false).hp.cycle = .write 0x0600 7 ∧ (cycling .none false).hp.cycle = .none := by
  decide +kernel

theorem witness_SoftResetAndItsDrain :
    ((cycling .none true).hp.draining = true ∧ (cycling .none true).hp.buffer = []) ∧
      ((cycling .none false).hp.draining = false ∧ (cycling .none false).hp.cycle = .none) ∧
      ((cycling (.write 0x0600 7) true).hp.draining = true ∧ (cycling (.write 0x0600 7) true).hp.translate 0x0600 =
        .store 0x600) ∧
      ((cycling (.readWaiting 0x3FFF) true).hp.draining = true ∧
        (cycling (.readWaiting 0x3FFF) true).hp.translate 0x3FFF = .store 0x3FFE) := by
  decide +kernel

theorem witness_AttnCauseWriteClearsTheCauses :
    State.reset.hp.cycle = .none ∧ (0x0001 : HostWord).getLsbD AttnCause.halt.bit = true ∧
      (0x0040 : HostWord).getLsbD AttnCause.starved.bit = true ∧
      ((State.reset.part.latch .halt).attn.enable.getLsbD AttnCause.halt.bit = true) := by
  decide +kernel

theorem witness_AttnEnablesGateTheLatching : State.reset.hp.cycle = .none := rfl

theorem witness_ApertureAndIgnoredWrites : State.reset.hp.cycle = .none := rfl

/-- The last address of each region and the first of the next. -/
theorem witness_HostAddressesTranslate :
    let e (a : HostWord) := a.toNat - a.toNat % 2
    (e 0x000F ≤ 0x000F ∧ 0x0010 ≤ e 0x0010 ∧ e 0x3FFF ≤ 0x3FFF) ∧ (0x4000 ≤ e 0x4000 ∧ e 0x7FFF ≤ 0x7FFF) ∧
      (0x8000 ≤ e 0x8000 ∧ e 0xBFFF ≤ 0xBFFF) ∧ 0xC000 ≤ e 0xC000 := by
  decide

theorem test_translate_boundaries :
    let h : HostPort := { HostPort.reset with aperture1 := ⟨true, 0x7F⟩, aperture3 := ⟨true, 1⟩ }
    h.translate 0x000F = .registers ∧ h.translate 0x0010 = .store 0x10 ∧ h.translate 0x3FFF = .store 0x3FFE ∧
      h.translate 0x4000 = .store 0x1FC000 ∧ h.translate 0x7FFF = .store 0x1FFFFE ∧ h.translate 0x8000 = .disabled ∧
      h.translate 0xBFFF = .disabled ∧ h.translate 0xC000 = .store 0x4000 ∧ h.translate 0xFFFF = .store 0x7FFE := by
  decide +kernel

/-- `live` with `n` posted writes waiting. -/
def posted (n : Nat) (draining : Bool) : State :=
  { live .idle .none with hp := { HostPort.reset with buffer := List.replicate n (post 0x600 1), draining } }

theorem witness_HostWriteJoinsTheBuffer :
    16 ≤ (0x0010 : HostWord).toNat ∧ (posted 3 false).hp.cycle = .none ∧
      (posted 3 false).hp.translate 0x4000 = .disabled ∧
      ((posted 3 false).hp.translate 0x0010 = .store 0x10 ∧ (posted 3 false).hp.draining = false ∧
        (posted 3 false).hp.buffer.length < 4) ∧
      ((posted 4 false).hp.translate 0x0010 = .store 0x10 ∧ 4 ≤ (posted 4 false).hp.buffer.length) ∧
      (posted 0 true).hp.draining = true := by
  decide +kernel

/-- A part write and a status write in the block of store address 0x000200. -/
def blockWaits : State :=
  withQueues (posted 1 false)
    { Sa.empty with journal := [.write [(0x21F, 1)] .plain false], status := [⟨.engine, false⟩] }

theorem witness_HostReadWaitsForItsBlock :
    (blockWaits.hp.cycle = .none ∧ blockWaits.hp.translate 0x0200 = .store 0x200 ∧ blockWaits.hp.draining = false ∧
      blockWaits.hp.buffer ≠ [] ∧ StoreRequest.write [(0x21F, 1)] .plain false ∈ blockWaits.part.sa.journal ∧
      0x21F / 32 = (0x200 : StoreAddr).toNat / 32 ∧ StatusItem.engine.address / 32 = (0x200 : StoreAddr).toNat / 32) ∧
      blockWaits.hp.translate 0x8000 = .disabled ∧ (posted 0 true).hp.draining = true := by
  decide +kernel

/-- Part writes wait in other blocks only. -/
theorem witness_HostReadWaitsForItsBlock_free :
    let s := withQueues (posted 0 false)
      { Sa.empty with journal := [.write [(0x21F, 1)] .plain false], status := [⟨.engine, false⟩] }
    s.hp.cycle = .none ∧ s.hp.translate 0x0220 = .store 0x220 ∧ s.hp.buffer = [] ∧
      (∀ c ∈ [((0x21F : Nat), (1 : Byte))], c.1 / 32 ≠ (0x220 : StoreAddr).toNat / 32) ∧
      StatusItem.engine.address / 32 ≠ (0x220 : StoreAddr).toNat / 32 ∧
      (after (.hostStoreRead 0x0220) s).portChoice = some .hostRead := by
  decide +kernel

/-! ## The same: the Store Arbiter, the journal, request slots, CONFIGURE -/

/-- A write of each class waits, and a host read. -/
def everyClass : State :=
  { withQueues (live .run .run)
      { journal := [.write [(0x400, 8)] (.publish 8 0) false], status := [⟨.engine, false⟩],
        request := [.read 0x1000 32 .slot], bulk := [.read 0x40 32 .configuration] } with
    hp := { HostPort.reset with cycle := .read 0x600 } }

theorem witness_GrantsFollowTheClassOrder :
    everyClass.hp.draining = false ∧ everyClass.hp.promotion ≠ 8 ∧ everyClass.part.sa.journal ≠ [] ∧
      everyClass.portChoice = some .hostRead ∧
      ({ everyClass with hp := { everyClass.hp with promotion := 8 } }).choice = some .hostRead ∧
      (withQueues everyClass Sa.empty).choice = some .hostRead ∧ (posted 1 true).hp.draining = true := by
  decide +kernel

/-- `live` with one request at the head of REQUEST. -/
def requested (r : StoreRequest) : State := withQueues (live .drain .drain) { Sa.empty with request := [r] }

theorem witness_PartWriteGrantStoresItsCells :
    (∀ e ∈ [WriteEffect.plain, .done true, .context, .portResult 0x1000, .publish 8 1],
      (requested (.write [(0x1000, 3), (0x101C, 9)] e false)).choice = some .request ∧
        (requested (.write [(0x1000, 3), (0x101C, 9)] e false)).part.sa.queue .request =
          [.write [(0x1000, 3), (0x101C, 9)] e false]) ∧
      (requested (.write [(0x1000, 3)] .plain false)).storeOk ∧
      ([((0x1000 : Nat), (3 : Byte)), (0x101C, 9)].Pairwise (fun x y => x.1 % storeBytes ≠ y.1 % storeBytes)) := by
  unfold State.storeOk; decide +kernel

theorem test_storeGrant_portResult :
    Memory.read (after .storeGrant (requested (.write [(0x1000, 3), (0x101C, 9)] (.portResult 0x1000) false))).store 0x101C =
      (live .drain .drain).part.lsq.portLatch := by
  decide +kernel

theorem witness_StatusGrantWritesTheItemAsItStands :
    let s := withQueues (live .run .run) { Sa.empty with status := [⟨.bin 31, false⟩] }
    s.choice = some .status ∧ s.part.sa.status = [⟨.bin 31, false⟩] ∧ Memory.wf s.store = true := by
  decide +kernel

/-- The host posts slot 15: the word 1 to its state, while a request is executed. -/
def postingSlot (a : StoreAddr) (v : HostWord) (cycle : HostCycle) : State :=
  { asks (live .run .run) 7 [] with hp := { HostPort.reset with buffer := [post a v], cycle } }

/-- The host posts the slot at an address while the RQX is free. -/
def postingFree (a : StoreAddr) : State := { live .run .run with hp := { HostPort.reset with buffer := [post a 1] } }

theorem witness_HostWriteGrantStoresAndPosts :
    ((postingSlot 0x11E0 1 .none).choice = some .hostWrite ∧ (postingSlot 0x11E0 1 .none).hp.buffer = [post 0x11E0 1] ∧
      Memory.wf (postingSlot 0x11E0 1 .none).store = true ∧ (0x11E0 : StoreAddr).toNat + 1 < storeBytes ∧
      (postingSlot 0x11E0 1 .none).part.rqx.current ≠ none ∧
      (postingSlot 0x11E0 1 .none).part.rqx.base = some 0x1000 ∧ (0x11E0 : StoreAddr).toNat = 0x1000 + 32 * 15) ∧
      ((postingSlot 0x1FFFFE 1 (.write 0x0600 7)).hp.translate 0x0600 = .store 0x600 ∧
        (0x1FFFFE : StoreAddr).toNat + 1 < storeBytes) ∧
      ((postingFree 0x11E0).choice = some .hostWrite ∧ (postingFree 0x11E0).part.rqx.current = none ∧
        (postingFree 0x11E0).part.rqx.reading = none ∧ (postingFree 0x11E0).part.cfg.work = .none ∧
        (postingFree 0x11E0).part.rqx.base = some 0x1000 ∧ (postingFree 0x11E0).part.rqx.posts = []) := by
  decide +kernel

theorem test_storeGrant_posts :
    (after .storeGrant (postingFree 0x11E0)).part.rqx.reading = some ⟨15, 0x11E0, none⟩ ∧
      (after .storeGrant (postingFree 0x1200)).part.rqx.reading = none ∧
      (after .storeGrant (postingSlot 0x11E0 1 .none)).part.rqx.posts = [15] ∧
      (after .storeGrant (postingSlot 0x1200 1 .none)).part.rqx.posts = [] := by
  decide +kernel

/-- A write accepted with no request area held is stored and not recognised, and one waiting on the bus that is accepted
now takes the area that is held. -/
theorem test_storeGrant_recognises_only_watched_writes :
    let s := postingSlot 0x11E0 1 (.write 0x0600 7)
    let old := { s with hp := { s.hp with buffer := [{ post 0x11E0 1 with watched := false }] } }
    (after .storeGrant old).part.rqx.posts = [] ∧ Memory.read (after .storeGrant old).store 0x11E0 = 1 ∧
      (after .storeGrant s).hp.buffer = [post 0x600 7] ∧
      (after .storeGrant { s with part := { s.part with rqx := { s.part.rqx with base := none } } }).hp.buffer =
        [{ post 0x600 7 with watched := false }] := by
  decide +kernel

/-- A plan header whose image has 48 rows, the last of which ends the store. -/
def staging (address : Nat) : State :=
  let s := withQueues (live .idle .none) { Sa.empty with bulk := [.read address 32 .plan] }
  { s with part := { s.part with ps := { s.part.ps with staging := some ⟨.b, address, []⟩ } }, store := [(address + 4, 48)] }

theorem witness_ReadGrantsBringTheStoreBytes :
    ((staging 0x1FFCE0).choice = some .bulk ∧
      (staging 0x1FFCE0).part.sa.queue .bulk = [.read 0x1FFCE0 32 .plan] ∧
      (staging 0x1FFCE0).part.ps.staging = some ⟨.b, 0x1FFCE0, []⟩) ∧
      ((withQueues everyClass Sa.empty).choice = some .hostRead ∧
        (withQueues everyClass Sa.empty).hp.cycle = .read 0x600) ∧
      ((requested (.read 0x1000 32 .slot)).choice = some .request) := by
  decide +kernel

/-- A part read is granted while a host read waits, and with no PORT request waiting. -/
theorem test_read_grant_raises_the_promotion :
    (after .storeGrant { staging 0x1FFCE0 with hp := { HostPort.reset with cycle := .read 0x600, promotion := 7 } }).hp.promotion =
        8 ∧
      (after .storeGrant { staging 0x1FFCE0 with hp := { HostPort.reset with promotion := 7 } }).hp.promotion = 7 := by
  decide +kernel

theorem test_storeGrant_files_the_rows :
    (after .storeGrant (staging 0x1FFCE0)).part.sa.bulk.length = 24 ∧
      (after .storeGrant (staging 0x1FFCE8)).part.sa.bulk = [] := by
  decide +kernel

/-- A TUBE record of 24 bytes is at the head of the staging queue. -/
def recording (fill reclaim : Nat) (writer : WriterState) : State :=
  { live .run .run with
    part := { partIn .run .run with jw := { journal fill reclaim with queue := [⟨.tube 0 1 0 1, 0⟩], writer } } }

theorem witness_JournalWriterTestsTheHead :
    (∀ f ∈ [0, 4072, 4080], (recording f 2048 .idle).part.jw.writer = .idle ∧
      (recording f 2048 .idle).part.jw.area = (journal 0 0).area ∧
      (recording f 2048 .idle).part.jw.queue = [⟨.tube 0 1 0 1, 0⟩]) := by
  decide +kernel

theorem test_journalRecordWrite_room :
    (after .journalRecordWrite (recording 0 32 .idle)).part.jw.writer = .writing ∧
      (after .journalRecordWrite (recording 0 24 .idle)).part.jw.writer = .waiting ∧
      (after .journalRecordWrite (recording 4080 32 .idle)).part.jw.writer = .writing ∧
      (after .journalRecordWrite (recording 4080 24 .idle)).part.jw.writer = .waiting := by
  decide +kernel

theorem witness_PublishGrantMovesTheFillOffset :
    let s := { recording 0 0 .writing with
      part := { (recording 0 0 .writing).part with
        sa := { Sa.empty with journal := [.write (cellsAt 0x400 [24, 0, 0, 0]) (.publish 24 0) false] }
        jw := { journal 0 0 with writer := .writing, queue := [⟨.lotClose ⟨5, 6, LotCounters.zero, .endLot⟩, 0⟩] }
        lsq := { Lsq.reset with completion := some ⟨⟨5, 6, LotCounters.zero, .endLot⟩, false, 0⟩ } } }
    s.choice = some .journal ∧ (∃ h, s.part.sa.journal = [.write (cellsAt 0x400 [24, 0, 0, 0]) (.publish 24 0) h]) ∧
      s.part.jw.area = (journal 0 0).area ∧ s.part.lsq.completion.isSome = true ∧
      s.part.jw.queue.head?.map (fun r => r.body.kind) = some 5 :=
  ⟨by decide +kernel, ⟨_, rfl⟩, by decide +kernel, by decide +kernel, by decide +kernel⟩

/-- The hand-off of the current dwell's CLEAR item waits behind the record that is published. -/
def clearWaiting (jet : CatchPulse) : State :=
  let s := recording 0 0 .writing
  let late : HandOff := { record := ⟨.tube 0 1 0 1, 0⟩, clearDwell := some 0 }
  { s with
    part := { s.part with
      sa := { Sa.empty with journal := [.write (cellsAt 0x400 [24, 0, 0, 0]) (.publish 24 0) false] }
      jw := { s.part.jw with waiting := [late] }
      lcu := { s.part.lcu with clearJet := jet }
      dt := { s.part.dt with items := [{ kind := .clear, pocket := 5, state := .started }] } } }

/-- With the hand-off accepted the CLEAR item completes, unless the catch jet of its dwell still pulses. -/
theorem test_publish_completes_the_clear_item :
    ((after .storeGrant (clearWaiting .idle)).part.dt.items.map Item.state) = [.complete] ∧
      ((after .storeGrant (clearWaiting (.pulsing 0 true))).part.dt.items.map Item.state) = [.started] ∧
      (clearWaiting .idle).part.jw.waiting.map HandOff.clearDwell = [some (clearWaiting .idle).part.dt.dwell] := by
  decide +kernel

/-- The host writes the upper half of the reclaim word whose lower half is already in the store. -/
def reclaiming (low v : Nat) (writer : WriterState) : State :=
  { recording 24 48 writer with
    hp := { HostPort.reset with buffer := [post 0x406 (BitVec.ofNat 16 v)] }
    store := if low = 0 then [] else [(0x404, BitVec.ofNat 8 low)] }

theorem witness_ReclaimWritesAreChecked :
    (∀ low ∈ [16, 24, 25, 32], (reclaiming low 0 .waiting).choice = some .hostWrite ∧
      (reclaiming low 0 .waiting).hp.buffer = [post 0x406 0] ∧
      (reclaiming low 0 .waiting).part.jw.area = (journal 0 0).area ∧ Memory.wf (reclaiming low 0 .waiting).store = true) ∧
      (circleDistance 4096 48 24 ≤ circleDistance 4096 48 24 ∧ ¬ circleDistance 4096 48 32 ≤ circleDistance 4096 48 24) := by
  decide +kernel

theorem test_storeGrant_reclaims :
    (after .storeGrant (reclaiming 24 0 .waiting)).part.jw.reclaim = 24 ∧
      (after .storeGrant (reclaiming 24 0 .waiting)).part.jw.writer = .writing ∧
      (after .storeGrant (reclaiming 32 0 .waiting)).part.jw.reclaim = 48 ∧
      (after .storeGrant (reclaiming 25 0 .waiting)).part.jw.queue.length = 2 := by
  decide +kernel

/-- A waiting writer is tested again: there is room at once, there is none, a PAD is needed; and no area is held. -/
theorem witness_ReclaimWritesAreChecked_writers :
    let s (fill reclaim low : Nat) : State :=
      let r := reclaiming low 0 .waiting
      { r with part := { r.part with jw := { r.part.jw with fill, reclaim } } }
    let t (fill reclaim low : Nat) := (after .storeGrant (s fill reclaim low)).part
    (t 24 48 24).jw.writer = .writing ∧ (t 24 48 24).sa.journal.length = 3 ∧
      (t 24 48 48).jw.writer = .waiting ∧ (t 24 48 48).sa.journal = [] ∧
      (t 4080 16 32).jw.writer = .writing ∧ (t 4080 16 32).sa.journal.length = 3 ∧ (t 4080 16 24).jw.writer = .waiting ∧
      (let u := s 24 48 24
       let v := after .storeGrant { u with part := { u.part with jw := { Jw.reset with queue := u.part.jw.queue } } }
       v.part.attn = u.part.attn ∧ v.part.jw.reclaim = 0 ∧ Memory.read v.store 0x404 = 24) := by
  decide +kernel

/-- The slot read of slot 15 is next to be granted, and the slot's state word is `v`. -/
def reading (v : Byte) : State :=
  let s := requested (.read 0x11E0 32 .slot)
  { s with
    part := { s.part with rqx := { s.part.rqx with reading := some ⟨15, 0x11E0, none⟩ } }
    store := [(0x11E0, v), (0x11E2, 7), (0x11E3, 1)] }

/-- The slot read of slot 15 has been granted, and its first byte was `v`. -/
def readAlready (v : Byte) : State :=
  let s := live .run .run
  { s with
    part := { s.part with
      rqx := { s.part.rqx with reading := some ⟨15, 0x11E0, some (v :: 0 :: 7 :: List.replicate 29 0)⟩ } } }

theorem witness_SlotReadTakesAPostedSlot :
    (∀ v ∈ [1, 2], (reading v).part.rqx.reading = some ⟨15, 0x11E0, none⟩ ∧ (reading v).choice = some .request ∧
      (reading v).part.sa.request = [.read 0x11E0 32 .slot]) ∧
      fieldAt (Memory.readBytes (reading 1).store 0x11E0 32) 0 2 = 1 ∧
      fieldAt (Memory.readBytes (reading 2).store 0x11E0 32) 0 2 ≠ 1 ∧
      (∀ v ∈ [(1 : Byte), 2], (readAlready v).part.rqx.reading =
        some ⟨15, 0x11E0, some (v :: 0 :: 7 :: List.replicate 29 0)⟩) ∧
      fieldAt (1 :: 0 :: 7 :: List.replicate 29 0) 0 2 = 1 ∧ fieldAt (2 :: 0 :: 7 :: List.replicate 29 0) 0 2 ≠ 1 := by
  decide +kernel

theorem test_requestSlotRead_takes :
    ((after .requestSlotRead (reading 1)).part.rqx.current.map CurrentRequest.kind) = some 7 ∧
      (after .requestSlotRead (reading 2)).part.rqx.current = none ∧
      ((after .requestSlotRead (readAlready 1)).part.rqx.current.map CurrentRequest.kind) = some 7 ∧
      (after .requestSlotRead (readAlready 2)).part.rqx.current = none := by
  decide +kernel

/-- A dropped slot leaves the RQX free: the next post's read is filed, or none with the post queue empty. -/
theorem test_requestSlotRead_drops :
    let t (posts : List Nat) : Machine.Part :=
      let s := readAlready 2
      (after .requestSlotRead { s with part := { s.part with rqx := { s.part.rqx with posts } } }).part
    (t []).rqx.reading = none ∧ (t [3, 4]).rqx.reading = some ⟨3, 0x1060, none⟩ ∧ (t [3, 4]).rqx.posts = [4] ∧
      (t [3, 4]).sa.request = [.read 0x1060 32 .slot] := by
  decide +kernel

/-- A CONFIGURE in the state given. -/
def configuring (s : State) (w : ConfigWork) : State := { s with part := { s.part with cfg := { Cfg.reset with work := w } } }

theorem witness_ConfigureIsTakenByTheState :
    ((live .run .run).hp.cycle = .none ∧ (live .run .run).part.cfg.work = .none ∧
      (live .halt .drain).part.lsq.engine.inLot = true ∧ (live .idle .none).part.configureWaits = false ∧
      (asks (live .idle .none) 1 []).part.configureWaits = true ∧
      (asks (live .idle .none) 10 []).part.configureWaits = true) ∧
      ((configuring (live .idle .none) .held).part.cfg.work = .held ∧
        (configuring (live .idle .none) .held).part.configureWaits = false ∧
        (configuring (live .run .run) .held).part.lsq.engine.inLot = true) := by
  decide +kernel

/-- A configuration block with the byte at `i` replaced. -/
def configBlock (i v : Nat) : List Byte :=
  (leBytes 2 24 ++ [8, 22, 2, 0x94, 0x85, 0x44, 1, 2, 2, 4, 3, 6, 0, 0, 0xC5, 0x85, 0x43, 3].map (BitVec.ofNat 8) ++
    leBytes 2 2000 ++ [0xC5, 0].map (BitVec.ofNat 8) ++ leBytes 4 3 ++ leBytes 4 0x1000 ++ leBytes 4 0x100000 ++
    leBytes 4 4096 ++ leBytes 4 2048 ++ leBytes 4 1024 ++ leBytes 4 512 ++ leBytes 4 3072 ++
    [5, 10, 0x30, 0].map (BitVec.ofNat 8) ++ List.replicate 8 0 ++
    (List.replicate 4 (leBytes 2 3000 ++ leBytes 2 4000 ++ leBytes 2 4010 ++ leBytes 2 500)).flatten ++
    (List.range 32).map (fun n => BitVec.ofNat 8 (9 + n))).set i (BitVec.ofNat 8 v)

theorem witness_ConfigureThatPasses :
    let s := configuring (live .idle .none) (.reading (configBlock 0 24))
    s.part.cfg.work = .reading (configBlock 0 24) ∧ (configBlock 0 24).length = 132 ∧ s.part.configureWaits = false ∧
      s.part.lsq.engine.inLot = false ∧ configFailure (configBlock 0 24) = none ∧
      s.part.jw.area.map JournalArea.base = some (fieldAt (configBlock 0 24) 0x20 4) ∧
      s.part.jw.area.map JournalArea.size = some (fieldAt (configBlock 0 24) 0x24 4) ∧
      Block.used (configBlock 0 24) 2 = true ∧ Block.used (configBlock 0 24) 3 = false ∧
      Block.gateCount (configBlock 0 24) = 2 ∧ State.reset.part.jw.area = none ∧
      s.part.rqx.base = some (fieldAt (configBlock 0 24) 0x1C 4) := by
  decide +kernel

/-- Slot A is STAGED with a plan whose special bins and rows name the bins 0 and 1, and slot B is EMPTY: with two gates
the plan stands, with one a special bin is too high, and without special bins the row is. -/
theorem witness_ConfigureThatPasses_slots :
    configFailure (configBlock 4 2) = none ∧ configFailure (configBlock 4 1) = none ∧
      fieldAt (configBlock 4 2) 4 1 = 2 ∧ fieldAt (configBlock 4 1) 4 1 = 1 ∧
      ((live .idle .none).part.ps.slot .a).state = .staged ∧ ((live .idle .none).part.ps.slot .a).plan = some plan ∧
      ((live .idle .none).part.ps.slot .b).state ≠ .staged ∧
      (∀ r ∈ plan.rows, r.target < 2 ∧ ∀ n ∈ r.alternates, n < 2) ∧ plan.reject = some 1 ∧
      ({ plan with reject := none, overflow := none }).reject = none ∧
      plan.rows[0]? = some { low := -500, high := 500, target := 0, alternates := [1] } := by
  decide +kernel

theorem test_configureReadDone_rechecks_the_slots :
    let t (n : Nat) := after .configureReadDone (configuring (live .idle .none) (.reading (configBlock 4 n)))
    ((t 2).part.ps.slot .a).state = .staged ∧ ((t 1).part.ps.slot .a).state = .empty ∧
      ((t 1).part.jw.queue.map (fun r => r.body)) = [.event (.planDropped .a 7041 255)] := by
  decide +kernel

theorem witness_ConfigureThatFails :
    configFailure (configBlock 0 23) = some ⟨false, .pocketCount, none⟩ ∧
      configFailure (configBlock 4 33) = some ⟨false, .gateCount, none⟩ ∧
      configFailure (configBlock 0x4D 0xFF) = some ⟨false, .referenceOrder, some 1⟩ ∧
      configFailure (configBlock 0x1D 0x12) = none ∧
      configFailure (configBlock 0x1C 0x20) = some ⟨false, .requestArea, none⟩ ∧
      (configBlock 4 33).length = 132 := by
  decide +kernel

/-- Each check passes on the block of `configBlock 0 24`, and fails where one byte is next to its boundary. -/
theorem witness_ConfigurationChecksStopAtTheFirstFailure :
    configFailure (configBlock 0 24) = none ∧
      ∀ x ∈ [(0x00, 193, ConfigResult.pocketCount, none), (0x08, 2, .stationRoles, none), (0x0C, 1, .stationRoles, none),
          (0x0B, 2, .stationOrder, none), (0x02, 6, .decisionPosition, none), (0x04, 0, .gateCount, none),
          (0x64, 8, .gateOrder, none), (0x65, 9, .gateOrder, none), (0x03, 10, .clearPosition, none),
          (0x03, 24, .clearPosition, none), (0x05, 0x40, .jamInterval, none), (0x06, 0x80, .feedInterval, none),
          (0x07, 0xC0, .catchPulse, none), (0x11, 0, .takeInterval, none), (0x56, 0xA5, .referenceMargin, some (2 : Meter)),
          (0x12, 0, .ejectPulse, none), (0x13, 16, .missLimit, none), (0x25, 0x18, .journalSize, none),
          (0x22, 0x20, .journalPlace, none), (0x2D, 0x08, .thinningLevels, none), (0x35, 0x10, .backlog, none),
          (0x1C, 0x20, .requestArea, none)],
        configFailure (configBlock x.1 x.2.1) = some ⟨false, x.2.2.1, x.2.2.2⟩ := by
  decide +kernel

/-- PRIMARY at 2 and BACKUP at 6, and the roles exchanged. -/
theorem test_backup_lies_after_the_primary :
    configFailure ((configBlock 8 3).set 0x0C 1) = some ⟨false, .stationRoles, none⟩ ∧
      (configChecks ((configBlock 8 3).set 0x0C 1))[1]?.map Check.ok = some true := by
  decide +kernel

theorem test_configureReadDone_fails :
    let s := live .idle .none
    let r := { s with
      part := { s.part with
        lct := { s.part.lct with
          timers := { s.part.lct.timers with jam := .running 0x41 0, age := .running 0xC5 0, take := Four.const (.running 0x85 0) } } } }
    let t := after .configureReadDone (configuring r (.reading (configBlock 0 23)))
    t.part.lsq.engine = .unconfigured ∧ t.part.mc.takeTimeout = none ∧ t.part.channel 0 = Channel.reset false false ∧
      t.part.lct.timers.jam = .stopped ∧ t.part.lct.timers.take = Four.const .stopped ∧
      t.part.lct.timers.age = .running 0xC5 0 := by
  decide +kernel

theorem test_configureReadDone_passes :
    let t := after .configureReadDone (configuring State.reset (.reading (configBlock 0 24)))
    t.part.lsq.engine = .idle ∧ t.part.dt.pockets.length = 24 ∧ t.part.rqx.base = some 0x1000 := by
  decide +kernel

/-! ## The same: the requests -/

/-- The arguments of START LOT: the nominal's exponent and current range, the slot and the context address. -/
def lotArgs (lot exponent current slot context : Nat) : List Byte :=
  leBytes 4 lot ++ leBytes 4 1000 ++ leBytes 4 context ++ byte slot ++ byte exponent ++ byte current

/-- Every FLT input low, or that of channel 0 high. -/
def flt (high : Bool) : Four Bool := ⟨high, false, false, false⟩

/-- A close completion that is done. -/
def completing (s : State) : State :=
  { s with
    part := { s.part with
      lsq := { s.part.lsq with completion := some ⟨⟨5, 6, LotCounters.zero, .endLot⟩, true, 0⟩, parked := some ⟨.endLot, 0⟩ }
      rqx := { s.part.rqx with parkedRef := some ⟨0x1020, false⟩ } } }

theorem witness_StartLotIsTestedThenBegins :
    (asks (live .run .run) 1 (lotArgs 5 0 0 1 0xFFFFFFFF)).part.executes 1 ∧
      (live .run .run).part.lsq.engine ≠ .idle ∧
      (completing (asks (live .idle .none) 1 (lotArgs 5 0 0 1 0xFFFFFFFF))).part.lsq.completion ≠ none ∧
      (∀ a ∈ [(7, 15, 0xFFFFFFFF), (7, 15, 0x1FFFD0), (7, 15, 0)],
        let s := asks (live .idle .none) 1 (lotArgs 1 a.1 a.2.1 1 a.2.2)
        s.part.lsq.engine = .idle ∧ s.part.lsq.completion = none ∧ s.part.arg 4 4 ≠ 0 ∧ s.part.arg 8 4 ≠ 0 ∧
          s.part.arg 17 1 ≤ 7 ∧ s.part.arg 18 1 ≤ 15 ∧ slotOfCode (s.part.arg 16 1) = some .a ∧
          (s.part.ps.slot .a).state = .staged ∧
          (s.part.arg 12 4 = 0xFFFFFFFF ∨ (s.part.arg 12 4 % 8 = 0 ∧ s.part.arg 12 4 ≤ 0x1FFFD0))) ∧
      (∀ a ∈ [(0, 7, 15, 1, 0), (1, 8, 15, 1, 0), (1, 7, 16, 1, 0), (1, 7, 15, 2, 0), (1, 7, 15, 1, 0x1FFFD8)],
        let s := asks (live .idle .none) 1 (lotArgs a.1 a.2.1 a.2.2.1 a.2.2.2.1 a.2.2.2.2)
        s.part.arg 4 4 = 0 ∨ 7 < s.part.arg 17 1 ∨ 15 < s.part.arg 18 1 ∨ (s.part.ps.slot .b).state ≠ .staged ∧
          slotOfCode (s.part.arg 16 1) = some .b ∨ 0x1FFFD0 < s.part.arg 12 4) :=
  ⟨asks_executes _ _ _, by decide +kernel, by decide +kernel, by decide +kernel, by decide +kernel⟩

theorem test_startLot :
    ((after (.startLot (flt false)) (asks (live .idle .none) 1 (lotArgs 5 7 15 1 0xFFFFFFFF))).part.channel 2).state = .setup ∧
      ((after (.startLot (flt true)) (asks (live .idle .none) 1 (lotArgs 5 7 15 1 0xFFFFFFFF))).part.channel 0).state =
        .offline ∧
      (after (.startLot (flt false)) (asks (live .idle .none) 1 (lotArgs 5 8 15 1 0xFFFFFFFF))).part.lsq.startLot = none := by
  decide +kernel

/-- A START LOT under way. -/
def opening (phase : StartLotPhase) : State :=
  let s := asks (live .idle .none) 1 []
  { s with
    part := { s.part with lsq := { s.part.lsq with startLot := some ⟨5, ⟨1000, 0, 0⟩, .a, some 0x3000, phase⟩ } } }

theorem witness_TheLotOpensWhenItsSetupsPass :
    (∀ d ∈ [(⟨5, 6, LotCounters.zero, .endLot⟩ : LotContext), ⟨4, 6, LotCounters.zero, .endLot⟩],
      (opening (.context d.bytes)).part.lsq.startLot = some ⟨5, ⟨1000, 0, 0⟩, .a, some 0x3000, .context d.bytes⟩ ∧
        d.bytes.length = 48 ∧ fieldAt d.bytes 0 4 = d.lot) ∧
      (∀ x ∈ [ChannelCause.online, .timeout], ∀ m,
        (opening (.setups none ⟨some .online, some x, some .flt, none⟩)).part.usedMeter m = true →
          (⟨some .online, some x, some .flt, none⟩ : Four (Option ChannelCause)).get m ≠ none) ∧
      (∀ m, ((opening (.setups none (Four.const none))).part.channel m).role = .primary ∨
          ((opening (.setups none (Four.const none))).part.channel m).role = .second →
        (⟨some .online, some .online, some .flt, none⟩ : Four (Option ChannelCause)).get m = some .online) := by
  decide +kernel

theorem test_startLotSetupsDone :
    (after .startLotSetupsDone (opening (.setups none ⟨some .online, some .online, some .flt, none⟩))).part.lsq.engine = .run ∧
      (after .startLotSetupsDone (opening (.setups none ⟨some .online, some .flt, some .online, none⟩))).part.lsq.engine =
        .idle := by
  decide +kernel

theorem witness_EndLotParksAndDrains :
    (asks (live .run .run) 2 []).part.executes 2 ∧ (asks (live .run .run) 2 []).part.lsq.engine = .run ∧
      (asks (live .run .run) 2 []).part.lsq.parked = none ∧ (asks (live .idle .none) 2 []).part.lsq.engine = .idle ∧
      (completing (asks (live .drain .drain) 2 [])).part.lsq.parked ≠ none :=
  ⟨asks_executes _ _ _, by decide +kernel, by decide +kernel, by decide +kernel, by decide +kernel⟩

theorem witness_AbortLotRoutesEveryPartToCatch :
    (asks (live .halt .run) 3 []).part.executes 3 ∧ (asks (live .halt .run) 3 []).part.lsq.engine.inLot = true ∧
      (asks (live .halt .run) 3 []).part.lsq.parked.map Parked.kind ≠ some .abortLot ∧
      (completing (asks (live .drain .drain) 3 [])).part.rqx.parkedRef = some ⟨0x1020, false⟩ ∧
      (asks (live .idle .none) 3 []).part.lsq.engine.inLot = false :=
  ⟨asks_executes _ _ _, by decide +kernel, by decide +kernel, by decide +kernel, by decide +kernel⟩

/-- An ABORT LOT that withdraws the feed of an earlier dwell, and that of the current one. -/
theorem test_abortLot_withdraws_the_feed :
    let s (dwell : Nat) : State :=
      let r := asks (live .run .run) 3 []
      { r with
        part := { r.part with
          lcu := { r.part.lcu with feed := .feeding 4 dwell, thinning := 2 }
          dt := { r.part.dt with items := [⟨.load, 5, .started⟩, ⟨.clear, 9, .started⟩] } } }
    let t (dwell : Nat) := (after .abortLot (s dwell)).part
    ((t 8).lcu.feed, (t 8).lcu.thinning) = (.idle, 3) ∧ ((t 0).lcu.feed, (t 0).lcu.thinning) = (.idle, 2) ∧
      (t 8).dt.items.map Item.state = [.complete, .started] ∧ (t 0).dt.items.map Item.state = [.complete, .started] ∧
      (s 8).part.waitingLoad = some 5 ∧ (t 8).dt.geometry = some dial := by
  decide +kernel

theorem test_abortLot_routes_to_catch :
    (after .abortLot (holding (asks (live .halt .run) 3 []) 5 (.carry carried))).part.pocket 5 =
        .routed carried ⟨none, .toCatch, .aborted⟩ ∧
      (after .abortLot (asks (live .run .run) 3 [])).part.lsq.engine = .drain := by
  decide +kernel

theorem witness_LotCloseAndItsCompletion :
    ((live .drain .drain).part.lsq.engine = .drain ∧
      (∀ k ∈ (live .drain .drain).part.dt.pockets, k.holdsLotOpen = false) ∧ (live .drain .drain).part.jw.queue = []) ∧
      ((completing (live .idle .none)).part.lsq.completion =
          some ⟨⟨5, 6, LotCounters.zero, .endLot⟩, true, 0⟩ ∧
        (completing (live .idle .none)).part.lsq.parked = some ⟨.endLot, 0⟩ ∧
        (completing (live .idle .none)).part.rqx.parkedRef = some ⟨0x1020, false⟩) := by
  decide +kernel

theorem test_lotClose :
    (after .lotClose (live .drain .drain)).part.lsq.engine = .idle ∧
      (after .closeCompletionEnd (completing (live .idle .none))).part.rqx.parkedRef = none := by
  decide +kernel

theorem witness_HoldAddsRequested :
    (asks (live .halt .drain) 7 []).part.executes 7 ∧
      (∀ e ∈ [EngineState.unconfigured, .idle, .run, .drain, .hold, .halt], (live e .run).part.lsq.engine = e) :=
  ⟨asks_executes _ _ _, by decide +kernel⟩

theorem test_hold :
    (after .hold (asks (live .run .run) 7 [])).part.lsq.engine = .hold ∧
      (after .hold (asks (live .halt .run) 7 [])).part.lsq.engine = .halt ∧
      (after .hold (asks (live .idle .none) 7 [])).part.lsq.holds = HoldCauses.none := by
  decide +kernel

/-- END LOT's extension carries both numbers whole, the field's byte the low one. -/
theorem test_result_extensions :
    let s := completing (live .idle .none)
    let lots : LotContext := ⟨5, 1200, { LotCounters.zero with loaded := 3680 }, .endLot⟩
    let t := after .closeCompletionEnd
      { s with part := { s.part with lsq := { s.part.lsq with completion := some ⟨lots, true, 0⟩ } } }
    extensionFields [6, 255] = [6, 0, 0, 0, 255, 0, 0, 0] ∧
      (t.part.sa.request.head?.map (fun r => match r with
        | .write cells _ _ => cells.map Prod.snd
        | .read _ _ _ => [])) =
        some (leBytes 4 1200 ++ leBytes 4 3680 ++ List.replicate 8 0 ++ [0, 0, 0, 0, 5, 0, 0, 0]) := by
  decide +kernel

/-- HOLD with causes, and the DOOR line's level. -/
def held (mode : LotMode) (causes : HoldCauses) (door : Bool) : State :=
  let s := asks (live .hold mode) 8 []
  { s with
    part := { s.part with
      lsq := { s.part.lsq with holds := causes }
      lct := { s.part.lct with lines := { s.part.lct.lines with door := { Line.reset door with stable := door } } } } }

theorem witness_ResumeRemovesTheAbsentCauses :
    (held .run ⟨true, true, false, false⟩ false).part.executes 8 ∧
      (∀ d ∈ [false, true], (held .drain ⟨true, true, false, false⟩ d).part.lsq.engine = .hold ∧
        (held .drain ⟨true, true, false, false⟩ d).part.lct.lines.door.stable = d ∧
        (held .drain ⟨true, true, false, false⟩ d).part.lsq.lotMode = .drain) ∧
      (live .run .run).part.lsq.engine ≠ .hold :=
  ⟨⟨_, rfl, rfl, rfl⟩, by decide +kernel, by decide +kernel⟩

theorem test_resume :
    (after .resume (held .drain ⟨true, true, false, false⟩ false)).part.lsq.engine = .drain ∧
      (after .resume (held .drain ⟨true, true, false, false⟩ true)).part.lsq.holds = ⟨false, true, false, false⟩ := by
  decide +kernel

theorem witness_ClearHaltEntersHold :
    (∀ v ∈ [(0 : Byte), 1], (asks (live .halt .run) 9 [v]).part.lsq.engine = .halt) ∧
      (asks (live .halt .run) 9 [1]).part.executes 9 ∧ (asks (live .run .run) 9 [1]).part.lsq.engine ≠ .halt :=
  ⟨by decide +kernel, asks_executes _ _ _, by decide +kernel⟩

theorem test_clearHalt_purges :
    (after .clearHalt (holding (asks (live .halt .run) 9 [1]) 5 (.carry carried))).part.pocket 5 =
        .routed carried ⟨none, .toCatch, .purged⟩ ∧
      (after .clearHalt (holding (asks (live .halt .run) 9 [0]) 5 (.carry carried))).part.pocket 5 = .carry carried := by
  decide +kernel

/-- The DEFERRED items of the dwell start with the entry: the part in CARRY is decided, the pocket at the load station
fed. -/
theorem test_resume_starts_the_deferred_items :
    let s := holding (held .run ⟨true, false, false, false⟩ false) 7 (.carry carried)
    let r := { s with
      part := { s.part with dt := { s.part.dt with items := [⟨.load, 0, .deferred⟩, ⟨.decision, 7, .deferred⟩] } } }
    let t := (after .resume r).part
    t.lsq.engine = .run ∧ t.lcu.feed = .feeding 0 0 ∧ (t.pocket 7).isCarry = false ∧
      t.dt.items.map Item.state = [.started, .complete] ∧
      t.lct.timers.starvation = .running 0xC5 (IntervalCode.units 0xC5) := by
  decide +kernel

/-- The arguments of STAGE PLAN and of SWITCH PLAN. -/
def slotArgs (slot v : Nat) : List Byte := byte slot ++ leBytes 3 0 ++ leBytes 4 v

theorem witness_StagePlanLoadsTheSlot :
    (asks (live .idle .none) 4 (slotArgs 2 0x1FFFE0)).part.executes 4 ∧
      (let p := (asks (live .idle .none) 4 (slotArgs 2 0x1FFFE0)).part
       p.lsq.engine ≠ .unconfigured ∧ slotOfCode (p.arg 4 1) = some .b ∧ p.arg 8 4 % 8 = 0 ∧ ¬ 0x1FFFE0 < p.arg 8 4 ∧
        (p.ps.loadSlot == some .b) = false ∧ (p.ps.slot .b).refs = 0) ∧
      0x1FFFE0 < (asks (live .idle .none) 4 (slotArgs 2 0x1FFFE8)).part.arg 8 4 ∧
      slotOfCode ((asks (live .idle .none) 4 (slotArgs 3 0)).part.arg 4 1) = none ∧
      slotOfCode ((asks (live .idle .none) 4 (slotArgs 1 0)).part.arg 4 1) = (live .idle .none).part.ps.loadSlot :=
  ⟨asks_executes _ _ _, by decide +kernel, by decide +kernel, by decide +kernel, by decide +kernel⟩

/-- A plan image of one row with the byte at `i` replaced. -/
def image (i v : Nat) : List Byte :=
  (leBytes 4 7041 ++ [1, 1, 255, 255, 1, 1, 0, 0].map (BitVec.ofNat 8) ++ leBytes 4 500 ++ List.replicate 16 0 ++
    leSigned (-500) ++ leSigned 500 ++ [0, 1, 1, 0, 0, 0, 0, 0].map (BitVec.ofNat 8)).set i (BitVec.ofNat 8 v)

/-- The whole image has been read into slot B. -/
def staged (b : List Byte) : State :=
  let s := asks (live .idle .none) 4 []
  { s with
    part := { s.part with
      ps := { s.part.ps with slotB := { state := .loading, plan := none, refs := 0 }, staging := some ⟨.b, 0x2000, b⟩ } } }

/-- A whole image has the bytes its row count asks for; one whose row count fails, or whose extent does, its header. -/
theorem witness_StagingEndsWithTheChecks :
    (staged (image 0 1)).part.ps.staging = some ⟨.b, 0x2000, image 0 1⟩ ∧
      (image 0 1).length = 32 + 16 * fieldAt (image 0 1) 4 1 ∧ 0x2000 + 32 + 16 * fieldAt (image 0 1) 4 1 ≤ 0x200000 ∧
      (staged ((image 4 49).take 32)).part.ps.staging = some ⟨.b, 0x2000, (image 4 49).take 32⟩ ∧
      ((image 4 49).take 32).length = 32 ∧ ¬ fieldAt ((image 4 49).take 32) 4 1 ≤ 48 := by
  decide +kernel

/-- The codes of R80, each at the edge of its check. -/
theorem test_image_codes :
    let fails (b : List Byte) : Option (Nat × Nat) := imageFailure (some dial) 0x2000 b
    fails (image 4 1) = none ∧ fails (image 4 0) = some (255, 1) ∧ fails (image 4 49) = some (255, 1) ∧
      imageFailure (some dial) 0x1FFFD0 (image 4 1) = none ∧
      imageFailure (some dial) 0x1FFFD8 (image 4 1) = some (255, 2) ∧
      imageFailure none 0x2000 (image 4 1) = some (255, 3) ∧ fails (image 5 255) = none ∧
      fails (image 5 2) = some (255, 4) ∧ fails (image 15 1) = some (255, 5) ∧ fails (image 35 0x7F) = some (0, 6) ∧
      fails ((image 34 0).set 35 0) = some (0, 7) ∧ fails (image 40 2) = some (0, 8) ∧
      fails (image 41 3) = some (0, 9) ∧ fails (image 42 2) = some (0, 10) ∧ fails (image 42 0) = some (0, 11) := by
  decide +kernel

theorem test_planStagingEnd :
    ((after .planStagingEnd (staged (image 0 1))).part.ps.slot .b).state = .staged ∧
      ((after .planStagingEnd (staged (image 40 2))).part.ps.slot .b).state = .empty := by
  decide +kernel

theorem witness_SwitchPlanSetsThePendingSwitch :
    (asks (live .run .run) 5 (slotArgs 1 1)).part.executes 5 ∧
      (let p := (asks (live .run .run) 5 (slotArgs 1 1)).part
       p.lsq.engine ≠ .unconfigured ∧ p.lsq.engine ≠ .idle ∧ slotOfCode (p.arg 4 1) = some .a ∧ p.arg 8 4 ≠ 0 ∧
        (p.ps.slot .a).state = .staged ∧ (p.ps.slot .b).state ≠ .staged) ∧
      (asks (live .run .run) 5 (slotArgs 1 0)).part.arg 8 4 = 0 ∧
      slotOfCode ((asks (live .run .run) 5 (slotArgs 0 1)).part.arg 4 1) = none :=
  ⟨asks_executes _ _ _, by decide +kernel, by decide +kernel, by decide +kernel⟩

/-- A switch stands before, as in section 5.9: its slot is the word, and its sequence number the extension. -/
theorem test_switchPlan_carries_the_pending_switch :
    let s : State :=
      let r := asks (live .run .run) 5 (slotArgs 1 1)
      { r with part := { r.part with ps := { r.part.ps with pendingSwitch := some ⟨.b, 1200⟩, loadSlot := some .b } } }
    let t := (after .switchPlan s).part
    t.ps.pendingSwitch = some ⟨.a, 1⟩ ∧
      (t.sa.request.head?.map (fun r => match r with
        | .write cells _ _ => cells.map Prod.snd
        | .read _ _ _ => [])) =
        some (leBytes 4 1200 ++ List.replicate 12 0 ++ [0, 0, 0, 0, 2, 0, 0, 0]) := by
  decide +kernel

/-- The arguments of BIN CONTROL. -/
def binArgs (bin action capacity : Nat) : List Byte := byte bin ++ byte action ++ leBytes 2 capacity

/-- Bin 1 holds two parts and has one on the way. -/
def binAsked (args : List Byte) : State :=
  let s := asks (live .run .run) 6 args
  { s with part := s.part.setBin 1 { s.part.bin 1 with fired := 2, pending := 1 } }

theorem witness_BinControlChangesTheBin :
    (binAsked (binArgs 1 2 3)).part.executes 6 ∧
      (Instr.binControlCapacity, 2) ∈ [(Instr.binControlClose, 0), (.binControlOpen, 1), (.binControlCapacity, 2)] ∧
      (binAsked (binArgs 1 2 3)).tablesOk ∧ (live .run .run).part.lsq.engine ≠ .unconfigured ∧
      (∀ a ∈ [0, 1, 2, 3], (binAsked (binArgs 1 a 3)).part.arg 5 1 = a ∧
        (binAsked (binArgs 1 a 3)).part.arg 4 1 < (binAsked (binArgs 1 a 3)).part.gateCount) ∧
      (binAsked (binArgs 2 0 3)).part.gateCount ≤ (binAsked (binArgs 2 0 3)).part.arg 4 1 ∧
      (∀ v ∈ [0, 2, 3], (binAsked (binArgs 1 2 v)).part.arg 6 2 = v) :=
  ⟨⟨_, rfl, rfl, rfl⟩, by decide, by unfold State.tablesOk; decide +kernel, by decide +kernel, by decide +kernel,
    by decide +kernel, by decide +kernel⟩

theorem test_binControl :
    ((after .binControlClose (binAsked (binArgs 1 0 0))).part.bin 1).closed = .host ∧
      ((after .binControlCapacity (binAsked (binArgs 1 2 3))).part.bin 1).capacity = 3 ∧
      ((after .binControlCapacity (binAsked (binArgs 1 2 2))).part.bin 1).capacity = 3 := by
  decide +kernel

theorem test_binControlOpen_clears_misses :
    let s := binAsked (binArgs 1 1 0)
    let t := after .binControlOpen { s with part := s.part.setBin 1 { s.part.bin 1 with closed := .miss, misses := 2 } }
    (t.part.bin 1).closed = .none ∧ (t.part.bin 1).misses = 0 := by
  decide +kernel

/-- Channel 0 in the state given, and a METER RESTART of a channel. -/
def restarting (c : ChannelState) (nominal : Option Nominal) (n : Nat) : State :=
  withChannel (asks (live .hold .run) 10 (byte n)) { channel .primary c with nominal }

theorem witness_MeterRestartSetsUpTheChannel :
    (restarting .suspect (some ⟨1000, 0, 0⟩) 0).part.executes 10 ∧
      (live .hold .run).part.lsq.engine ≠ .unconfigured ∧ (live .unconfigured .none).part.lsq.engine = .unconfigured ∧
      (∀ n ∈ [0, 3, 4], (restarting .offline none n).part.arg 4 1 = n) ∧
      ((restarting .offline none 3).part.channel 3).state = .unused ∧
      (∀ c ∈ [ChannelState.online, .setup, .offline, .suspect],
        ((restarting c (some ⟨1000, 0, 0⟩) 0).part.channel 0).state = c ∧
          ((restarting c (some ⟨1000, 0, 0⟩) 0).part.channel 0).nominal ≠ none) ∧
      ((restarting .offline none 0).part.channel 0).nominal = none :=
  ⟨⟨_, rfl, rfl, rfl⟩, by decide +kernel, by decide +kernel, by decide +kernel, by decide +kernel, by decide +kernel,
    by decide +kernel⟩

theorem test_meterRestart :
    ((after (.meterRestart false) (restarting .suspect (some ⟨1000, 0, 0⟩) 0)).part.channel 0).state = .setup ∧
      ((after (.meterRestart true) (restarting .suspect (some ⟨1000, 0, 0⟩) 0)).part.channel 0).state = .offline := by
  decide +kernel

/-- The link is busy with a take's frame: the SETUP frame waits for it. -/
theorem test_meterRestart_waits_for_the_link :
    let s := restarting .suspect (some ⟨1000, 0, 0⟩) 0
    let t := after (.meterRestart false) (withChannel s { s.part.channel 0 with link := .sending (.take 7 3) })
    (t.part.channel 0).link = .sending (.take 7 3) ∧ (t.part.channel 0).setupDue = true ∧
      ((after (.meterFrameSent 0) t).part.channel 0).link = .sending (.setup 0 ⟨1000, 0, 0⟩) := by
  decide +kernel

/-- The channel goes from OFFLINE through SETUP to OFFLINE, and its status item is written all the same. -/
theorem test_meterRestart_tells_of_the_setup :
    StatusItem.channel 0 ∈
      (after (.meterRestart true) (restarting .offline (some ⟨1000, 0, 0⟩) 0)).part.sa.status.map StatusRequest.item := by
  decide +kernel

theorem witness_ThinningPortAndUnknownRequests :
    ((asks (live .idle .none) 11 [8]).part.executes 11 ∧ (asks (live .idle .none) 12 [0xFF, 0]).part.executes 12) ∧
      (∀ r ∈ [(0 : Nat), 1, 2, 3, 4, 8, 9], (asks (live .idle .none) 11 (byte r)).part.arg 4 1 = r) ∧
      (∀ v ∈ [(0xFF : Nat), 0x100], (asks (live .idle .none) 12 (leBytes 2 v)).part.arg 4 2 = v) ∧
      (live .unconfigured .none).part.lsq.engine = .unconfigured ∧
      (∀ k ∈ [(0 : Nat), 13, 255], (asks (live .idle .none) k []).part.rqx.current.map CurrentRequest.kind = some k ∧
        (k = 0 ∨ 12 < k)) :=
  ⟨⟨asks_executes _ _ _, asks_executes _ _ _⟩, by decide +kernel, by decide +kernel, by decide +kernel, by decide +kernel⟩

theorem test_setThinning_and_portWrite :
    (after .setThinning (asks (live .idle .none) 11 [8])).part.lcu.forcedRatio = 8 ∧
      (after .setThinning (asks (live .idle .none) 11 [3])).part.lcu.forcedRatio = 1 ∧
      (after .portWrite (asks (live .idle .none) 12 [0xFF, 0])).part.lsq.portLatch = 0xFF ∧
      (after .portWrite (asks (live .idle .none) 12 [0, 1])).part.lsq.portLatch = 0 := by
  decide +kernel

theorem test_unknown_ends_the_slot :
    (after .unknown (asks (live .idle .none) 13 [])).part.rqx.current = none ∧
      (after .unknown (asks (live .idle .none) 12 [])).part.rqx.current.isSome = true := by
  decide +kernel

/-! ## The same: lines, the dial, the load station, the meters, the timers, the decision -/

/-- A direct line replaced. -/
def withLine (s : State) (l : LineId) (v : Line) : State := { s with part := s.part.setLine l v }

/-- A line at a level, with a debounce time, settled or counting. -/
def line (pin stable : Bool) (ms : Nat) (d : Debounce) : Line :=
  { pin, lowActive := false, debounceMs := ms, stable, debounce := d }

theorem witness_DirectLinesAreDebounced :
    (∀ l ∈ [LineId.index, .placed, .door, .air, .loadEye, .clearEye],
      ((withLine (live .run .run) l (line false false 0 .settled)).part.lct.lines.get l).pin ≠ true ∧
        ((withLine (live .run .run) l (line false true 5 .settled)).part.lct.lines.get l).pin ≠ true ∧
        ((withLine (live .run .run) l (line true false 5 (.counting 49))).part.lct.lines.get l).debounce = .counting 49) ∧
      { line false true 5 .settled with pin := true }.raw = true ∧
      { line false false 0 .settled with pin := true }.raw ≠ (line false false 0 .settled).stable := by
  decide +kernel

theorem test_debounceElapsed :
    (after (.debounceElapsed .door) (withLine (live .run .run) .door (line true false 5 (.counting 49)))).part.lsq.engine =
        .hold ∧
      (after (.debounceElapsed .loadEye)
        (withLine (live .run .run) .loadEye (line true false 5 (.counting 49)))).part.lsq.engine = .run := by
  decide +kernel

/-- DOOR in RUN with the starvation timer running: the hold set, HOLD with its preset, the two EVENTs, no starvation
timer; in HOLD with the cause present, nothing. -/
theorem test_door_raises_its_hold :
    let s (e : EngineState) (holds : HoldCauses) : State :=
      let r := withLine (live e .run) .door (line false false 0 .settled)
      { r with part := { r.part with
          lsq := { r.part.lsq with holds }
          lct := { r.part.lct with timers := { r.part.lct.timers with starvation := .running 0xC5 3 } } } }
    let t := (after (.directLineChange .door true) (s .run HoldCauses.none)).part
    let u := after (.directLineChange .door true) (s .hold ⟨false, true, false, false⟩)
    t.lsq.engine = .hold ∧ t.lsq.holds = ⟨false, true, false, false⟩ ∧ t.lsq.portLatch = 0x0A ∧
      t.lct.timers.starvation = .stopped ∧
      t.jw.queue.map (fun r => r.body) =
        [.event (.holdCause .door .run 0), .event (.holdEntered ⟨false, true, false, false⟩ .run 0)] ∧
      u.part.jw.queue = [] ∧ u.part.lsq.engine = .hold := by
  decide +kernel

/-- The dial with the index expected, or not. -/
def indexing (e : EngineState) (mode : LotMode) (expected : Bool) : State :=
  { live e mode with part := { partIn e mode with dt := { (partIn e mode).dt with offset := 23, indexExpected := expected } } }

theorem witness_IndexTurnsTheDial :
    ∀ x ∈ [false, true], ∀ e ∈ [EngineState.unconfigured, .idle, .run, .drain, .hold, .halt],
      (indexing e .run x).part.dt.geometry = some dial ∧ (indexing e .run x).part.dt.indexExpected = x ∧
        (indexing e .run x).part.lsq.engine = e := by
  decide +kernel

theorem test_index_moves_the_dial :
    (after (.directLineChange .index true) (indexing .run .run true)).part.dt.offset = 0 ∧
      (after (.directLineChange .index true) (indexing .run .run true)).part.lsq.engine = .run ∧
      (after (.directLineChange .index true) (indexing .run .run false)).part.lsq.haltCause = .motion := by
  decide +kernel

/-- The dial in a dwell with a DEFERRED decision of pocket 7, a STARTED feed of pocket 0 and a FIRE item that is
complete. -/
def turning (e : EngineState) (expected : Bool) : State :=
  let s := holding (indexing e .run expected) 7 (.carry carried)
  { s with
    part := { s.part with
      lcu := { s.part.lcu with feed := .feeding 0 0 }
      dt := { s.part.dt with
        items := [⟨.load, 0, .started⟩, ⟨.decision, 7, .deferred⟩, ⟨.fire 0, 5, .complete⟩] } } }

/-- An index that is not expected supersedes the dwell, and then the engine halts; without a geometry there is no
dial. -/
theorem test_index_supersedes_the_dwell :
    (∀ e ∈ [EngineState.run, .drain, .hold],
      let t := (turning e false).part.index
      t.lsq.engine = .halt ∧ t.lsq.haltCause = .motion ∧ t.dt.dwell = 1 ∧ t.dt.items.length = 8 ∧
        (t.jw.queue.filterMap (fun r => match r.body with
          | .event x => some x
          | _ => none)) =
          [.dwellSkipped 0 23 1, .haltEntered .motion e 0 1]) ∧
      State.reset.part.dt.geometry = none ∧ State.reset.part.lsq.engine = .unconfigured ∧
      (after (.directLineChange .index true) State.reset).part.dt = State.reset.part.dt := by
  decide +kernel

/-- The feed of the current dwell works pocket 23, with the load eye's level, a pending switch and a sequence number. -/
def feeding (eye : Bool) (next : Nat) : State :=
  let s := withLine (live .run .run) .loadEye (line eye eye 0 .settled)
  { s with
    part := { s.part with
      lcu := { s.part.lcu with feed := .feeding 23 0, nextSequence := next }
      ps := { s.part.ps with pendingSwitch := some ⟨.b, 6⟩ } } }

/-- The load item of pocket 5, with the load eye's level, the pocket and the pending reservation set. -/
def loading (e : EngineState) (eye : Bool) (pocket : Pocket) (owed : MeterSet) : Machine.Part :=
  let s := withLine (holding (live e .run) 5 pocket) .loadEye (line eye eye 0 .settled)
  { s.part with lcu := { s.part.lcu with pendingSet := owed } }

/-- The cases of a LOAD item, and a feed of an earlier dwell. -/
theorem witness_PlacedLoadsThePart_items :
    (∀ x ∈ [loading .run true .vacant MeterSet.empty, loading .drain false .vacant MeterSet.empty,
        loading .run false .vacant MeterSet.empty, loading .run false .vacant ⟨true, false, false, false⟩],
      x.lcu.feed = .idle ∧ x.pocket 5 = .vacant) ∧
      (loading .run false .stray MeterSet.empty).pocket 5 ≠ .vacant ∧
      (∀ owed ∈ [MeterSet.empty, ⟨true, false, false, false⟩],
        let x := loading .run false .vacant owed
        x.lsq.engine = .run ∧ max x.lcu.forcedRatio x.jw.level ≤ x.lcu.thinning + 1 ∧ x.lcu.nextSequence ≠ 0 ∧
          (∀ m, (x.rsc.get m).urgency ≠ .limit) ∧ x.lct.lines.loadEye.stable = false ∧
          x.lcu.intervals = some ⟨0x82, 0x43, 0xC5⟩) ∧
      (loading .drain false .vacant MeterSet.empty).lsq.engine ≠ .run ∧
      (loading .run false .vacant ⟨true, false, false, false⟩).lcu.pendingSet.get 0 = true ∧
      (feeding true 5).part.lcu.feed = .feeding 23 0 ∧
      0 ≠ ({ (feeding true 5).part with dt := { (feeding true 5).part.dt with dwell := 1 } } : Machine.Part).dt.dwell := by
  decide +kernel

theorem test_load_items :
    let item : Item := { kind := .load, pocket := 5, state := .started }
    ((loading .run false .vacant MeterSet.empty).startItem item).lcu.feed = .feeding 5 0 ∧
      ((loading .run true .vacant MeterSet.empty).startItem item).pocket 5 = .stray ∧
      ((loading .run false .vacant ⟨true, false, false, false⟩).startItem item).pocket 5 =
        .reserved ⟨true, false, false, false⟩ ∧
      ((loading .drain false .vacant MeterSet.empty).startItem item).lcu.feed = .idle := by
  decide +kernel

theorem witness_PlacedLoadsThePart :
    (∀ n ∈ [5, 6, 4294967295], (feeding true n).part.lcu.feed = .feeding 23 (feeding true n).part.dt.dwell ∧
      23 < (feeding true n).part.dt.pockets.length ∧ (feeding true n).part.lct.lines.loadEye.stable = true ∧
      (feeding true n).part.ps.pendingSwitch = some ⟨.b, 6⟩) ∧
      (feeding false 5).part.lct.lines.loadEye.stable = false ∧ (live .run .run).part.lcu.feed = .idle := by
  decide +kernel

theorem test_placed_loads :
    (feeding true 5).part.placed.lcu.nextSequence = 6 ∧ (feeding true 6).part.placed.ps.loadSlot = some .b ∧
      (feeding true 4294967295).part.placed.lcu.nextSequence = 0 ∧ (feeding false 5).part.placed.lcu.counters.loadLoss = 1 ∧
      (feeding true 5).part.placed.lct.timers.starvation = .running 0xC5 (IntervalCode.units 0xC5) ∧
      (feeding false 5).part.placed.lct.timers.starvation = .stopped := by
  decide +kernel

theorem witness_SensorScanMovesTheTubes : (live .run .run).tablesOk ∧ 1 < (live .run .run).part.gateCount :=
  ⟨by unfold State.tablesOk; decide +kernel, by decide +kernel⟩

theorem test_sensorScan_inserts_a_tube :
    ((after (.sensorScan 1) (live .run .run)).part.bin 0).tubeNumber = 2 ∧
      ((after (.sensorScan 1) (live .run .run)).part.bin 1).tubeNumber = 1 := by
  decide +kernel

/-- Channel 0 in a state, with a tag queue and a link. -/
def metering (c : ChannelState) (queue : List Tag) (link : Link) : State :=
  let setup : Option SetupWork := if c = .setup then some ⟨3, .offline, .meterRestart⟩ else none
  withChannel (asks (live .hold .run) 10 [0])
    { channel .primary c with state := c, queue, link, setup }

theorem witness_MeterEdgesActByTheState :
    (∀ c ∈ [ChannelState.online, .suspect],
      ((metering c [tag .converting, tag .sent] .idle).part.channel 0).state = c ∧
        ((metering c [tag .converting, tag .sent] .idle).part.channel 0).queue = [tag .converting] ++ tag .sent :: [] ∧
        (∀ x ∈ [tag .converting], x.stage ≠ .sent) ∧
        ((metering c [tag .acquiring] .idle).part.channel 0).queue = [] ++ tag .acquiring :: [] ∧
        (∀ x ∈ ((metering c [tag .acquiring] .idle).part.channel 0).queue, x.stage ≠ .sent)) ∧
      ((metering .setup [] .idle).part.channel 0).setup = some ⟨3, .offline, .meterRestart⟩ ∧
      ((metering .offline [] .idle).part.channel 0).state = .offline ∧
      ((metering .unused [] .idle).part.channel 0).state = .unused := by
  decide +kernel

theorem test_acq_edges :
    ((after (.acqRise 0) (metering .online [tag .sent] .idle)).part.channel 0).queue = [tag .acquiring] ∧
      ((after (.acqFall 0) (metering .online [tag .acquiring] .idle)).part.channel 0).queue = [tag .converting] ∧
      ((after (.acqRise 0) (metering .online [tag .converting] .idle)).part.channel 0).state = .offline := by
  decide +kernel

theorem test_rdy_and_flt :
    ((after (.rdyRise 0) (metering .online [] .idle)).part.channel 0).link = .receiving false ∧
      ((after (.rdyRise 0) (metering .online [] (.sending (.take 7 3)))).part.channel 0).rememberedRdy = true ∧
      (after (.fltRise 0) (metering .online [] .idle)).part.lsq.holds.meter = true := by
  decide +kernel

/-- Channel 0 with tags, a pending product take of pocket 5, its TAKE item STARTED, and a RESERVED take on the meter's
list. -/
def outstanding (s : State) (c : ChannelState) (queue : List Tag) : State :=
  let waiting : PartRecord := { carried with readings := [⟨0, none, .pending, none, false⟩] }
  let r := holding (holding s 7 (.carry carried)) 5 (.carry waiting)
  let p := (r.part.setPocket 8 (.routed carried (sorted 1))).setRef 0 { meterRef with cover := .issued, refs := [⟨9, .reserved, 1⟩] }
  { r with
    part := { p.setChannel 0 { channel .primary c with queue, pendingTake := some ⟨.take, 5, 0⟩ } with
      dt := { p.dt with items := [⟨.take 0, 5, .started⟩, ⟨.take 1, 3, .started⟩] } } }

/-- What `outstanding` has become: the entries of pockets 7, 8 and 5, the two counts, the meter, and the items. -/
structure Outcomes where
  entries : List (Option ReadingStatus)
  late : Nat
  stale : Nat
  cover : Cover
  refs : Nat
  items : List ItemState
  deriving DecidableEq, Repr

/-- The outcomes of the work of channel 0. -/
def faultedWork (p : Machine.Part) : Outcomes :=
  { entries := [7, 8, 5].map (fun k => ((p.pocket k).entry 0).map Reading.status)
    late := p.lcu.counters.lateReadings, stale := p.lcu.counters.staleReports, cover := (p.rsc.get 0).cover
    refs := (p.rsc.get 0).refs.length, items := p.dt.items.map Item.state }

/-- A reading that fits, one that is late, one that is stale, a reference, and the pending take, at a failure. -/
theorem test_failure_faults_the_outstanding_work :
    let t (queue : List Tag) := (after (.fltRise 0) (outstanding (live .run .run) .online queue)).part
    let refer : Tag := { tag .sent with kind := .refer, pocket := 9 }
    faultedWork (t [tag .converting, refer]) =
        ⟨[some .fault, some .good, some .fault], 0, 0, .none, 0, [.complete, .started]⟩ ∧
      faultedWork (t [{ tag .sent with pocket := 8 }, { tag .sent with serial := 4 }]) =
        ⟨[some .good, some .fault, some .fault], 1, 1, .issued, 1, [.complete, .started]⟩ ∧
      (t [tag .converting, refer]).jw.queue.map (fun r => r.body) =
        [.check 0 9 .reserved .fault .none 5 5 none, .event (.channelOffline 0 .flt 2 0),
          .event (.holdCause .meter .run 0), .event (.holdEntered ⟨false, false, false, true⟩ .run 0)] := by
  decide +kernel

/-- The same as a METER RESTART and a START LOT enter SETUP. -/
theorem test_setups_fault_the_outstanding_work :
    let refer : Tag := { tag .sent with kind := .refer, pocket := 9 }
    let restart := after (.meterRestart false)
      (outstanding (asks (live .run .run) 10 [0]) .suspect [tag .converting, refer])
    let start := after (.startLot (flt false))
      (outstanding (asks (live .idle .none) 1 (lotArgs 5 7 15 1 0xFFFFFFFF)) .online [tag .converting, refer])
    faultedWork restart.part = ⟨[some .fault, some .good, some .fault], 0, 0, .none, 0, [.complete, .started]⟩ ∧
      faultedWork start.part = ⟨[some .fault, some .good, some .fault], 0, 0, .none, 0, [.complete, .complete]⟩ ∧
      (restart.part.channel 0).state = .setup ∧ (start.part.channel 2).state = .setup := by
  decide +kernel

/-- A pending take of pocket 7 on an idle channel, the pocket as given. -/
def pendingTake (kind : TakeKind) (pocket : Pocket) : State :=
  holding (withChannel (live .run .run) { channel .primary .online with pendingTake := some ⟨kind, 7, 0⟩ }) 7 pocket

theorem witness_TakesAreSentWhenTheyMay :
    (∀ f ∈ [Frame.take 7 3, .refer 7 3, .setup 3 ⟨1000, 0, 0⟩],
      ((metering .online [tag .sent] (.sending f)).part.channel 0).link = .sending f ∧
        ((metering .setup [] (.sending f)).part.channel 0).link = .sending f) ∧
      (∀ x ∈ [(TakeKind.take, Pocket.carry carried), (.take, .vacant), (.refer, .reserved ⟨true, true, false, false⟩)],
        let c := (pendingTake x.1 x.2).part.channel 0
        c.pendingTake = some ⟨x.1, 7, 0⟩ ∧ c.state = .online ∧ c.acq = false ∧ c.queue.length < 2 ∧
          (∀ y ∈ c.queue, y.stage = .converting) ∧ c.link = .idle) := by
  decide +kernel

/-- The take item of channel 0 on pocket 5, with the channel and the meter's urgency. -/
def taking (c : Channel) (u : Urgency) (pocket : Pocket) : Machine.Part :=
  let s := holding (withChannel (live .run .run) c) 5 pocket
  s.part.setRef 0 { meterRef with urgency := u }

/-- The cases of a TAKE item, and a pending take that a skipped one withdraws. -/
theorem witness_TakesAreSentWhenTheyMay_items :
    (let c := channel .primary .online
     c.state = .online ∧ c.role = .primary ∧ c.acq = false ∧ c.queue = [] ∧ c.link = .idle) ∧
      ((taking (channel .primary .online) .current (.carry carried)).pocket 5).isCarry = true ∧
      (∀ u ∈ [Urgency.current, .limit], ((taking (channel .primary .online) u (.carry carried)).rsc.get 0).urgency = u) ∧
      (channel .primary .offline).state ≠ .online ∧ ({ channel .primary .online with acq := true }).acq ≠ false ∧
      (taking (channel .primary .online) .due .vacant).pocket 5 = .vacant ∧
      (∃ set : MeterSet, (taking (channel .primary .online) .current
        (.reserved ⟨true, false, false, false⟩)).pocket 5 = .reserved set ∧ set.get 0 = true) ∧
      ((taking (channel .primary .online) .due .stray).pocket 5).isCarry = false ∧
      (taking (channel .primary .online) .due .vacant).mc.takeTimeout = some 0x85 ∧
      ((pendingTake .take (.carry carried)).part.channel 0).pendingTake = some ⟨.take, 7, 0⟩ := by
  refine ⟨by decide +kernel, by decide +kernel, by decide +kernel, by decide +kernel, by decide +kernel, by decide +kernel,
    ⟨⟨true, false, false, false⟩, ?_⟩, ?_⟩ <;> decide +kernel

theorem test_take_items :
    let item : Item := { kind := .take 0, pocket := 5, state := .started }
    (((taking (channel .primary .online) .current (.carry carried)).startItem item).channel 0).link =
        .sending (.take 5 0) ∧
      (((taking { channel .primary .online with acq := true } .due .vacant).startItem item).channel 0).pendingTake =
        some ⟨.refer, 5, 0⟩ ∧
      ((Part.skipItem 0 (pendingTake .take (.carry carried)).part item).channel 0).pendingTake = none := by
  decide +kernel

theorem test_pendingTakeSent :
    ((after (.pendingTakeSent 0) (pendingTake .take (.carry carried))).part.channel 0).link = .sending (.take 7 0) ∧
      ((after (.pendingTakeSent 0) (pendingTake .take .vacant)).part.channel 0).pendingTake = none := by
  decide +kernel

/-- The take that brings the meter to FORCED has it owed to the LCU, unless a cover is on its way. -/
theorem test_pendingTakeSent_owes_a_reference :
    let t (cover : Cover) :=
      let s := pendingTake .take (.carry carried)
      (after (.pendingTakeSent 0) { s with part := s.part.setRef 0 { meterRef with count := 19, cover } }).part
    ((t .none).rsc.get 0).cover = .pending ∧ (t .none).lcu.pendingSet.get 0 = true ∧ ((t .none).rsc.get 0).count = 20 ∧
      ((t .issued).rsc.get 0).cover = .issued ∧ (t .issued).lcu.pendingSet.get 0 = false := by
  decide +kernel

theorem test_meterFrameSent_starts_the_timer :
    (after (.meterFrameSent 0) (metering .online [tag .sent] (.sending (.take 7 3)))).part.lct.timers.take.get 0 =
        .running 0x85 500 ∧
      (after (.meterFrameSent 0) (metering .online [tag .converting] (.sending (.take 7 3)))).part.lct.timers.take.get 0 =
        .stopped := by
  decide +kernel

theorem witness_ReportsAreTestedInOrder :
    (∀ d ∈ [false, true], ((metering .online [tag .converting] (.receiving d)).part.channel 0).link = .receiving d) ∧
      (byteSum (reportFrame 2 7 3 0 9999999) = 0 ∧ byteSum (List.replicate 10 1) ≠ 0) ∧
      (fieldAt (reportFrame 2 7 3 3 0) 4 1 = 3 ∧ (signedAt (reportFrame 2 7 3 0 10000000) 5).natAbs = 10000000) ∧
      ((metering .suspect [tag .sent] (.receiving false)).part.channel 0).queue = [tag .sent] ∧
      ((metering .setup [] (.receiving false)).part.channel 0).setup = some ⟨3, .offline, .meterRestart⟩ := by
  decide +kernel

theorem test_report_tests :
    ((after (.report 0 (reportFrame 2 7 3 0 9999999)) (metering .online [tag .converting] (.receiving false))).part.channel
        0).state = .online ∧
      ((after (.report 0 (reportFrame 2 7 3 0 10000000)) (metering .online [tag .converting] (.receiving false))).part.channel
        0).state = .offline := by
  decide +kernel

theorem test_report_of_a_setup :
    ((after (.report 0 (reportFrame 1 255 3 0 0)) (metering .setup [] (.receiving false))).part.channel 0).state = .online ∧
      ((after (.report 0 (reportFrame 1 255 3 1 0)) (metering .setup [] (.receiving false))).part.channel 0).state =
        .offline := by
  decide +kernel

/-- The last setup of a START LOT under way on channel 0, whose meter stands at FORCED with the cover given. -/
def settingUp (before : ChannelState) (cover : Cover) : State :=
  let s := opening (.setups none ⟨none, some .online, some .online, none⟩)
  let q := (s.part.setRef 0 { meterRef with count := 25, urgency := .forced, cover }).setChannel 0
    { channel .primary .setup with link := .receiving false, setup := some ⟨3, before, .startLot⟩ }
  { s with part := q }

theorem witness_ReportsAreTestedInOrder_setups :
    ∀ before ∈ [ChannelState.online, .offline],
      let s := settingUp before .none
      (s.part.channel 0).link = .receiving false ∧ (s.part.channel 0).state = .setup ∧
        (s.part.channel 0).setup = some ⟨3, before, .startLot⟩ ∧
        s.part.lsq.startLot.map StartLotWork.phase = some (.setups none ⟨none, some .online, some .online, none⟩) ∧
        (s.part.rsc.get 0).thresholds = some ⟨10, 20, 30, 500⟩ := by
  decide +kernel

theorem test_report_of_a_setup_for_start_lot :
    let t (before : ChannelState) := (after (.report 0 (reportFrame 1 255 3 0 0)) (settingUp before .none)).part
    (t .online).lsq.startLot.map StartLotWork.phase =
        some (.setups none ⟨some .online, some .online, some .online, none⟩) ∧
      ((t .online).rsc.get 0).count = 25 ∧ ((t .offline).rsc.get 0).count = 30 ∧
      ((t .offline).rsc.get 0).cover = .pending ∧ (t .offline).lcu.pendingSet.get 0 = true := by
  decide +kernel

/-- A REFER tag at the head, and its entry in the scheduler. -/
def referring : State :=
  let s := metering .online [{ tag .converting with kind := .refer }] (.receiving false)
  { s with part := s.part.setRef 0 { meterRef with refs := [⟨7, .reserved, 1⟩] } }

theorem witness_AcceptedReportsAnswerTheHeadTag :
    (∀ v ∈ [(0, ReadingStatus.good), (1, .over), (2, .opened)], ∀ d ∈ [(500 : Int), 501, -9999999],
      let f := reportFrame 2 7 3 v.1 d
      byteSum f = 0 ∧ fieldAt f 0 1 = 2 ∧ fieldAt f 1 1 = 7 ∧ fieldAt f 2 2 = 3 ∧
        (fieldAt f 4 1, v.2) ∈ [(0, ReadingStatus.good), (1, .over), (2, .opened)] ∧ (signedAt f 5).natAbs ≤ 9999999) ∧
      ((metering .suspect [tag .converting] (.receiving false)).part.channel 0).queue = tag .converting :: [] ∧
      (((holding (live .run .run) 7 (.carry carried)).part.pocket 7).entry 0).map Reading.serial = some (some 3) ∧
      ((referring.part.rsc.get 0).refs = [⟨7, .reserved, 1⟩] ∧ (referring.part.rsc.get 0).thresholds = meterRef.thresholds) := by
  decide +kernel

/-- The head entry of `referring`, with the meter's count and cover, and a pending take of pocket 5. -/
def judging (count : Nat) (cover : Cover) : State :=
  let s := holding referring 5 (.carry carried)
  let p := s.part.setRef 0 { meterRef with count, urgency := .forced, cover, refs := [⟨7, .reserved, 22⟩] }
  { s with
    part := { p.setChannel 0 { p.channel 0 with pendingTake := some ⟨.take, 5, 0⟩ } with
      lcu := { p.lcu with pendingSet := if cover = .pending then ⟨true, false, false, false⟩ else MeterSet.empty } } }

theorem witness_AcceptedReportsAnswerTheHeadTag_covers :
    (∀ cover ∈ [Cover.issued, .pending, .placed, .none],
      let s := judging 25 cover
      (s.part.rsc.get 0).refs = [⟨7, .reserved, 22⟩] ∧ (s.part.rsc.get 0).cover = cover ∧
        (s.part.channel 0).queue = [{ tag .converting with kind := .refer }] ∧
        (s.part.channel 0).pendingTake = some ⟨.take, 5, 0⟩ ∧ (s.part.channel 0).role = .primary) ∧
      ∀ x ∈ [Pocket.carry carried, .routed carried (sorted 1), .spent carried (sorted 1) 1],
        ((holding (metering .online [tag .converting] (.receiving false)) 7 x).part.pocket 7) = x := by
  decide +kernel

/-- A pass at 22 takes since leaves the meter FORCED and so owed anew; a failure frees the cover and no more. -/
theorem test_report_moves_the_cover :
    let pass (cover : Cover) := (after (.report 0 (reportFrame 3 7 3 0 500)) (judging 25 cover)).part
    let fails := (after (.report 0 (reportFrame 3 7 3 0 501)) (judging 25 .issued)).part
    ((pass .issued).rsc.get 0).cover = .pending ∧ (pass .issued).lcu.pendingSet.get 0 = true ∧
      ((pass .placed).rsc.get 0).cover = .placed ∧ ((pass .issued).rsc.get 0).urgency = .forced ∧
      (fails.rsc.get 0).cover = .none ∧ (fails.channel 0).pendingTake = none ∧ fails.lsq.holds.meter = true := by
  decide +kernel

theorem test_report_keeps_the_route :
    (after (.report 0 (reportFrame 2 7 3 0 500))
        (holding (metering .online [tag .converting] (.receiving false)) 7 (.routed carried (sorted 1)))).part.pocket 7 =
      .routed
        { carried with
          readings := [⟨0, some 3, .good, some 500, true⟩, ⟨1, some 2, .over, none, false⟩,
            ⟨2, none, .pending, none, false⟩] }
        (sorted 1) := by
  decide +kernel

theorem test_report_judges_a_reference :
    ((after (.report 0 (reportFrame 3 7 3 0 500)) referring).part.channel 0).state = .online ∧
      ((after (.report 0 (reportFrame 3 7 3 0 501)) referring).part.channel 0).state = .suspect ∧
      ((after (.report 0 (reportFrame 3 7 3 0 500)) referring).part.rsc.get 0).count = 1 := by
  decide +kernel

/-- Every timer runs; a feed of pocket 5 and a catch pulse are under way; gate 1 fires into pocket 5's tube. -/
def timed (e : EngineState) : State :=
  let s := holding (live e .run) 5 (.routed carried (sorted 1))
  { s with
    part := { s.part with
      lcu := { s.part.lcu with feed := .feeding 5 0, clearJet := .pulsing 0 true }
      gbt := { s.part.gbt with pulses := s.part.gbt.pulses.set 1 (.pulsing 5 1 0 true) }
      lct := { s.part.lct with
        timers := { jam := .running 0x41 0, feed := .running 0x82 0, clearJet := .running 0x43 0,
                    starvation := .running 0xC5 0, age := .running 0xC5 0, take := Four.const (.running 0x85 0),
                    pulse := List.replicate 32 (.running 0x43 0) } } } }

theorem witness_ExpiriesDoTheirWork :
    let t := (timed .hold).part.lct.timers
    (t.jam ≠ .stopped ∧ t.feed ≠ .stopped ∧ t.clearJet ≠ .stopped ∧ t.starvation ≠ .stopped ∧ t.age ≠ .stopped ∧
      t.take.get 3 ≠ .stopped ∧ t.pulse.getD 1 .stopped ≠ .stopped) ∧
      (timed .hold).part.lsq.engine = .hold ∧ (timed .hold).part.lcu.feed = .feeding 5 (timed .hold).part.dt.dwell ∧
      (timed .hold).part.lcu.clearJet = .pulsing (timed .hold).part.dt.dwell true ∧ (timed .hold).part.jw.waiting = [] ∧
      ((timed .hold).part.channel 0).state = .online ∧ ((timed .hold).part.channel 3).state = .unused ∧
      ((metering .setup [] .idle).part.channel 0).setup = some ⟨3, .offline, .meterRestart⟩ ∧
      (timed .hold).part.pulse 1 = .pulsing 5 1 0 true ∧
      (timed .hold).part.pocket 5 = .routed carried (sorted 1) ∧ Memory.wf (timed .hold).store = true := by
  decide +kernel

theorem witness_ExpiriesDoTheirWork_tables : (timed .hold).tablesOk := by unfold State.tablesOk; decide +kernel

/-- Pocket 5 before the clear station, with the clear eye's level. -/
def clearing (eye : Bool) (pocket : Pocket) : Machine.Part :=
  (withLine (holding (live .run .run) 5 pocket) .clearEye (line eye eye 0 .settled)).part

/-- The cases of a FIRE item and of a CLEAR item, and a feed of an earlier dwell. -/
theorem witness_ExpiriesDoTheirWork_items :
    (let p := (timed .run).part
     1 < p.gbt.bins.length ∧ 1 < p.gbt.pulses.length ∧ (p.pocket 5).routedTo 1 = true ∧ (p.pocket 6).routedTo 1 = false ∧
      p.pulse 1 = .pulsing 5 1 0 true ∧ p.pulse 0 = .idle ∧ (p.bin 1).tube = true ∧ (p.bin 1).closed = .none ∧
      (p.bin 1).full = .clear ∧ ((p.setBin 1 { p.bin 1 with tube := false }).bin 1).tube ≠ true ∧
      p.gbt.items = some ⟨0x43, 3, 2, 3⟩) ∧
      (∀ eye ∈ [false, true], ∀ k ∈ [Pocket.vacant, .stray, .carry carried, .reserved ⟨true, false, false, false⟩,
          .routed carried (sorted 1), .spent carried (sorted 1) 1],
        (clearing eye k).lct.lines.clearEye.stable = eye ∧ (clearing eye k).pocket 5 = k) ∧
      (clearing true .vacant).lcu.intervals = some ⟨0x82, 0x43, 0xC5⟩ ∧
      (clearing true .vacant).lcu.clearJet ≠ .pulsing (clearing true .vacant).dt.dwell true ∧
      (timed .run).part.lcu.feed = .feeding 5 0 ∧
      0 ≠ ({ (timed .run).part with dt := { (timed .run).part.dt with dwell := 1 } } : Machine.Part).dt.dwell := by
  decide +kernel

theorem test_fire_items :
    let fire (b : BinEntry) := ((holding (live .run .run) 5 (.routed carried (sorted 0))).part.setBin 0 b).startItem
      { kind := .fire 0, pocket := 5, state := .started }
    let b := (live .run .run).part.bin 0
    (fire b).pulse 0 = .pulsing 5 1 0 true ∧
      (fire { b with tube := false, pending := 1 }).pocket 5 =
        .routed carried { row := some 0, route := .gate 1, reason := .rerouted } := by
  decide +kernel

/-- A part in CARRY at the clear station leaves its record, and the counters hold together. -/
theorem test_clear_items :
    let clear (eye : Bool) (k : Pocket) := (clearing eye k).startItem { kind := .clear, pocket := 5, state := .started }
    (clear true (.carry carried)).lcu.counters.caught = 1 ∧ (clear false (.carry carried)).lcu.counters.lost = 1 ∧
      ((clear false (.carry carried)).jw.queue.map (fun r => r.body.kind)) = [1] ∧
      (clear false (.spent carried (sorted 1) 1)).lcu.counters.ejected = 1 ∧
      ((clear true (.spent carried (sorted 1) 1)).bin 1).misses = 1 ∧ (clear true .vacant).lcu.clearJet = .pulsing 0 true := by
  decide +kernel

theorem test_expiries :
    (after .jamTimerExpiry (timed .run)).part.lsq.haltCause = .jam ∧ (after .feedTimerExpiry (timed .run)).part.lcu.feed = .idle ∧
      (after .catchTimerExpiry (timed .run)).part.lcu.clearJet = .idle ∧
      (after .ageTimerExpiry (timed .run)).part.lct.timers.age = .stopped := by
  decide +kernel

theorem test_pulse_and_take_expiries :
    (after (.pulseTimerExpiry 1) (timed .run)).part.pocket 5 = .spent carried (sorted 1) 1 ∧
      ((after (.pulseTimerExpiry 1) (timed .run)).part.bin 1).fired = 1 ∧
      ((after (.takeTimerExpiry 0) (timed .run)).part.channel 0).state = .offline ∧
      (after .starvationTimerExpiry (timed .run)).part.lct.timers.starvation = .stopped := by
  decide +kernel

/-- A reading of a station. -/
def entry (m : Meter) (v : ReadingStatus) (d : Option Int) : Reading := ⟨m, some 3, v, d, false⟩

theorem witness_DecisionReadsWalksAndClaims :
    let rs := [entry 0 .good (some 500), entry 1 .good (some 480), entry 2 .over none]
    let row : PlanRow := { low := -500, high := 500, target := 0, alternates := [1] }
    baseReading ((partIn .run .run).entryOfRole rs .primary) ((partIn .run .run).entryOfRole rs .backup) = .measured 500 ∧
      wantedRow 500 plan.rows 0 = some (0, row) ∧ wantedRow (-500) plan.rows 0 = some (0, row) ∧
      wantedRow 501 plan.rows 0 = none ∧
      ((partIn .run .run).bin 1).tube = true ∧ ((partIn .run .run).bin 1).fired < ((partIn .run .run).bin 1).capacity ∧
      (holding (live .run .run) 5 (.carry carried)).part.pocket 5 = .carry carried ∧
      (partIn .run .run).planOf .a = some plan := by
  decide +kernel

/-- The branches of the decision: no base reading, one over range, and the spread check with its SECOND reading. -/
theorem witness_DecisionReadsWalksAndClaims_branches :
    let p := partIn .run .run
    let checked : Plan := { plan with spreadCheck := true, spreadLimit := 20 }
    let reads (second : ReadingStatus) (d : Int) : List Reading :=
      [entry 0 .good (some 500), entry 1 second (some d), entry 2 .over none]
    baseReading (p.entryOfRole [entry 0 .fault none] .primary) (p.entryOfRole [entry 0 .fault none] .backup) = .none ∧
      baseReading (p.entryOfRole [entry 0 .over none] .primary) (p.entryOfRole [entry 0 .over none] .backup) =
        .overRange ∧
      p.dt.geometry = some dial ∧ dial.withRole .second ≠ none ∧ checked.spreadCheck = true ∧
      (∀ d ∈ [(480 : Int), 520, 479, 521],
        ((p.entryOfRole (reads .good d) .second).map Reading.deviation) = some (some d)) ∧
      ((480 : Int) - 500).natAbs ≤ checked.spreadLimit ∧ checked.spreadLimit < ((479 : Int) - 500).natAbs ∧
      ((p.entryOfRole (reads .fault 0) .second).map Reading.status) = some .fault ∧
      (holding (live .run .run) 5 .vacant).part.pocket 5 = .vacant := by
  decide +kernel

theorem test_decisions :
    let p := partIn .run .run
    let checked : Plan := { plan with spreadCheck := true, spreadLimit := 20, spread := some 1 }
    let decides (plan : Plan) (rs : List Reading) : Routing := (p.decision plan rs).2
    decides plan [entry 0 .good (some 500)] = { row := some 0, route := .gate 0, reason := .sorted } ∧
      decides plan [entry 0 .good (some 501)] = { row := none, route := .gate 1, reason := .reject } ∧
      decides plan [entry 0 .fault none] = { row := none, route := .toCatch, reason := .fail } ∧
      decides checked [entry 0 .good (some 500), entry 1 .good (some 479)] =
        { row := none, route := .gate 1, reason := .spread } := by
  decide +kernel

theorem test_base_readings :
    baseReading (some (entry 0 .good (some 7))) none = .measured 7 ∧
      baseReading (some (entry 0 .over none)) (some (entry 2 .good (some 8))) = .measured 8 ∧
      baseReading (some (entry 0 .opened none)) (some (entry 2 .over none)) = .overRange ∧
      baseReading (some (entry 0 .fault none)) none = .none := by
  decide

theorem test_routeClaim_takes_the_first_that_can :
    let p := (partIn .run .run).setBin 0 { BinEntry.reset with tube := true, capacity := 3, fired := 2, pending := 1 }
    (p.routeClaim [0, 1]).2 = some (1, 1) ∧ (p.routeClaim [0]).2 = none ∧ ((p.routeClaim [0, 1]).1.bin 1).pending = 1 := by
  decide +kernel

theorem witness_CommandsOutOfPlaceChangeNothing :
    State.reset.part.rqx.current = none ∧ State.reset.part.lsq.startLot = none ∧ State.reset.part.cfg.work = .none ∧
      State.reset.part.jw.queue = [] ∧ State.reset.hp.draining = false ∧
      (withQueues State.reset Sa.empty).choice = none ∧
      (State.reset.part.lct.lines.get .door).debounce = .settled ∧ (State.reset.part.channel 0).link = .idle ∧
      State.reset.part.lct.timers.pulse.getD 31 .stopped = .stopped ∧ (cycling (.read 0x600) false).hp.cycle ≠ .none := by
  decide +kernel

/-! ## The remaining commands of the host and of the store -/

theorem test_registers_at_reset :
    State.reset.readRegister 0x0000 = 0x3240 ∧ State.reset.readRegister 0x0007 = 0x0001 ∧
      (live .halt .run).readRegister 0x0002 = 0x0005 := by
  decide +kernel

/-- Every output from the state; a gate that the geometry does not have stays low. -/
theorem test_outputs :
    let p := (feeding true 5).part
    let r := metering .online [] (.receiving false)
    p.feedLine = true ∧ (live .run .run).part.feedLine = false ∧ permitted.part.permitLine = true ∧
      (timed .run).part.gateLine 1 = true ∧ (timed .run).part.gateLine 0 = false ∧
      ({ (timed .run).part with
          gbt := { (timed .run).part.gbt with pulses := (timed .run).part.gbt.pulses.set 2 (.pulsing 5 1 0 true) } } :
        Machine.Part).gateLine 2 = false ∧
      (timed .run).part.catchLine = true ∧ (r.part.trigLine 0, r.part.ldatDriven 0) = (true, false) ∧
      (r.part.lclkLine 0, r.part.lclkLine 1) = (.pulsing, .low) ∧
      (metering .online [] (.sending (.take 7 3))).part.ldatDriven 0 = true := by
  decide +kernel

theorem test_reset_holds_no_configuration :
    let p := State.reset.part
    p.lcu.intervals = none ∧ p.mc.takeTimeout = none ∧ p.gbt.items = none ∧ p.jw.waiting = [] ∧ p.rqx.reading = none ∧
      p.lsq.startLot = none ∧ p.cfg.work = .none ∧ p.cfg.failing = none ∧ (p.channel 3).link = .idle ∧
      (p.channel 0).setupDue = false ∧ State.reset.hp.cycle = .none ∧ State.reset.hp.draining = false ∧
      (∀ r ∈ p.sa.status, r.holdsRead = false) := by
  decide +kernel

theorem test_attention :
    (after (.attnEnableWrite 0xFFFE) State.reset).part.attn.enable = 0x7F ∧
      (after (.attnCauseWrite 0x0001) { State.reset with part := State.reset.part.latch .halt }).part.attn.cause = 0 := by
  decide +kernel

theorem test_apertureWrite : (after (.apertureWrite 2 0xFFFF) State.reset).readRegister 0x000C = 0x807F := by
  decide +kernel

theorem test_hostStoreWrite_fifth_waits :
    (after (.hostStoreWrite 0x0600 7) (posted 4 false)).hp.cycle = .write 0x0600 7 ∧
      (after (.hostStoreWrite 0x0600 7) (posted 3 false)).hp.buffer.length = 4 := by
  decide +kernel

theorem test_hostStoreRead :
    (after (.hostStoreRead 0x4000) (posted 0 false)).hp.data = 0xFFFF ∧
      (after (.hostStoreRead 0x0601) (posted 0 false)).hp.cycle = .read 0x600 := by
  decide +kernel

theorem test_resets :
    (after .softReset (posted 1 false)).hp.draining = true ∧
      (after .softResetDrainEnd (after .softReset (posted 0 false))).part.sa.status.length = 51 ∧
      (after .powerOnReset (posted 3 false)).hp.buffer = [] := by
  decide +kernel

theorem test_configure :
    (after .configure State.reset).part.sa.bulk.length = 5 ∧
      (after .configure (live .run .run)).part.cfg.result = .state ∧
      (after .configureHeldTaken (configuring (live .idle .none) .held)).part.cfg.work = .reading [] := by
  decide +kernel

theorem test_endLot_parks :
    (after .endLot (asks (live .run .run) 2 [])).part.lsq.parked = some ⟨.endLot, 0⟩ ∧
      (after .endLot (asks (live .run .run) 2 [])).part.lsq.engine = .drain := by
  decide +kernel

theorem test_plan_requests :
    (after .stagePlan (asks (live .idle .none) 4 (slotArgs 2 0x1FFFE0))).part.ps.staging = some ⟨.b, 0x1FFFE0, []⟩ ∧
      (after .switchPlan (asks (live .run .run) 5 (slotArgs 1 1))).part.ps.pendingSwitch = none := by
  decide +kernel

theorem test_contextReadDone :
    (after (.contextReadDone (flt false))
        (opening (.context (LotContext.mk 5 6 LotCounters.zero .endLot).bytes))).part.lsq.startLot.isSome = true ∧
      (after (.contextReadDone (flt false))
        (opening (.context (LotContext.mk 4 6 LotCounters.zero .endLot).bytes))).part.lsq.startLot = none := by
  decide +kernel

end Sys2Proof.Tests
end

section
/-! What raising a hold cause does (R142, R143): its two forms, its frame, the timers and the EVENTs; and from
that what a HOLD request does (R144). -/

namespace Sys2Proof.Machine

/-! ## Engine states and hold causes -/

theorem EngineState.inLot_iff (e : EngineState) :
    e.inLot = true ↔ e = .run ∨ e = .drain ∨ e = .hold ∨ e = .halt := by
  cases e <;> decide

theorem EngineState.not_inLot_iff (e : EngineState) : e.inLot = false ↔ e = .unconfigured ∨ e = .idle := by
  cases e <;> decide

theorem EngineState.working_iff (e : EngineState) : e.working = true ↔ e = .run ∨ e = .drain := by
  cases e <;> decide

theorem EngineState.inLot_of_working {e : EngineState} (h : e.working = true) : e.inLot = true :=
  e.inLot_iff.mpr ((e.working_iff.mp h).imp_right Or.inl)

@[simp] theorem HoldCauses.isEmpty_insert (h : HoldCauses) (c : HoldCause) : (h.insert c).isEmpty = false := by
  cases c <;> simp [HoldCauses.insert, HoldCauses.isEmpty]

/-! ## The two forms of raising a hold cause (R142, R143) -/

theorem Part.raiseHold_of_working {p : Part} (c : HoldCause) (h : p.lsq.engine.working = true) :
    p.raiseHold c = (p.addHoldCause c).enterHold := by
  simp [Part.raiseHold, Part.settleHold, Part.addHoldCause_lots, EngineState.inLot_of_working h, h]

theorem Part.raiseHold_of_stopped {p : Part} (c : HoldCause) (hl : p.lsq.engine.inLot = true)
    (hw : p.lsq.engine.working = false) : p.raiseHold c = p.addHoldCause c := by
  simp [Part.raiseHold, Part.settleHold, Part.addHoldCause_lots, hl, hw]

theorem Part.raiseHold_of_noLot {p : Part} (c : HoldCause) (h : p.lsq.engine.inLot = false) : p.raiseHold c = p := by
  simp [Part.raiseHold, h]

/-! ## Timers (R29) -/

/-- With the entry into HOLD the starvation timer is cancelled where the engine leaves RUN. -/
theorem Part.starvationOn_hold (p : Part) :
    p.starvationOn .hold = if p.lsq.engine = .run then .stopped else p.lct.timers.starvation := by
  cases h : p.lsq.engine <;> simp [Part.starvationOn, h]

theorem Part.enterHold_timers (p : Part) :
    p.enterHold.lct.timers = { p.lct.timers with starvation := p.starvationOn .hold } := by
  simp [Part.enterHold, Part.enterEngine_timers]

theorem Part.raiseHold_timers (p : Part) (c : HoldCause) :
    (p.raiseHold c).lct.timers =
      { p.lct.timers with
        starvation := if p.lsq.engine = .run then .stopped else p.lct.timers.starvation } := by
  cases hw : p.lsq.engine.working with
  | true =>
    rw [Part.raiseHold_of_working c hw, Part.enterHold_timers, Part.starvationOn_hold]
    simp [Part.addHoldCause_lots]
  | false =>
    have hr : p.lsq.engine ≠ .run := by
      intro h
      simp [h, EngineState.working] at hw
    cases hl : p.lsq.engine.inLot with
    | true => simp [Part.raiseHold_of_stopped c hl hw, hr]
    | false => simp [Part.raiseHold_of_noLot c hl, hr]

/-! ## EVENTs (R142, R143) -/

theorem Part.handed_addHoldCause (p : Part) (c : HoldCause) :
    Part.handed p (p.addHoldCause c)
      (if p.lsq.holds.has c then [] else [.event (.holdCause c p.lsq.engine p.dt.offset)]) := by
  unfold Part.addHoldCause
  split
  · exact p.handed_refl
  · exact Part.handed_of_left rfl (Part.handed_event _ _)

theorem Part.handed_enterHold (p : Part) :
    Part.handed p p.enterHold [.event (.holdEntered p.lsq.holds p.lsq.lotMode p.dt.offset)] := by
  have hp : p.enterHold = (p.enterEngine .hold).event (.holdEntered p.lsq.holds p.lsq.lotMode p.dt.offset) := by
    simp only [Part.enterHold, Part.enterEngine_lots, Part.enterEngine_keeps]
  rw [hp]
  exact Part.handed_of_left (q := p.enterEngine .hold) (by simp) (Part.handed_event _ _)

/-- The hand-offs of a hold cause whose condition has become present: its EVENT where it joins, before that of the entry
into HOLD. -/
theorem Part.handed_raiseHold (p : Part) (c : HoldCause) : Part.handed p (p.raiseHold c) (p.holdBodies c) := by
  cases hl : p.lsq.engine.inLot with
  | false =>
    rw [Part.raiseHold_of_noLot c hl]
    simpa [Part.holdBodies, hl] using p.handed_refl
  | true =>
    have joined := p.handed_addHoldCause c
    cases hw : p.lsq.engine.working with
    | false =>
      rw [Part.raiseHold_of_stopped c hl hw]
      simpa [Part.holdBodies, hl, hw] using joined
    | true =>
      rw [Part.raiseHold_of_working c hw]
      have entered := (p.addHoldCause c).handed_enterHold
      have both := Part.handed_trans joined entered (by simp [Part.indexCount])
      simpa [Part.holdBodies, hl, hw, Part.addHoldCause_lots] using both

/-! ## HOLD (R144) -/

theorem exec_hold {s : State} (h : s.part.executes 7) :
    exec .hold s = .next { s with part := Part.commit s.part s.part.holdRequest } :=
  State.onRequest_of_executes Part.holdRequest h

theorem Part.holdRequest_of_inLot {p : Part} (h : p.lsq.engine.inLot = true) :
    p.holdRequest = (p.raiseHold .requested).endRequest { code := .ok } := if_pos h

theorem Part.holdRequest_of_noLot {p : Part} (h : p.lsq.engine.inLot = false) :
    p.holdRequest = p.endRequest { code := .refusedState } := by
  simp [Part.holdRequest, h]

/-- HOLD reaches the Lot Sequencer, the request, the journal, the arbiter's queues and the timers alone. -/
theorem Part.raiseHold_endRequest_keepsBut (p : Part) (c : HoldCause) (r : Result) :
    Part.keepsBut [.lots, .requests, .journal, .queues, .timers] p
      { (p.raiseHold c).endRequest r with changed := p.changed } := by
  intro x hx
  cases x <;> simp_all [Region.same]

/-- In a lot the Lot Sequencer is as the statement of HOLD writes it: the two forms of an engine entry agree. -/
theorem Lsq.raised_of_inLot {l : Lsq} (c : HoldCause) (h : l.engine.inLot = true) :
    let after : EngineState := if l.engine = .run ∨ l.engine = .drain then .hold else l.engine
    l.raised c =
      { l with
        holds := l.holds.insert c
        engine := after
        portLatch := if after = l.engine then l.portLatch else l.latchOn .hold } := by
  rcases (EngineState.inLot_iff _).mp h with e | e | e | e <;>
    simp [Lsq.raised, EngineState.inLot, EngineState.working, e]

/-- In a lot the EVENTs are as the statement of HOLD writes them. -/
theorem Part.holdBodies_of_inLot {p : Part} (c : HoldCause) (h : p.lsq.engine.inLot = true) :
    let after : EngineState := if p.lsq.engine = .run ∨ p.lsq.engine = .drain then .hold else p.lsq.engine
    p.holdBodies c =
      (if p.lsq.holds.has c then [] else [.event (.holdCause c p.lsq.engine p.dt.offset)]) ++
        (if after = p.lsq.engine then []
         else [.event (.holdEntered (p.lsq.holds.insert c) p.lsq.lotMode p.dt.offset)]) := by
  rcases (EngineState.inLot_iff _).mp h with e | e | e | e <;>
    simp [Part.holdBodies, EngineState.inLot, EngineState.working, e]

/-- Settles O41: outside a lot the request's refusal is all; in a lot the cause REQUESTED is raised, and each part of the
answer is what raising a cause does. -/
theorem holdAddsRequested : Obligations.HoldAddsRequested := by
  intro s hx e
  refine ⟨_, exec_hold hx, ⟨rfl, rfl, rfl⟩, fun he => ?_, fun he => ?_⟩
  · have noLot := (EngineState.not_inLot_iff _).mpr he
    rw [Part.holdRequest_of_noLot noLot]
    exact Part.endedAlone_commit s.part _
  · have inLot := (EngineState.inLot_iff _).mpr he
    rw [Part.holdRequest_of_inLot inLot]
    refine ⟨Part.ended_endRequest s.part _ (by simp) (by simp),
      Part.keepsBut_commit (Part.raiseHold_endRequest_keepsBut s.part .requested _), ?lsq, ?timers, ?records⟩
    case lsq =>
      simp only [Part.commit_blocks, Part.endRequest_keeps, Part.raiseHold_lsq]
      exact Lsq.raised_of_inLot .requested inLot
    case timers =>
      rw [Part.commit_timers_eq]
      simp only [Part.endRequest_keeps, Part.raiseHold_timers]
      rfl
    case records =>
      have handed := s.part.handed_raiseHold .requested
      rw [Part.holdBodies_of_inLot .requested inLot] at handed
      exact Part.handed_commit s.part (Part.handed_of_right handed (by simp) (by simp [Part.indexCount]))

end Sys2Proof.Machine
end

section
/-! What clearing and latching attention causes do to one bit (R175, R176), and when the ATTN line is high (R175); and
from that what a write to ATTN CAUSE does (R176). -/

namespace Sys2Proof.Machine

/-! ## A register write on a free bus (log 27) -/

theorem State.onBus_of_free {s : State} (h : s.hp.cycle = .none) (t : State) : s.onBus t = .next t := if_pos h

theorem exec_attnCauseWrite {s : State} (h : s.hp.cycle = .none) (v : HostWord) :
    exec (.attnCauseWrite v) s = .next (s.setAttn (s.part.attn.clearCauses v)) :=
  State.onBus_of_free h _

/-! ## Clearing and latching (R175, R176) -/

theorem AttnCause.bit_lt (c : AttnCause) : c.bit < 7 := by
  cases c <;> decide

theorem Attn.clearCauses_getLsbD (a : Attn) (v : HostWord) {i : Nat} (h : i < 7) :
    (a.clearCauses v).cause.getLsbD i = (a.cause.getLsbD i && !v.getLsbD i) := by
  simp [Attn.clearCauses, h]

theorem Attn.clearCauses_of_written (a : Attn) {v : HostWord} {c : AttnCause} (h : v.getLsbD c.bit = true) :
    (a.clearCauses v).cause.getLsbD c.bit = false := by
  rw [a.clearCauses_getLsbD v c.bit_lt, h, Bool.not_true, Bool.and_false]

theorem Part.latch_of_enabled {p : Part} {c : AttnCause} (h : c = .halt ∨ p.attn.enable.getLsbD c.bit = true) :
    p.latch c = { p with attn := { p.attn with cause := p.attn.cause ||| (1#7 <<< c.bit) } } := if_pos h

theorem Part.latch_sets_bit {p : Part} {c : AttnCause} (h : c = .halt ∨ p.attn.enable.getLsbD c.bit = true) :
    (p.latch c).attn.cause.getLsbD c.bit = true := by
  simp [Part.latch_of_enabled h, c.bit_lt]

/-! ## The ATTN line (R175) -/

theorem and_ne_zero_iff_common_bit {w : Nat} (x y : BitVec w) :
    x &&& y ≠ 0 ↔ ∃ i < w, x.getLsbD i = true ∧ y.getLsbD i = true := by
  constructor
  · intro ne
    by_contra none
    refine ne (BitVec.eq_of_getLsbD_eq fun i hi => ?_)
    simpa [hi] using fun hx : x.getLsbD i = true => fun hy => none ⟨i, hi, hx, hy⟩
  · rintro ⟨i, -, hx, hy⟩ zero
    have bit : (x &&& y).getLsbD i = false := by simp [zero]
    simp [hx, hy] at bit

theorem Part.attnLine_iff (p : Part) :
    p.attnLine = true ↔
      p.attn.cause.getLsbD 0 = true ∨
        ∃ i < 7, p.attn.cause.getLsbD i = true ∧ p.attn.enable.getLsbD i = true := by
  rw [← and_ne_zero_iff_common_bit, Part.attnLine, Bool.or_eq_true, bne_iff_ne]

/-! ## ATTN_CAUSE_WRITE (R176) -/

/-- Settles O17: the write replaces the latched causes alone; a latch before it or after it is then a matter of one
bit. -/
theorem attnCauseWriteClearsTheCauses : Obligations.AttnCauseWriteClearsTheCauses := by
  intro v s free
  constructor
  · refine ⟨_, exec_attnCauseWrite free v, ⟨rfl, rfl, rfl⟩, rfl, rfl, ?bits, Part.attnLine_iff _, ?latchedAfter⟩
    case bits => exact fun i hi => s.part.attn.clearCauses_getLsbD v hi
    case latchedAfter => exact fun c enabled => Part.latch_sets_bit enabled
  · intro c written
    exact ⟨_, exec_attnCauseWrite (s := { s with part := s.part.latch c }) free v,
      (s.part.latch c).attn.clearCauses_of_written written⟩

end Sys2Proof.Machine
end

section
/-! Every command answers in one of three forms: nothing changes, the part does the command's work and what follows every
command comes after it, or the command is one of those that reach the host side or the store. From that, what every
command and every step keeps. -/

namespace Sys2Proof.Machine

/-! ## The forms of answer -/

/-- The work that a command does on the part alone, before what follows every command. -/
inductive Part.Works : Instr → Part → Part → Prop
  | configure (p) : Works .configure p p.configure
  | configureHeldTaken (p) : Works .configureHeldTaken p p.configureTaken
  | configureReadDone (p) (b) : p.configReady = some b → Works .configureReadDone p (p.configureRead b)
  | journalRecordWrite (p) : Works .journalRecordWrite p p.testHead
  | requestSlotRead (p) : Works .requestSlotRead p p.takeSlot
  | startLot (p flt) : Works (.startLot flt) p (p.startLot flt)
  | contextReadDone (p flt w data) : Works (.contextReadDone flt) p (p.contextRead w data flt)
  | startLotSetupsDone (p w r o) : Works .startLotSetupsDone p (p.combineSetups w r o)
  | endLot (p) : Works .endLot p p.endLot
  | abortLot (p) : Works .abortLot p p.abortLot
  | stagePlan (p) : Works .stagePlan p p.stagePlan
  | planStagingEnd (p w) : Works .planStagingEnd p (p.endStaging w)
  | switchPlan (p) : Works .switchPlan p p.switchPlan
  | binControlClose (p) : Works .binControlClose p (p.binControl (p.arg 5 1))
  | binControlOpen (p) : Works .binControlOpen p (p.binControl (p.arg 5 1))
  | binControlCapacity (p) : Works .binControlCapacity p (p.binControl (p.arg 5 1))
  | hold (p) : Works .hold p p.holdRequest
  | resume (p) : Works .resume p p.resume
  | clearHalt (p) : Works .clearHalt p p.clearHalt
  | meterRestart (p flt) : Works (.meterRestart flt) p (p.meterRestart flt)
  | setThinning (p) : Works .setThinning p p.setThinning
  | portWrite (p) : Works .portWrite p p.portWrite
  | unknown (p) : Works .unknown p p.unknownRequest
  | lotClose (p) : Works .lotClose p p.lotClose
  | closeCompletionEnd (p c) : Works .closeCompletionEnd p (p.endCompletion c)
  | directLineChange (p l h) : Works (.directLineChange l h) p (p.pinChanged l h)
  | debounceElapsed (p l) : Works (.debounceElapsed l) p (p.changeStable l)
  | sensorScan (p bits) : Works (.sensorScan bits) p (p.scanned bits)
  | acqRise (p m) : Works (.acqRise m) p (p.acqRises m)
  | acqFall (p m) : Works (.acqFall m) p (p.acqFalls m)
  | rdyRise (p m) : Works (.rdyRise m) p (p.rdyRises m)
  | fltRise (p m) : Works (.fltRise m) p (p.fltRises m)
  | meterFrameSent (p m f) : Works (.meterFrameSent m) p (p.frameSent m f)
  | pendingTakeSent (p m t) : Works (.pendingTakeSent m) p (p.pendingTakeDue m t)
  | report (p m f d) : Works (.report m f) p (p.reportEnded m f d)
  | jamTimerExpiry (p) : Works .jamTimerExpiry p p.jamExpires
  | feedTimerExpiry (p) : Works .feedTimerExpiry p p.feedTimerExpires
  | catchTimerExpiry (p) : Works .catchTimerExpiry p p.catchTimerExpires
  | starvationTimerExpiry (p) : Works .starvationTimerExpiry p p.starvationExpires
  | takeTimerExpiry (p m) : Works (.takeTimerExpiry m) p (p.takeTimerExpires m)
  | pulseTimerExpiry (p) (g : Fin 32) : Works (.pulseTimerExpiry g) p (p.pulseExpires g.val)
  | ageTimerExpiry (p) : Works .ageTimerExpiry p p.ageExpires

/-- The commands that reach the host side, the attention registers or the store, with what they answer. -/
inductive State.Reaches : Instr → State → State → Prop
  | powerOnReset (s) :
      Reaches .powerOnReset s
        { s with part := s.part.powerOn.requestAllStatus, hp := { HostPort.reset with data := s.hp.dataAtReset } }
  | softReset (s) : Reaches .softReset s s.softReset
  | softResetDrainEnd (s) : Reaches .softResetDrainEnd s s.drainEnded
  | attnCauseWrite (s v) : Reaches (.attnCauseWrite v) s (s.setAttn (s.part.attn.clearCauses v))
  | attnEnableWrite (s v) : Reaches (.attnEnableWrite v) s (s.setAttn (s.part.attn.setEnable v))
  | apertureWrite (s n v) :
      Reaches (.apertureWrite n v) s { s with hp := s.hp.setAperture n (apertureOfWord v) }
  | hostStoreWrite (s a v) :
      Reaches (.hostStoreWrite a v) s { s with hp := s.hp.writeArrives a v s.part.watching }
  | hostStoreRead (s a) : Reaches (.hostStoreRead a) s (s.readArrives a)
  | storeGrant (s c) : s.choice = some c → Reaches .storeGrant s (State.commit s (s.grant c))
  | requestSlotRead (s) : s.part.sa.slotReadAtHead = true →
      Reaches .requestSlotRead s
        (State.commit s { s.grant .request with part := (s.grant .request).part.takeSlot })

/-- A command's outcome has one of the three forms. -/
def State.Answers (c : Instr) (s : State) (o : Host.Outcome State Fault Refusal) : Prop :=
  o = .next s ∨ (∃ q, Part.Works c s.part q ∧ o = .next { s with part := Part.commit s.part q }) ∨
    ∃ t, State.Reaches c s t ∧ o = .next t

theorem State.answers_onPart {c : Instr} {s : State} {f : Part → Part} (h : Part.Works c s.part (f s.part)) :
    State.Answers c s (s.onPart f) := .inr (.inl ⟨_, h, rfl⟩)

theorem State.answers_onOccasion {c : Instr} {s : State} {f : Part → Part} (b : Bool)
    (h : Part.Works c s.part (f s.part)) : State.Answers c s (s.onOccasion b f) := by
  cases b
  · exact .inl rfl
  · exact State.answers_onPart h

theorem State.answers_onBus {c : Instr} {s t : State} (h : State.Reaches c s t) :
    State.Answers c s (s.onBus t) := by
  unfold State.onBus
  split
  · exact .inr (.inr ⟨_, h, rfl⟩)
  · exact .inl rfl

/-- The commands that go on with work begun before act where that work stands ready. -/
theorem exec_answers_goOn (s : State) :
    State.Answers .configureReadDone s (exec .configureReadDone s) ∧
      (∀ flt, State.Answers (.contextReadDone flt) s (exec (.contextReadDone flt) s)) ∧
      State.Answers .startLotSetupsDone s (exec .startLotSetupsDone s) ∧
      State.Answers .planStagingEnd s (exec .planStagingEnd s) ∧
      State.Answers .closeCompletionEnd s (exec .closeCompletionEnd s) ∧
      (∀ m, State.Answers (.meterFrameSent m) s (exec (.meterFrameSent m) s)) ∧
      (∀ m, State.Answers (.pendingTakeSent m) s (exec (.pendingTakeSent m) s)) ∧
      ∀ m f, State.Answers (.report m f) s (exec (.report m f) s) := by
  refine ⟨?_, fun flt => ?_, ?_, ?_, ?_, fun m => ?_, fun m => ?_, fun m f => ?_⟩
  · simp only [exec, execConfigureReadDone]
    split
    · exact .inl rfl
    · next b hb => exact State.answers_onPart (.configureReadDone _ b hb)
  · simp only [exec, execContextReadDone]
    split
    · exact .inl rfl
    · exact State.answers_onPart (.contextReadDone ..)
  · simp only [exec, execStartLotSetupsDone]
    split
    · exact .inl rfl
    · exact State.answers_onPart (.startLotSetupsDone ..)
  · simp only [exec, execPlanStagingEnd]
    split
    · exact .inl rfl
    · exact State.answers_onPart (.planStagingEnd ..)
  · simp only [exec, execCloseCompletionEnd]
    split
    · exact .inl rfl
    · exact State.answers_onPart (.closeCompletionEnd ..)
  · simp only [exec, execMeterFrameSent]
    split
    · exact .inl rfl
    · exact State.answers_onPart (.meterFrameSent ..)
  · simp only [exec, execPendingTakeSent]
    split
    · exact .inl rfl
    · exact State.answers_onPart (.pendingTakeSent ..)
  · simp only [exec, execReport]
    split
    · exact .inl rfl
    · exact State.answers_onPart (.report ..)

theorem exec_answers_storeGrant (s : State) : State.Answers .storeGrant s (exec .storeGrant s) := by
  simp only [exec, execStoreGrant]
  split
  · exact .inl rfl
  · next c h => exact .inr (.inr ⟨_, .storeGrant s c h, rfl⟩)

theorem exec_answers_requestSlotRead (s : State) : State.Answers .requestSlotRead s (exec .requestSlotRead s) := by
  simp only [exec, execRequestSlotRead]
  split
  · split
    · next h => exact .inr (.inr ⟨_, .requestSlotRead s h.2, rfl⟩)
    · exact .inl rfl
  · exact State.answers_onOccasion _ (.requestSlotRead _)

theorem exec_answers_resets (s : State) :
    State.Answers .powerOnReset s (exec .powerOnReset s) ∧ State.Answers .softReset s (exec .softReset s) ∧
      State.Answers .softResetDrainEnd s (exec .softResetDrainEnd s) := by
  refine ⟨.inr (.inr ⟨_, .powerOnReset s, rfl⟩), ?_, ?_⟩
  · simp only [exec, execSoftReset]
    split
    · exact .inl rfl
    · exact State.answers_onBus (.softReset s)
  · simp only [exec, execSoftResetDrainEnd]
    split
    · exact .inr (.inr ⟨_, .softResetDrainEnd s, rfl⟩)
    · exact .inl rfl

/-- Every command answers in one of the three forms. -/
theorem exec_answers (c : Instr) (s : State) : State.Answers c s (exec c s) := by
  obtain ⟨configRead, contextRead, setups, staging, completion, frame, pending, report⟩ := exec_answers_goOn s
  cases c with
  | powerOnReset => exact (exec_answers_resets s).1
  | softReset => exact (exec_answers_resets s).2.1
  | softResetDrainEnd => exact (exec_answers_resets s).2.2
  | configureReadDone => exact configRead
  | contextReadDone flt => exact contextRead flt
  | startLotSetupsDone => exact setups
  | planStagingEnd => exact staging
  | closeCompletionEnd => exact completion
  | meterFrameSent m => exact frame m
  | pendingTakeSent m => exact pending m
  | report m f => exact report m f
  | storeGrant => exact exec_answers_storeGrant s
  | requestSlotRead => exact exec_answers_requestSlotRead s
  | attnCauseWrite v => exact State.answers_onBus (.attnCauseWrite s v)
  | attnEnableWrite v => exact State.answers_onBus (.attnEnableWrite s v)
  | apertureWrite n v => exact State.answers_onBus (.apertureWrite s n v)
  | registerWriteIgnored a v => exact .inl rfl
  | hostStoreWrite a v => exact State.answers_onBus (.hostStoreWrite s a v)
  | hostStoreRead a => exact State.answers_onBus (.hostStoreRead s a)
  | sensorScan bits => exact State.answers_onPart (f := fun p => p.scanned bits) (.sensorScan ..)
  | acqRise m => exact State.answers_onPart (f := fun p => p.acqRises m) (.acqRise ..)
  | acqFall m => exact State.answers_onPart (f := fun p => p.acqFalls m) (.acqFall ..)
  | rdyRise m => exact State.answers_onPart (f := fun p => p.rdyRises m) (.rdyRise ..)
  | fltRise m => exact State.answers_onPart (f := fun p => p.fltRises m) (.fltRise ..)
  | configure => exact State.answers_onOccasion _ (.configure ..)
  | configureHeldTaken => exact State.answers_onOccasion _ (.configureHeldTaken ..)
  | journalRecordWrite => exact State.answers_onOccasion _ (.journalRecordWrite ..)
  | startLot => exact State.answers_onOccasion _ (.startLot ..)
  | endLot => exact State.answers_onOccasion _ (.endLot ..)
  | abortLot => exact State.answers_onOccasion _ (.abortLot ..)
  | stagePlan => exact State.answers_onOccasion _ (.stagePlan ..)
  | switchPlan => exact State.answers_onOccasion _ (.switchPlan ..)
  | binControlClose => exact State.answers_onOccasion _ (.binControlClose ..)
  | binControlOpen => exact State.answers_onOccasion _ (.binControlOpen ..)
  | binControlCapacity => exact State.answers_onOccasion _ (.binControlCapacity ..)
  | hold => exact State.answers_onOccasion _ (.hold ..)
  | resume => exact State.answers_onOccasion _ (.resume ..)
  | clearHalt => exact State.answers_onOccasion _ (.clearHalt ..)
  | meterRestart => exact State.answers_onOccasion _ (.meterRestart ..)
  | setThinning => exact State.answers_onOccasion _ (.setThinning ..)
  | portWrite => exact State.answers_onOccasion _ (.portWrite ..)
  | unknown => exact State.answers_onOccasion _ (.unknown ..)
  | lotClose => exact State.answers_onOccasion _ (.lotClose ..)
  | directLineChange => exact State.answers_onOccasion _ (.directLineChange ..)
  | debounceElapsed => exact State.answers_onOccasion _ (.debounceElapsed ..)
  | jamTimerExpiry => exact State.answers_onOccasion _ (.jamTimerExpiry ..)
  | feedTimerExpiry => exact State.answers_onOccasion _ (.feedTimerExpiry ..)
  | catchTimerExpiry => exact State.answers_onOccasion _ (.catchTimerExpiry ..)
  | starvationTimerExpiry => exact State.answers_onOccasion _ (.starvationTimerExpiry ..)
  | takeTimerExpiry => exact State.answers_onOccasion _ (.takeTimerExpiry ..)
  | pulseTimerExpiry => exact State.answers_onOccasion _ (.pulseTimerExpiry ..)
  | ageTimerExpiry => exact State.answers_onOccasion _ (.ageTimerExpiry ..)

/-! ## What a grant leaves alone -/

/-- A part request's grant reaches the commands that wait in no way. -/
@[simp] theorem State.grantRequest_pending (s : State) (r : StoreRequest) : (s.grantRequest r).pending = s.pending := by
  cases r <;> rfl

/-- A grant does nothing, or the head of one queue is granted. -/
theorem State.grant_cases {P : State → Prop} (s : State) (c : Choice) (none : P s)
    (request : ∀ a r, P ((s.setSa a).grantRequest r)) (status : ∀ a i, P ((s.setSa a).grantStatus i))
    (hostWrite : ∀ w rest, s.hp.buffer = w :: rest → P (s.grantHostWrite w rest))
    (hostRead : ∀ a, P (s.grantHostRead a)) : P (s.grant c) := by
  cases c <;> simp only [State.grant] <;> split <;> first
    | exact none | exact request _ _ | exact status _ _ | exact hostRead _ | (next e => exact hostWrite _ _ e)

theorem State.grant_pending (s : State) (c : Choice) : (s.grant c).pending = s.pending :=
  State.grant_cases (P := fun t => t.pending = s.pending) s c rfl (fun _ _ => by simp [State.setSa]) (fun _ _ => rfl)
    (fun _ _ _ => rfl) (fun _ => rfl)

/-- The grant of a slot read reads the store. -/
theorem State.grant_request_store {s : State} (h : s.part.sa.slotReadAtHead = true) :
    (s.grant .request).store = s.store := by
  unfold Sa.slotReadAtHead at h
  split at h
  · next e => simp [State.grant, e, State.grantRequest, State.setSa]
  · exact absurd h (by decide)

theorem State.readArrives_keeps (s : State) (a : HostWord) :
    (s.readArrives a).pending = s.pending ∧ (s.readArrives a).store = s.store ∧
      { (s.readArrives a).part with sa := s.part.sa } = s.part := by
  unfold State.readArrives State.acceptRead
  (repeat' split) <;> simp

theorem State.acceptCycle_keeps (s : State) :
    s.acceptCycle.pending = s.pending ∧ s.acceptCycle.store = s.store ∧
      { s.acceptCycle.part with sa := s.part.sa } = s.part := by
  unfold State.acceptCycle
  split
  · exact ⟨rfl, rfl, rfl⟩
  · exact ⟨rfl, rfl, rfl⟩
  · exact State.readArrives_keeps _ _
  · exact ⟨rfl, rfl, rfl⟩

/-- The end of the drain files status writes and accepts the host cycle that waits. -/
theorem State.drainEnded_keeps (s : State) :
    s.drainEnded.pending = s.pending ∧ s.drainEnded.store = s.store ∧
      { s.drainEnded.part with sa := s.part.sa } = s.part := by
  obtain ⟨pending, store, part⟩ :=
    State.acceptCycle_keeps { s with part := s.part.requestAllStatus, hp := { s.hp with draining := false } }
  refine ⟨pending, store, (congrArg (fun p : Part => { p with sa := s.part.sa }) part).trans ?_⟩
  simp [Part.requestAllStatus, Part.requestItems]

/-! ## The machine as a whole -/

theorem State.Reaches.pending {c : Instr} {s t : State} (h : State.Reaches c s t) : t.pending = s.pending := by
  cases h with
  | softResetDrainEnd => exact s.drainEnded_keeps.1
  | hostStoreRead _ a => exact (s.readArrives_keeps a).1
  | storeGrant _ d => exact s.grant_pending d
  | requestSlotRead => exact s.grant_pending .request
  | _ => rfl

theorem State.Reaches.store {c : Instr} {s t : State} (h : State.Reaches c s t) (k : c ≠ .storeGrant) :
    t.store = s.store := by
  cases h with
  | softResetDrainEnd => exact s.drainEnded_keeps.2.1
  | hostStoreRead _ a => exact (s.readArrives_keeps a).2.1
  | storeGrant => exact absurd rfl k
  | requestSlotRead _ h => exact State.grant_request_store h
  | _ => rfl

/-- Settles O1. -/
theorem stepTakesTheFrontCommand : Obligations.StepTakesTheFrontCommand := fun _ _ _ => rfl

/-- Settles O3: each of the three forms answers a next state. -/
theorem everyCommandAnswersNext : Obligations.EveryCommandAnswersNext := by
  intro c s
  obtain h | ⟨q, -, h⟩ | ⟨t, reaches, h⟩ := exec_answers c s
  · exact ⟨_, h, rfl⟩
  · exact ⟨_, h, rfl⟩
  · exact ⟨t, h, reaches.pending⟩

/-- What holds of `s`, of every answer of a command on the part and of every answer that reaches further holds of the
answer of every command. -/
theorem exec_keeps {P : State → Prop} {c : Instr} {s t : State} (e : exec c s = .next t) (same : P s)
    (works : ∀ q, Part.Works c s.part q → P { s with part := Part.commit s.part q })
    (reaches : State.Reaches c s t → P t) : P t := by
  obtain h | ⟨q, work, h⟩ | ⟨u, reach, h⟩ := exec_answers c s
  all_goals
    rw [h] at e
    cases e
  · exact same
  · exact works q work
  · exact reaches reach

/-- Settles O4: no work on the part writes the store, and of the commands that reach further the grant alone does. -/
theorem onlyGrantsChangeTheStore : Obligations.OnlyGrantsChangeTheStore := by
  intro c s t notGrant e
  exact exec_keeps (P := fun t => t.store = s.store) e rfl (fun _ _ => rfl) (fun h => h.store notGrant)

/-- What every command keeps whatever the commands that wait, and the passing of time keeps, every step keeps. -/
theorem step_keeps {P : State → Prop} {s t : State} (e : step s = .next t) (h : P s)
    (waits : ∀ rest, P s → P { s with pending := rest })
    (time : P s → P { s with part := s.part.tick })
    (command : ∀ c u v, P u → exec c u = .next v → P v) : P t := by
  unfold step at e
  split at e
  · cases e
    exact time h
  · next c rest _ => exact command c _ t (waits rest h) e

end Sys2Proof.Machine
end

section
/-! The properties that every step keeps: each holds at reset, the passing of time keeps it, and so does each of the three
forms in which a command answers. -/

namespace Sys2Proof.Machine

/-! ## Reset -/

/-- Settles O6. -/
theorem resetHasTheKeptProperties : Obligations.ResetHasTheKeptProperties := by
  refine ⟨rfl, rfl, ⟨by decide, by decide⟩, rfl, ⟨List.nodup_nil, by intro n h; cases h⟩, rfl, rfl, rfl, by decide⟩

/-! ## The store (R177) -/

theorem State.grantRequest_storeOk {s : State} (r : StoreRequest) (h : s.storeOk) : (s.grantRequest r).storeOk := by
  cases r with
  | write cells e _ => exact Memory.wf_writeAll _ h
  | read => exact h

theorem State.grant_storeOk {s : State} (c : Choice) (h : s.storeOk) : (s.grant c).storeOk :=
  State.grant_cases s c h (fun _ r => State.grantRequest_storeOk r h) (fun _ _ => Memory.wf_writeAll _ h)
    (fun _ _ _ => Memory.wf_writeAll _ h) (fun _ => h)

/-- A store grant writes whole cells, and no other command writes. -/
theorem exec_storeOk {c : Instr} {s t : State} (h : s.storeOk) (e : exec c s = .next t) : t.storeOk := by
  by_cases grant : c = .storeGrant
  · subst grant
    refine exec_keeps e h (fun _ _ => h) fun reaches => ?_
    cases reaches with
    | storeGrant _ d _ => exact s.grant_storeOk d h
  · unfold State.storeOk
    rw [onlyGrantsChangeTheStore c s t grant e]
    exact h

/-- Settles O7. -/
theorem stepKeepsTheStoreCanonical : Obligations.StepKeepsTheStoreCanonical := fun _ _ h e =>
  step_keeps e h (fun _ h => h) id (fun _ _ _ h e => exec_storeOk h e)

/-! ## PERMIT (R14) -/

/-- PERMIT and its conditions are read from the dial, the engine state and the staging queue. -/
theorem State.permitOk_congr {s t : State} (dt : t.part.dt = s.part.dt) (lsq : t.part.lsq = s.part.lsq)
    (jw : t.part.jw = s.part.jw) (h : s.permitOk) : t.permitOk := by
  unfold State.permitOk
  rw [dt, h]
  exact (Part.permitConditions_congr lsq (congrArg Dt.items dt) jw).symm

/-- In UNCONFIGURED PERMIT's conditions do not hold. -/
theorem State.permitOk_of_low {t : State} (permit : t.part.dt.permit = false)
    (engine : t.part.lsq.engine = .unconfigured) : t.permitOk := by
  simp [State.permitOk, Part.permitConditions, permit, engine, EngineState.working]

theorem State.Reaches.permitOk {c : Instr} {s t : State} (r : State.Reaches c s t) (h : s.permitOk) : t.permitOk := by
  have ofQueues {u : State} (k : { u.part with sa := s.part.sa } = s.part) : u.permitOk := by
    have dt := congrArg Part.dt k
    have lsq := congrArg Part.lsq k
    have jw := congrArg Part.jw k
    exact State.permitOk_congr dt lsq jw h
  cases r with
  | powerOnReset => exact State.permitOk_of_low rfl rfl
  | softReset => exact State.permitOk_of_low rfl rfl
  | softResetDrainEnd => exact ofQueues s.drainEnded_keeps.2.2
  | attnCauseWrite _ v => exact State.permitOk_congr (s := s) rfl rfl rfl h
  | attnEnableWrite _ v => exact State.permitOk_congr (s := s) rfl rfl rfl h
  | apertureWrite _ n v => exact h
  | hostStoreWrite _ a v => exact h
  | hostStoreRead _ a => exact ofQueues (s.readArrives_keeps a).2.2
  | storeGrant => exact Part.commit_permit _ _
  | requestSlotRead => exact Part.commit_permit _ _

/-- Settles O8: what follows every command puts PERMIT at its conditions; the few commands after which nothing follows,
and time, leave all three where they were, or are resets. -/
theorem stepKeepsPermitAtItsConditions : Obligations.StepKeepsPermitAtItsConditions := by
  intro s t h e
  refine step_keeps e h (fun _ h => h) (fun h => State.permitOk_congr (s := s) rfl rfl rfl h) fun c u v h e => ?_
  exact exec_keeps e h (fun _ _ => Part.commit_permit _ _) (fun r => r.permitOk h)

/-! ## The lot mode (R130) -/

/-- Each work on the part keeps the lot mode at the engine state. -/
theorem Part.Works.modeOk {c : Instr} {p q : Part} (w : Part.Works c p q) (k : p.lsq.modeOk) : q.lsq.modeOk := by
  cases w with
  | configure =>
    unfold Part.configure
    (repeat' split) <;> simpa [Part.refuseConfigure, Part.beginConfigure] using k
  | configureHeldTaken =>
    unfold Part.configureTaken
    split <;> simpa [Part.refuseConfigure, Part.beginConfigure] using k
  | configureReadDone _ b _ => exact Part.configureRead_modeOk b k
  | startLot _ flt => exact Part.startLot_modeOk flt k
  | contextReadDone _ flt w data => exact Part.contextRead_modeOk w data flt k
  | startLotSetupsDone _ w r o => exact Part.combineSetups_modeOk w r o k
  | endLot => exact Part.endLot_modeOk k
  | abortLot => exact Part.abortLot_modeOk k
  | hold => exact Part.holdRequest_modeOk k
  | resume => exact Part.resume_modeOk k
  | clearHalt => exact Part.clearHalt_modeOk k
  | meterRestart _ flt => exact Part.meterRestart_modeOk flt k
  | portWrite => exact Part.portWrite_modeOk k
  | lotClose => exact p.lotClose_modeOk
  | closeCompletionEnd _ c => exact Part.endCompletion_modeOk c k
  | directLineChange _ l high => exact Part.pinChanged_modeOk l high k
  | debounceElapsed _ l => exact Part.changeStable_modeOk l k
  | acqRise _ m => exact Part.acqRises_modeOk m k
  | fltRise _ m => exact Part.faultByState_modeOk m .flt (by simpa using k)
  | report _ m f d => exact Part.reportEnded_modeOk m f d k
  | takeTimerExpiry _ m => exact Part.faultByState_modeOk m .timeout (by simpa using k)
  | jamTimerExpiry => exact Part.raiseHalt_modeOk .jam (by simpa using k)
  | _ => simpa using k

theorem State.grantRequest_modeOk {s : State} (r : StoreRequest) (k : s.part.lsq.modeOk) :
    (s.grantRequest r).part.lsq.modeOk := by
  cases r with
  | write _ e _ => exact Part.writeGranted_modeOk e k
  | read a n owner => exact Part.readGranted_modeOk owner _ k

theorem State.grant_modeOk {s : State} (c : Choice) (k : s.part.lsq.modeOk) : (s.grant c).part.lsq.modeOk :=
  State.grant_cases (P := fun t => t.part.lsq.modeOk) s c k (fun _ r => State.grantRequest_modeOk r k) (fun _ _ => k)
    (fun _ _ _ => by simpa [State.grantHostWrite] using k) (fun _ => k)

theorem State.Reaches.modeOk {c : Instr} {s t : State} (r : State.Reaches c s t) (k : s.part.lsq.modeOk) :
    t.part.lsq.modeOk := by
  have ofQueues {u : State} (e : { u.part with sa := s.part.sa } = s.part) : u.part.lsq.modeOk := by
    rw [← e] at k
    exact k
  cases r with
  | powerOnReset => exact rfl
  | softReset => exact rfl
  | softResetDrainEnd => exact ofQueues s.drainEnded_keeps.2.2
  | attnCauseWrite => exact k
  | attnEnableWrite => exact k
  | apertureWrite => exact k
  | hostStoreWrite => exact k
  | hostStoreRead _ a => exact ofQueues (s.readArrives_keeps a).2.2
  | storeGrant _ c => simpa [State.commit] using s.grant_modeOk c k
  | requestSlotRead => simpa [State.commit] using s.grant_modeOk .request k

/-- Settles O9. -/
theorem stepKeepsTheLotMode : Obligations.StepKeepsTheLotMode := by
  intro s t h e
  refine step_keeps e h (fun _ h => h) (fun h => h) fun c u v h e => ?_
  refine exec_keeps e h (fun q w => ?_) (fun r => r.modeOk h)
  simpa [State.lotModeOk] using w.modeOk h

end Sys2Proof.Machine
end

section
/-! The bounds of the post queue, of the posted write buffer, of the promotion count and of the gates' tables, which every
step keeps. -/

namespace Sys2Proof.Machine

/-! ## The post queue (R155, R156) -/

/-- Slot numbers 0 to 15, none twice. -/
def postsBounded (l : List Nat) : Prop := l.Nodup ∧ ∀ n ∈ l, n < 16

theorem State.postsOk_iff (s : State) : s.postsOk ↔ postsBounded s.part.rqx.posts := Iff.rfl

theorem postsBounded_nil : postsBounded [] := ⟨List.nodup_nil, fun _ h => absurd h List.not_mem_nil⟩

theorem postsBounded_of_suffix {l k : List Nat} (h : postsBounded l) (s : k <:+ l) : postsBounded k :=
  ⟨h.1.sublist s.sublist, fun n hn => h.2 n (s.subset hn)⟩

/-- The RQX takes at most the head. -/
theorem Part.fetchPost_posts (p : Part) : p.fetchPost.rqx.posts <:+ p.rqx.posts := by
  unfold Part.fetchPost
  split
  · next h =>
    split
    · exact List.suffix_rfl
    · rw [h]
      exact List.suffix_cons _ _
  · exact List.suffix_rfl

theorem Part.commit_posts (b p : Part) : (Part.commit b p).rqx.posts <:+ p.rqx.posts := by
  simpa [Part.commit] using p.fetchPost_posts

/-- The slot of a state word is one of the sixteen. -/
theorem slotAt_lt {base a i : Nat} (h : slotAt base a = some i) : i < 16 := by
  unfold slotAt at h
  split at h
  · cases h
    omega
  · cases h

theorem Part.offerPost_bounded {p : Part} {i : Nat} (hi : i < 16) (h : postsBounded p.rqx.posts) :
    postsBounded (p.offerPost i).rqx.posts := by
  unfold Part.offerPost
  split
  · exact h
  · next absent =>
    have fresh : i ∉ p.rqx.posts := by simpa using absent
    refine ⟨List.nodup_append.mpr ⟨h.1, List.nodup_singleton i, fun x hx y hy e => ?_⟩, fun n hn => ?_⟩
    · rw [e, List.mem_singleton.mp hy] at hx
      exact fresh hx
    · rcases List.mem_append.mp hn with hn | hn
      · exact h.2 n hn
      · rw [List.mem_singleton.mp hn]
        exact hi

theorem Part.watchPost_bounded {p : Part} (w : PostedWrite) (h : postsBounded p.rqx.posts) :
    postsBounded (p.watchPost w).rqx.posts := by
  unfold Part.watchPost
  split
  · exact h
  · split
    · exact h
    · next slot =>
      split
      · exact Part.offerPost_bounded (slotAt_lt slot) h
      · exact h

theorem Part.configureRead_posts (p : Part) (b : List Byte) :
    (p.configureRead b).rqx.posts = p.rqx.posts ∨ (p.configureRead b).rqx.posts = [] := by
  unfold Part.configureRead Part.refuseConfigure
  split
  · exact .inl (by simp)
  · split
    · simp only [Part.configurePass, Part.enterEngine_keeps, Part.recheckSlot_keeps, Part.configureBlocks]
      split
      · exact .inl (by simp)
      · exact .inr rfl
    · exact .inl (by simp [Part.configureFail])

theorem Part.Works.postsBounded {c : Instr} {p q : Part} (w : Part.Works c p q) (h : postsBounded p.rqx.posts) :
    postsBounded q.rqx.posts := by
  cases w with
  | configure =>
    unfold Part.configure
    (repeat' split) <;> simpa [Part.refuseConfigure, Part.beginConfigure] using h
  | configureHeldTaken =>
    unfold Part.configureTaken
    split <;> simpa [Part.refuseConfigure, Part.beginConfigure] using h
  | configureReadDone _ b _ =>
    rcases p.configureRead_posts b with e | e <;> rw [e]
    · exact h
    · exact postsBounded_nil
  | _ => simpa using h

theorem State.grantRequest_posts (s : State) (r : StoreRequest) :
    (s.grantRequest r).part.rqx.posts = s.part.rqx.posts := by
  cases r <;> simp [State.grantRequest]

theorem State.grant_postsOk {s : State} (c : Choice) (h : s.postsOk) : (s.grant c).postsOk :=
  State.grant_cases s c h
    (fun a r => by
      rw [State.postsOk_iff, State.grantRequest_posts]
      exact h)
    (fun _ _ => h)
    (fun w _ _ => by simpa [State.postsOk_iff, State.grantHostWrite] using Part.watchPost_bounded w h) (fun _ => h)

theorem State.Reaches.postsOk {c : Instr} {s t : State} (r : State.Reaches c s t) (h : s.postsOk) : t.postsOk := by
  have ofQueues {u : State} (e : { u.part with sa := s.part.sa } = s.part) : u.postsOk := by
    unfold State.postsOk at h
    rw [← e] at h
    exact h
  cases r with
  | powerOnReset => exact postsBounded_nil
  | softReset => exact postsBounded_nil
  | softResetDrainEnd => exact ofQueues s.drainEnded_keeps.2.2
  | attnCauseWrite => exact h
  | attnEnableWrite => exact h
  | apertureWrite => exact h
  | hostStoreWrite => exact h
  | hostStoreRead _ a => exact ofQueues (s.readArrives_keeps a).2.2
  | storeGrant _ c => exact postsBounded_of_suffix (s.grant_postsOk c h) (Part.commit_posts _ _)
  | requestSlotRead =>
    refine postsBounded_of_suffix ?_ (Part.commit_posts _ _)
    rw [Part.takeSlot_posts]
    exact s.grant_postsOk .request h

theorem exec_postsOk {c : Instr} {s t : State} (h : s.postsOk) (e : exec c s = .next t) : t.postsOk :=
  exec_keeps e h (fun _ w => postsBounded_of_suffix (w.postsBounded h) (Part.commit_posts _ _)) (fun r => r.postsOk h)

/-! ## The host side (R173, R178) -/

theorem HostPort.writeArrives_bounds {h : HostPort} (k : h.buffer.length ≤ 4) (a v : HostWord) (w : Bool) :
    (h.writeArrives a v w).buffer.length ≤ 4 ∧ (h.writeArrives a v w).promotion = h.promotion := by
  unfold HostPort.writeArrives
  split
  · exact ⟨k, rfl⟩
  · exact ⟨k, rfl⟩
  · exact HostPort.acceptWrite_bounds (h := { h with cycle := .write a v }) k w

theorem State.readArrives_hostPortOk {s : State} (a : HostWord) (h : s.hostPortOk) : (s.readArrives a).hostPortOk := by
  unfold State.readArrives State.acceptRead
  (repeat' split) <;> exact h

theorem State.acceptCycle_hostPortOk {s : State} (h : s.hostPortOk) : s.acceptCycle.hostPortOk := by
  unfold State.acceptCycle
  split
  · exact h
  · obtain ⟨buffer, promotion⟩ := HostPort.acceptWrite_bounds h.1 s.part.watching
    exact ⟨buffer, promotion.le.trans h.2⟩
  · exact State.readArrives_hostPortOk _ h
  · exact h

theorem State.drainEnded_hostPortOk {s : State} (h : s.hostPortOk) : s.drainEnded.hostPortOk :=
  State.acceptCycle_hostPortOk (s := { s with part := s.part.requestAllStatus, hp := { s.hp with draining := false } })
    ⟨h.1, h.2⟩

theorem HostPort.partGranted_hostPortOk {s : State} (h : s.hostPortOk) :
    s.hp.partGranted.buffer.length ≤ 4 ∧ s.hp.partGranted.promotion ≤ 8 := by
  obtain ⟨promotion, buffer⟩ := HostPort.partGranted_bounds h.2
  exact ⟨buffer ▸ h.1, promotion⟩

theorem State.grantRequest_hostPortOk {s : State} (r : StoreRequest) (h : s.hostPortOk) :
    (s.grantRequest r).hostPortOk := by
  cases r <;> exact HostPort.partGranted_hostPortOk h

theorem State.grant_hostPortOk {s : State} (c : Choice) (h : s.hostPortOk) : (s.grant c).hostPortOk :=
  State.grant_cases s c h (fun _ r => State.grantRequest_hostPortOk r h)
    (fun _ _ => HostPort.partGranted_hostPortOk h)
    (fun w rest e => by
      have room : rest.length ≤ 4 := by
        have := h.1
        rw [e, List.length_cons] at this
        omega
      obtain ⟨buffer, promotion⟩ :=
        HostPort.acceptWrite_bounds (h := { s.hp with buffer := rest, promotion := 0 }) room s.part.watching
      exact ⟨buffer, promotion.le.trans (Nat.zero_le 8)⟩)
    (fun _ => ⟨h.1, Nat.zero_le 8⟩)

theorem State.Reaches.hostPortOk {c : Instr} {s t : State} (r : State.Reaches c s t) (h : s.hostPortOk) :
    t.hostPortOk := by
  cases r with
  | powerOnReset => exact ⟨Nat.zero_le 4, Nat.zero_le 8⟩
  | softReset => exact ⟨h.1, Nat.zero_le 8⟩
  | softResetDrainEnd => exact State.drainEnded_hostPortOk h
  | attnCauseWrite => exact h
  | attnEnableWrite => exact h
  | apertureWrite _ n v => match n with
    | 0 | 1 | 2 => exact h
  | hostStoreWrite _ a v =>
    obtain ⟨buffer, promotion⟩ := HostPort.writeArrives_bounds h.1 a v s.part.watching
    exact ⟨buffer, promotion.le.trans h.2⟩
  | hostStoreRead _ a => exact State.readArrives_hostPortOk a h
  | storeGrant _ c => exact State.grant_hostPortOk c h
  | requestSlotRead => exact State.grant_hostPortOk .request h

theorem exec_hostPortOk {c : Instr} {s t : State} (h : s.hostPortOk) (e : exec c s = .next t) : t.hostPortOk :=
  exec_keeps e h (fun _ _ => h) (fun r => r.hostPortOk h)

/-! ## The tables of the gates (R1, R112, R117, R189) -/

/-- The tables of the part have their 32 places. -/
def Part.tablesFull (p : Part) : Prop :=
  p.gbt.bins.length = 32 ∧ p.gbt.pulses.length = 32 ∧ p.lct.timers.pulse.length = 32 ∧ p.gateCount ≤ 32

theorem State.tablesOk_iff (s : State) : s.tablesOk ↔ s.part.tablesFull := Iff.rfl

theorem Part.gateCount_congr {p q : Part} (h : q.dt.geometry = p.dt.geometry) : q.gateCount = p.gateCount := by
  simp [Part.gateCount, h]

theorem Part.tablesFull_congr {p q : Part} (bins : q.gbt.bins.length = p.gbt.bins.length)
    (pulses : q.gbt.pulses.length = p.gbt.pulses.length)
    (timers : q.lct.timers.pulse.length = p.lct.timers.pulse.length) (geometry : q.dt.geometry = p.dt.geometry)
    (h : p.tablesFull) : q.tablesFull := by
  unfold Part.tablesFull
  rw [bins, pulses, timers, Part.gateCount_congr geometry]
  exact h

theorem Part.commit_tablesFull {p : Part} (b : Part) (h : p.tablesFull) : (Part.commit b p).tablesFull :=
  Part.tablesFull_congr (by simp) (by simp) (by simp) (by simp) h

@[simp] theorem Part.supersede_geometry (p : Part) (l : List Item) (n o : Nat) :
    (p.supersede l n o).dt.geometry = p.dt.geometry := by simp

@[simp] theorem Part.turnDial_geometry (p : Part) (g : Geometry) : (p.turnDial g).dt.geometry = p.dt.geometry := by
  simp [Part.turnDial]

@[simp] theorem Part.openDwell_geometry (p : Part) (g : Geometry) : (p.openDwell g).dt.geometry = p.dt.geometry := rfl

@[simp] theorem Part.index_geometry (p : Part) : p.index.dt.geometry = p.dt.geometry := by
  unfold Part.index
  dsimp only
  (repeat' split) <;> simp_all

@[simp] theorem Part.handLine_geometry (p : Part) (l : LineId) (b : Bool) :
    (p.handLine l b).dt.geometry = p.dt.geometry := by
  unfold Part.handLine
  (repeat' split) <;> simp

@[simp] theorem Part.changeStable_geometry (p : Part) (l : LineId) :
    (p.changeStable l).dt.geometry = p.dt.geometry := by simp [Part.changeStable]

@[simp] theorem Part.changeStable_pulseTimers (p : Part) (l : LineId) :
    (p.changeStable l).lct.timers.pulse.length = p.lct.timers.pulse.length := by simp [Part.changeStable]

@[simp] theorem Part.pinChanged_geometry (p : Part) (l : LineId) (high : Bool) :
    (p.pinChanged l high).dt.geometry = p.dt.geometry := by
  unfold Part.pinChanged
  dsimp only
  (repeat' split) <;> simp

@[simp] theorem Part.pinChanged_pulseTimers (p : Part) (l : LineId) (high : Bool) :
    (p.pinChanged l high).lct.timers.pulse.length = p.lct.timers.pulse.length := by
  unfold Part.pinChanged
  dsimp only
  (repeat' split) <;> simp

@[simp] theorem Part.scanned_timers (p : Part) (bits : BitVec 64) : (p.scanned bits).lct.timers = p.lct.timers :=
  Part.foldl_same (fun q => q.lct.timers) _ (fun q c => by simp) _ _

/-- A configuration block that passes has at most 32 gates (R2). -/
theorem gateCount_le_of_passes {b : List Byte} (h : configFailure b = none) : Block.gateCount b ≤ 32 := by
  have passes := List.find?_eq_none.mp h
  have check := passes { ok := decide (1 ≤ Block.gateCount b ∧ Block.gateCount b ≤ 32), code := .gateCount }
    (by simp [configChecks, geometryChecks])
  simp at check
  exact check.2

theorem Part.configurePass_tablesFull {p : Part} {b : List Byte} (gates : Block.gateCount b ≤ 32) (h : p.tablesFull) :
    (p.configurePass b).tablesFull := by
  obtain ⟨-, pulses, timers, -⟩ := h
  refine ⟨?_, ?_, ?_, ?_⟩
  · simp [Part.configurePass, Part.configureBlocks]
  · simpa [Part.configurePass, Part.configureBlocks] using pulses
  · simpa [Part.configurePass, Part.configureBlocks, Timers.afterConfigure] using timers
  · simpa [Part.gateCount, Part.configurePass, Part.configureBlocks, Block.geometry, Block.gates] using gates

theorem Part.configureFail_tablesFull {p : Part} (c : Check) (h : p.tablesFull) : (p.configureFail c).tablesFull := by
  obtain ⟨-, pulses, timers, -⟩ := h
  refine ⟨?_, ?_, ?_, ?_⟩
  · simp [Part.configureFail]
  · simpa [Part.configureFail] using pulses
  · simpa [Part.configureFail, Timers.afterConfigure] using timers
  · simp [Part.gateCount, Part.configureFail, Dt.reset]

theorem Part.Works.tablesFull {c : Instr} {p q : Part} (w : Part.Works c p q) (h : p.tablesFull) : q.tablesFull := by
  have refused : p.refuseConfigure.tablesFull := h
  have begun : p.beginConfigure.tablesFull := h
  cases w with
  | configure =>
    unfold Part.configure
    split
    · exact refused
    · split
      · exact h
      · exact begun
  | configureHeldTaken =>
    unfold Part.configureTaken
    split
    · exact refused
    · exact begun
  | configureReadDone _ b _ =>
    unfold Part.configureRead
    split
    · exact refused
    · split
      · next passes => exact Part.configurePass_tablesFull (gateCount_le_of_passes passes) h
      · exact Part.configureFail_tablesFull _ h
  | _ => exact Part.tablesFull_congr (by simp) (by simp) (by simp) (by simp) h

theorem State.grantRequest_tablesFull {s : State} (r : StoreRequest) (h : s.part.tablesFull) :
    (s.grantRequest r).part.tablesFull := by
  cases r <;> exact Part.tablesFull_congr (by simp [State.grantRequest]) (by simp [State.grantRequest])
    (by simp [State.grantRequest]) (by simp [State.grantRequest]) h

theorem State.grant_tablesFull {s : State} (c : Choice) (h : s.part.tablesFull) : (s.grant c).part.tablesFull :=
  State.grant_cases (P := fun t => t.part.tablesFull) s c h (fun _ r => State.grantRequest_tablesFull r h) (fun _ _ => h)
    (fun _ _ _ => Part.tablesFull_congr (by simp [State.grantHostWrite]) (by simp [State.grantHostWrite])
      (by simp [State.grantHostWrite]) (by simp [State.grantHostWrite]) h)
    (fun _ => h)

theorem State.Reaches.tablesFull {c : Instr} {s t : State} (r : State.Reaches c s t) (h : s.part.tablesFull) :
    t.part.tablesFull := by
  have ofQueues {u : State} (e : { u.part with sa := s.part.sa } = s.part) : u.part.tablesFull := by
    rw [← e] at h
    exact h
  cases r with
  | powerOnReset => exact ⟨rfl, rfl, rfl, Nat.zero_le 32⟩
  | softReset => exact ⟨rfl, rfl, rfl, Nat.zero_le 32⟩
  | softResetDrainEnd => exact ofQueues s.drainEnded_keeps.2.2
  | attnCauseWrite => exact h
  | attnEnableWrite => exact h
  | apertureWrite => exact h
  | hostStoreWrite => exact h
  | hostStoreRead _ a => exact ofQueues (s.readArrives_keeps a).2.2
  | storeGrant _ c => exact Part.commit_tablesFull _ (s.grant_tablesFull c h)
  | requestSlotRead =>
    exact Part.commit_tablesFull _
      (Part.tablesFull_congr (by simp) (by simp) (by simp) (by simp) (s.grant_tablesFull .request h))

theorem exec_tablesOk {c : Instr} {s t : State} (h : s.tablesOk) (e : exec c s = .next t) : t.tablesOk :=
  exec_keeps e h (fun _ w => Part.commit_tablesFull _ (w.tablesFull h)) (fun r => r.tablesFull h)

/-- The passing of time replaces each timer by one. -/
theorem Part.tick_tablesFull {p : Part} (h : p.tablesFull) : p.tick.tablesFull :=
  Part.tablesFull_congr (p := p) rfl rfl (by simp [Part.tick, Timers.pass]) rfl h

/-- Settles O10. -/
theorem stepKeepsTheBoundsOfQueuesAndTables : Obligations.StepKeepsTheBoundsOfQueuesAndTables := fun _ _ e =>
  ⟨fun h => step_keeps e h (fun _ h => h) id (fun _ _ _ h e => exec_postsOk h e),
    fun h => step_keeps e h (fun _ h => h) id (fun _ _ _ h e => exec_hostPortOk h e),
    fun h => step_keeps e h (fun _ h => h) Part.tick_tablesFull (fun _ _ _ h e => exec_tablesOk h e)⟩

end Sys2Proof.Machine
end

section
/-! The passing of time, the reset state, what follows every command, and the resets (R14 to R16, R156, R180, R183,
R184). -/

namespace Sys2Proof.Machine

/-! ## Time (log 4) -/

theorem Lines.get_map (x : Lines) (f : Line → Line) (l : LineId) : (x.map f).get l = f (x.get l) := by
  cases l <;> rfl

theorem step_of_idle {s : State} (h : s.pending = []) : step s = .next { s with part := s.part.tick } := by
  unfold step
  rw [h]

/-- Settles O2. -/
theorem idleStepLetsTimePass : Obligations.IdleStepLetsTimePass := by
  intro s idle
  refine ⟨_, step_of_idle idle, ⟨rfl, rfl, rfl⟩, rfl, rfl, fun l => ?lines, rfl, rfl, fun _ _ => rfl⟩
  case lines => exact Lines.get_map _ _ l

/-! ## The reset state (R183) -/

theorem Part.gateLine_of_idle {p : Part} {n : Nat} (h : p.pulse n = .idle) : p.gateLine n = false := by
  simp [Part.gateLine, h]

theorem Gbt.reset_pulse (n : Nat) : Gbt.reset.pulses.getD n .idle = .idle :=
  (List.getD_eq_getElem?_getD ..).trans (List.getElem?_getD_replicate_default_eq ..)

/-- Settles O5. -/
theorem resetStateHoldsThePowerOnValues : Obligations.ResetStateHoldsThePowerOnValues := by
  refine ⟨rfl, rfl, rfl, rfl, rfl, rfl, rfl, rfl, rfl, rfl, rfl, rfl, rfl, rfl, rfl, rfl, ?channels, ?meters, ?slots,
    rfl, rfl, rfl, rfl, rfl, rfl, rfl, rfl, rfl, rfl, rfl, rfl, rfl, rfl, rfl, rfl, rfl, rfl, rfl, rfl, rfl, rfl, rfl,
    rfl, rfl, rfl, rfl, rfl, rfl, rfl, rfl, rfl, rfl, rfl, ?items, ?unheld, rfl, rfl, rfl, rfl, rfl, by decide, ?lines,
    rfl, rfl, rfl, rfl, rfl, rfl, ?gates, ?port, rfl, rfl, ?clocks, rfl, rfl⟩
  case channels =>
    intro m
    have reset : State.reset.part.channel m = Channel.reset false false := Four.get_const _ m
    rw [Part.trigLine, Part.ldatDriven, reset]
    exact ⟨rfl, rfl, rfl, rfl, rfl, rfl, rfl, rfl, rfl, rfl, rfl, rfl⟩
  case meters =>
    intro m
    rw [show State.reset.part.rsc.get m = RefMeter.reset from Four.get_const _ m]
    exact ⟨rfl, rfl, rfl, rfl⟩
  case slots =>
    intro s
    cases s <;> exact ⟨rfl, rfl, rfl⟩
  case items => simp [State.reset, Function.comp_def]
  case unheld =>
    intro r hr
    obtain ⟨i, -, rfl⟩ := List.mem_map.mp hr
    rfl
  case lines =>
    intro l
    cases l <;> exact ⟨rfl, rfl, rfl, rfl⟩
  case gates => exact fun n => Part.gateLine_of_idle (Gbt.reset_pulse n)
  case port => exact fun n => BitVec.getLsbD_zero
  case clocks =>
    intro m
    rw [Part.lclkLine, show State.reset.part.channel m = Channel.reset false false from Four.get_const _ m]
    rfl

/-! ## PERMIT after a command (R14 to R16) -/

theorem Part.permitConditions_iff (p : Part) :
    p.permitConditions = true ↔
      (p.lsq.engine = .run ∨ p.lsq.engine = .drain) ∧ (∀ i ∈ p.dt.items, i.state = .complete) ∧
        p.jw.queue.length + 4 ≤ 16 := by
  have places : 4 ≤ p.jw.freePlaces ↔ p.jw.queue.length + 4 ≤ 16 := by
    unfold Jw.freePlaces
    omega
  simp only [Part.permitConditions, Bool.and_eq_true, EngineState.working_iff, List.all_eq_true, beq_iff_eq,
    decide_eq_true_eq, places, and_assoc]

/-- What follows a command and reaches PERMIT: the conditions looked at, whatever the RQX has taken. -/
theorem Part.commit_dt (b p : Part) : (Part.commit b p).dt = p.fetchPost.settlePermit.dt := rfl

theorem Part.commit_lct (b p : Part) : (Part.commit b p).lct = p.fetchPost.settlePermit.lct := rfl

theorem Part.fetchPost_conditions (p : Part) : p.fetchPost.permitConditions = p.permitConditions :=
  Part.permitConditions_congr (by simp) (by simp) (by simp)

theorem Part.settlePermit_rises {p : Part} (h : p.permitConditions = true) (k : p.dt.permit = false) :
    p.settlePermit = p.raisePermit := by simp [Part.settlePermit, h, k]

theorem Part.settlePermit_falls {p : Part} (h : p.permitConditions = false) (k : p.dt.permit = true) :
    p.settlePermit = p.dropPermit := by simp [Part.settlePermit, h, k]

theorem Part.settlePermit_stays {p : Part} (h : p.permitConditions = p.dt.permit) : p.settlePermit = p := by
  unfold Part.settlePermit
  cases k : p.dt.permit <;> simp [h, k]

/-- Settles O11: PERMIT rises, falls or stays, by its conditions before and after. -/
theorem permitFollowsItsConditions : Obligations.PermitFollowsItsConditions := by
  intro b p
  have dt : p.fetchPost.dt = p.dt := by simp
  refine ⟨p.permitConditions_iff, ?permit, fun rise low => ?rises, fun fall high => ?falls, fun stay => ?stays⟩
  case permit =>
    rw [Part.commit_permit]
    exact Part.permitConditions_congr (by simp) (by simp) (by simp)
  case rises =>
    have risen := Part.settlePermit_rises (p.fetchPost_conditions.trans rise) (by rw [dt]; exact low)
    rw [Part.commit_dt, Part.commit_lct, risen]
    refine ⟨by unfold Part.raisePermit; dsimp only; split <;> rfl, fun g hg => ?_⟩
    simp [Part.raisePermit, hg, Timer.start]
  case falls =>
    have fallen := Part.settlePermit_falls (p.fetchPost_conditions.trans fall) (by rw [dt]; exact high)
    rw [Part.commit_dt, Part.commit_lct, fallen]
    exact ⟨by simp [Part.dropPermit], rfl⟩
  case stays =>
    have stayed := Part.settlePermit_stays (p := p.fetchPost) (by rw [p.fetchPost_conditions, dt]; exact stay)
    rw [Part.commit_dt, Part.commit_lct, stayed]
    exact ⟨by simp, by simp⟩

/-! ## The RQX takes the next post (R156) -/

theorem Part.commit_rqx (b p : Part) : (Part.commit b p).rqx = p.fetchPost.rqx := by simp [Part.commit]

theorem Part.commit_request (b p : Part) : (Part.commit b p).sa.request = p.fetchPost.sa.request := by
  simp [Part.commit]

theorem Cfg.inProgress_iff (c : Cfg) : c.inProgress = true ↔ c.work ≠ .none := by simp [Cfg.inProgress]

/-- A free RQX takes the head of the post queue. -/
theorem Part.fetchPost_of_free {p : Part} {base i : Nat} {rest : List Nat} (current : p.rqx.current = none)
    (reading : p.rqx.reading = none) (hbase : p.rqx.base = some base) (posts : p.rqx.posts = i :: rest)
    (work : p.cfg.work = .none) :
    p.fetchPost =
      { p.fileRequest (readRequests (slotAddress base i) 32 .slot) with
        rqx := { p.rqx with
          posts := rest, reading := some { slot := i, address := slotAddress base i, data := none } } } := by
  unfold Part.fetchPost
  simp [current, reading, hbase, posts, Cfg.inProgress, work]

/-- An RQX that is held, or has nothing to take, takes nothing. -/
theorem Part.fetchPost_of_held {p : Part}
    (h : p.rqx.current ≠ none ∨ p.rqx.reading ≠ none ∨ p.rqx.base = none ∨ p.rqx.posts = [] ∨ p.cfg.work ≠ .none) :
    p.fetchPost = p := by
  unfold Part.fetchPost
  split
  · next current reading base posts =>
    have work : p.cfg.inProgress = true := (Cfg.inProgress_iff _).mpr (by simpa [current, reading, base, posts] using h)
    rw [if_pos work]
  · rfl

/-- Settles O13. -/
theorem rqxTakesTheNextPost : Obligations.RqxTakesTheNextPost := by
  intro b p
  refine ⟨fun base i rest current reading hbase posts work => ?_, fun held => ?_⟩
  · rw [Part.commit_rqx, Part.commit_request, Part.fetchPost_of_free current reading hbase posts work]
    exact ⟨rfl, rfl, rfl⟩
  · rw [Part.commit_rqx, Part.commit_request, Part.fetchPost_of_held held]
    exact ⟨rfl, rfl⟩

/-! ## The STATUS queue after a command (R180) -/

theorem requestItem_eq (q : List StatusRequest) (i : StatusItem) :
    requestItem q i = if ∃ r ∈ q, r.item = i then q else q ++ [{ item := i, holdsRead := false }] := by
  simp [requestItem]

/-- Requesting items once each keeps the items of the queue distinct. -/
theorem requestItem_nodup (q : List StatusRequest) (i : StatusItem) (h : (q.map StatusRequest.item).Nodup) :
    ((requestItem q i).map StatusRequest.item).Nodup := by
  rw [requestItem_eq]
  split
  · exact h
  · next absent =>
    simp only [List.map_append, List.map_cons, List.map_nil, List.nodup_append, List.nodup_singleton]
    refine ⟨h, trivial, fun x hx y hy e => absent ?_⟩
    obtain ⟨r, hr, hri⟩ := List.mem_map.mp hx
    exact ⟨r, hr, by rw [hri, e, List.mem_singleton.mp hy]⟩

theorem foldl_requestItem_nodup (is : List StatusItem) (q : List StatusRequest) (h : (q.map StatusRequest.item).Nodup) :
    ((is.foldl requestItem q).map StatusRequest.item).Nodup := by
  induction is generalizing q with
  | nil => exact h
  | cons i rest ih => exact ih _ (requestItem_nodup q i h)

theorem StatusItem.mem_all (i : StatusItem) : i ∈ StatusItem.all := by
  cases i with
  | planSlot s => cases s <;> simp [StatusItem.all]
  | channel m => match m with
    | 0 | 1 | 2 | 3 => simp [StatusItem.all]
  | bin n => simp [StatusItem.all]
  | _ => simp [StatusItem.all]

/-- Of the items that a commit requests each has a write in the queue. -/
theorem Part.commit_status_has {b p : Part} {i : StatusItem}
    (h : i ∈ p.changed.drop b.changed.length ++ Part.alteredItems b p) :
    ∃ r ∈ (Part.commit b p).sa.status, r.item = i := by
  obtain ⟨-, -, -, -, written⟩ := foldl_requestItem_spec _ p.sa.status
  rw [Part.commit_status]
  exact written i h

theorem Part.mem_alteredItems {p q : Part} {i : StatusItem} (h : p.statusBytes i ≠ q.statusBytes i) :
    i ∈ Part.alteredItems p q := List.mem_filter.mpr ⟨i.mem_all, by simpa using h⟩

/-! ## Noting the items that change (R180, R193) -/

/-- A filter that passes none of the elements left out. -/
theorem filter_eq_of_sublist {α : Type} {l m : List α} {f : α → Bool} (s : l.Sublist m) (nodup : m.Nodup)
    (only : ∀ i ∈ m, i ∉ l → f i = false) : l.filter f = m.filter f := by
  induction s with
  | slnil => rfl
  | @cons l m a s ih =>
    obtain ⟨fresh, nodup⟩ := List.nodup_cons.mp nodup
    have out : f a = false := only a List.mem_cons_self (fun h => fresh (s.subset h))
    rw [List.filter_cons, out, ih nodup fun i hi => only i (List.mem_cons_of_mem _ hi)]
    rfl
  | @cons_cons l m a s ih =>
    obtain ⟨fresh, nodup⟩ := List.nodup_cons.mp nodup
    have rest := ih nodup fun i hi out => only i (List.mem_cons_of_mem _ hi) fun h => by
      rcases List.mem_cons.mp h with rfl | h
      · exact fresh hi
      · exact out h
    rw [List.filter_cons, List.filter_cons, rest]

/-- Noting the items of `l`, in the table's order, notes all that differ where no other item can. -/
theorem Part.noteChanges_notes {l : List StatusItem} {p q : Part} (changed : q.changed = p.changed)
    (order : l.Sublist StatusItem.all) (only : ∀ i, i ∉ l → q.statusBytes i = p.statusBytes i) :
    (Part.noteChanges l p q).changed =
      p.changed ++ StatusItem.all.filter (fun i => p.statusBytes i != (Part.noteChanges l p q).statusBytes i) := by
  have same : (Part.noteChanges l p q).statusBytes = q.statusBytes :=
    Part.statusBytes_congr rfl rfl rfl rfl rfl rfl rfl
  rw [Part.noteChanges_changed, changed, same,
    filter_eq_of_sublist order (by decide) fun i _ out => by simp [only i out]]

theorem StatusItem.singleton_sublist (i : StatusItem) : [i].Sublist StatusItem.all :=
  List.singleton_sublist.mpr i.mem_all

theorem binItem_sublist (n : Nat) : (binItem n).Sublist StatusItem.all := by
  unfold binItem
  split
  · exact StatusItem.singleton_sublist _
  · exact List.nil_sublist _

theorem mem_binItem {n : Nat} {k : Fin 32} (h : n = k.val) : StatusItem.bin k ∈ binItem n := by
  subst h
  simp [binItem]

/-- A change of channel `m`, or of its meter, shows in the item of the channel alone. -/
theorem Part.statusBytes_of_otherChannels {p q : Part} {m : Meter} (lsq : q.lsq = p.lsq) (cfg : q.cfg = p.cfg)
    (lcu : q.lcu = p.lcu) (ps : q.ps = p.ps) (gbt : q.gbt = p.gbt) (channels : ∀ x, x ≠ m → q.channel x = p.channel x)
    (refs : ∀ x, x ≠ m → q.rsc.get x = p.rsc.get x) (i : StatusItem) (out : i ∉ [StatusItem.channel m]) :
    q.statusBytes i = p.statusBytes i := by
  cases i with
  | channel x =>
    have other : x ≠ m := fun h => out (by simp [h])
    simp only [Part.statusBytes, channels x other, refs x other]
  | _ => simp only [Part.statusBytes, Part.bin, lsq, cfg, lcu, ps, gbt]

theorem Part.setChannel_notes (p : Part) (m : Meter) (c : Channel) :
    (p.setChannel m c).changed =
      p.changed ++ StatusItem.all.filter (fun i => p.statusBytes i != (p.setChannel m c).statusBytes i) :=
  Part.noteChanges_notes rfl (StatusItem.singleton_sublist _)
    (Part.statusBytes_of_otherChannels rfl rfl rfl rfl rfl (fun _ h => Four.get_set_ne _ _ h) (fun _ _ => rfl))

theorem Part.setRef_notes (p : Part) (m : Meter) (r : RefMeter) :
    (p.setRef m r).changed =
      p.changed ++ StatusItem.all.filter (fun i => p.statusBytes i != (p.setRef m r).statusBytes i) :=
  Part.noteChanges_notes rfl (StatusItem.singleton_sublist _)
    (Part.statusBytes_of_otherChannels rfl rfl rfl rfl rfl (fun _ _ => rfl) (fun _ h => Four.get_set_ne _ _ h))

theorem Part.setBin_notes (p : Part) (n : Nat) (b : BinEntry) :
    (p.setBin n b).changed =
      p.changed ++ StatusItem.all.filter (fun i => p.statusBytes i != (p.setBin n b).statusBytes i) := by
  refine Part.noteChanges_notes rfl (binItem_sublist n) fun i out => ?_
  cases i with
  | bin k =>
    have other : k.val ≠ n := fun h => out (mem_binItem h.symm)
    have bin : ({ p with gbt := { p.gbt with bins := p.gbt.bins.set n b } } : Part).bin k.val = p.bin k.val := by
      simp [Part.bin, List.getElem?_set_ne (Ne.symm other)]
    simp only [Part.statusBytes, bin]
  | _ => rfl

theorem Part.setNextSequence_notes (p : Part) (n : Nat) :
    (p.setNextSequence n).changed =
      p.changed ++ StatusItem.all.filter (fun i => p.statusBytes i != (p.setNextSequence n).statusBytes i) := by
  refine Part.noteChanges_notes rfl (StatusItem.singleton_sublist _) fun i out => ?_
  cases i with
  | nextSequence => simp at out
  | _ => rfl

theorem Part.setPs_notes (p : Part) (x : Ps) :
    (p.setPs x).changed =
      p.changed ++ StatusItem.all.filter (fun i => p.statusBytes i != (p.setPs x).statusBytes i) := by
  refine Part.noteChanges_notes rfl (by decide) fun i out => ?_
  cases i with
  | planSlot s => cases s <;> simp at out
  | loadSlot => simp at out
  | switchTarget => simp at out
  | switchSequence => simp at out
  | _ => rfl

theorem Part.setLsq_notes (p : Part) (x : Lsq) :
    (p.setLsq x).changed =
      p.changed ++ StatusItem.all.filter (fun i => p.statusBytes i != (p.setLsq x).statusBytes i) := by
  refine Part.noteChanges_notes rfl (by decide) fun i out => ?_
  cases i with
  | engine => simp at out
  | lotMode => simp at out
  | holdSet => simp at out
  | haltCause => simp at out
  | parked => simp at out
  | portLatch => simp at out
  | lotNumber => simp at out
  | _ => rfl

theorem Part.setCfg_notes (p : Part) (x : Cfg) :
    (p.setCfg x).changed =
      p.changed ++ StatusItem.all.filter (fun i => p.statusBytes i != (p.setCfg x).statusBytes i) := by
  refine Part.noteChanges_notes rfl (by decide) fun i out => ?_
  cases i with
  | configResult => simp at out
  | failingStation => simp at out
  | _ => rfl

theorem Part.asOneChange_notes (p q : Part) :
    (Part.asOneChange p q).changed =
      p.changed ++ StatusItem.all.filter (fun i => p.statusBytes i != (Part.asOneChange p q).statusBytes i) := by
  have same : (Part.asOneChange p q).statusBytes = q.statusBytes :=
    Part.statusBytes_congr rfl rfl rfl rfl rfl rfl rfl
  rw [Part.asOneChange_changed, same]

/-- Settles O12. -/
theorem statusWritesFollowTheChanges : Obligations.StatusWritesFollowTheChanges := by
  refine ⟨fun b p => ⟨(Part.commit_queues b p).2.2.2, Part.commit_follows b p, ?queue, fun i ne => ?altered,
    fun i noted => ?noted, fun nodup => ?nodup, fun i => ?bytes, Part.commit_changed b p⟩,
    Part.setChannel_notes, Part.setRef_notes, Part.setBin_notes, Part.setNextSequence_notes, Part.setPs_notes,
    Part.setLsq_notes, Part.setCfg_notes, Part.asOneChange_notes⟩
  case queue =>
    have form : requestItem =
        fun q i => if ∃ r ∈ q, r.item = i then q else q ++ [{ item := i, holdsRead := false }] := by
      funext q i
      exact requestItem_eq q i
    rw [Part.commit_status, form]
    rfl
  case altered => exact Part.commit_status_has (List.mem_append_right _ (Part.mem_alteredItems ne))
  case noted => exact Part.commit_status_has (List.mem_append_left _ noted)
  case nodup =>
    rw [Part.commit_status]
    exact foldl_requestItem_nodup _ _ nodup
  case bytes => rw [Part.statusBytes_commit]

end Sys2Proof.Machine
end

section
/-! The resets (R183, R184), the registers and the outputs (R172, R190), the host address space and the host's store cycles
(R171, R173, R174), and the order of the grants (R178). -/

namespace Sys2Proof.Machine

/-! ## Resets (R183, R184) -/

theorem HostPort.dataAtReset_of_read {h : HostPort} {x : StoreAddr} {y : HostWord}
    (k : h.cycle = .read x ∨ h.cycle = .readWaiting y) : h.dataAtReset = 0xFFFF := by
  rcases k with k | k <;> simp [HostPort.dataAtReset, k]

theorem HostPort.dataAtReset_of_other {h : HostPort} {a v : HostWord} (k : h.cycle = .none ∨ h.cycle = .write a v) :
    h.dataAtReset = h.data := by
  rcases k with k | k <;> simp [HostPort.dataAtReset, k]

/-- Requesting items that differ from one another and have no write waiting adds a write of each, in their order. -/
theorem foldl_requestItem_of_fresh (is : List StatusItem) (q : List StatusRequest) (nodup : is.Nodup)
    (fresh : ∀ i ∈ is, ∀ r ∈ q, r.item ≠ i) :
    is.foldl requestItem q = q ++ is.map (fun i => { item := i, holdsRead := false }) := by
  induction is generalizing q with
  | nil => simp
  | cons i rest ih =>
    obtain ⟨new, nodup⟩ := List.nodup_cons.mp nodup
    have added : requestItem q i = q ++ [{ item := i, holdsRead := false }] := by
      rw [requestItem_eq, if_neg]
      rintro ⟨r, hr, hi⟩
      exact fresh i List.mem_cons_self r hr hi
    rw [List.foldl_cons, added, ih _ nodup]
    · simp
    · intro x hx r hr
      rcases List.mem_append.mp hr with hr | hr
      · exact fresh x (List.mem_cons_of_mem _ hx) r hr
      · rw [List.mem_singleton.mp hr]
        rintro rfl
        exact new hx

/-- A write of every item, in the order of the table, on an empty STATUS queue. -/
theorem requestItems_all_of_empty :
    StatusItem.all.foldl requestItem [] = StatusItem.all.map (fun i => { item := i, holdsRead := false }) :=
  foldl_requestItem_of_fresh _ _ (by decide) (fun _ _ _ h => absurd h List.not_mem_nil)

theorem Part.powerOn_requestAllStatus (p : Part) :
    p.powerOn.requestAllStatus = { p.powerOn with sa := State.reset.part.sa } := by
  simp only [Part.requestAllStatus, Part.requestItems, Part.powerOn, Sa.empty, requestItems_all_of_empty]
  rfl

/-- Settles O14. -/
theorem powerOnResetPutsEveryBlockAtReset : Obligations.PowerOnResetPutsEveryBlockAtReset := by
  intro s
  refine ⟨_, rfl, rfl, rfl, ?part, rfl, fun x y k => HostPort.dataAtReset_of_read k,
    fun a v k => HostPort.dataAtReset_of_other k⟩
  case part =>
    show s.part.powerOn.requestAllStatus = _
    rw [Part.powerOn_requestAllStatus]
    rfl

theorem exec_softReset_of_draining {s : State} (h : s.hp.draining = true) : exec .softReset s = .next s := if_pos h

theorem exec_softReset_of_free {s : State} (h : s.hp.draining = false) (k : s.hp.cycle = .none) :
    exec .softReset s = .next s.softReset := by
  have idle : ¬ s.hp.draining = true := by simp [h]
  exact (if_neg idle).trans (State.onBus_of_free k _)

theorem exec_softResetDrainEnd_of_drained {s : State} (h : s.hp.draining = true) (k : s.hp.buffer = []) :
    exec .softResetDrainEnd s = .next s.drainEnded := if_pos ⟨h, k⟩

/-- A read that is taken keeps every write that waits in the STATUS queue. -/
theorem State.readArrives_status (s : State) (a : HostWord) :
    (s.readArrives a).part.sa.status.map StatusRequest.item = s.part.sa.status.map StatusRequest.item := by
  unfold State.readArrives State.acceptRead
  (repeat' split) <;> simp [Sa.markHolds, StatusRequest.markHolds, Function.comp_def]

theorem State.acceptCycle_status (s : State) :
    s.acceptCycle.part.sa.status.map StatusRequest.item = s.part.sa.status.map StatusRequest.item := by
  unfold State.acceptCycle
  split
  · rfl
  · rfl
  · exact State.readArrives_status _ _
  · rfl

theorem Part.requestAllStatus_has (p : Part) (i : StatusItem) :
    i ∈ p.requestAllStatus.sa.status.map StatusRequest.item := by
  obtain ⟨-, -, -, -, written⟩ := foldl_requestItem_spec StatusItem.all p.sa.status
  rw [Part.requestAllStatus, Part.requestItems_sa]
  dsimp only
  exact List.mem_map.mpr (written i i.mem_all)

/-- The drain's end is the taking of the cycle that waits, once the status writes are requested and the drain is over. -/
theorem State.drainEnded_eq (s : State) :
    ∃ u : State, s.drainEnded = u.acceptCycle ∧ u.part = s.part.requestAllStatus ∧
      u.hp = { s.hp with draining := false } :=
  ⟨{ s with part := s.part.requestAllStatus, hp := { s.hp with draining := false } }, by rw [State.drainEnded], rfl, rfl⟩

/-- The drain's end: a write of every item waits. -/
theorem State.drainEnded_status (s : State) (i : StatusItem) : ∃ r ∈ s.drainEnded.part.sa.status, r.item = i := by
  obtain ⟨u, ended, part, -⟩ := s.drainEnded_eq
  have h := s.part.requestAllStatus_has i
  rw [← part, ← State.acceptCycle_status, ← ended] at h
  exact List.mem_map.mp h

theorem HostPort.acceptWrite_draining (h : HostPort) (w : Bool) : (h.acceptWrite w).draining = h.draining := by
  unfold HostPort.acceptWrite
  (repeat' split) <;> rfl

theorem State.readArrives_draining (s : State) (a : HostWord) : (s.readArrives a).hp.draining = s.hp.draining := by
  unfold State.readArrives State.acceptRead
  (repeat' split) <;> rfl

theorem State.acceptCycle_draining (s : State) : s.acceptCycle.hp.draining = s.hp.draining := by
  unfold State.acceptCycle
  split
  · rfl
  · exact HostPort.acceptWrite_draining _ _
  · exact State.readArrives_draining _ _
  · rfl

theorem State.acceptCycle_of_none {u : State} (h : u.hp.cycle = .none) : u.acceptCycle = u := by
  simp [State.acceptCycle, h]

/-- A write cycle that waits joins a buffer with room. -/
theorem HostPort.acceptWrite_of_room {h : HostPort} {a v : HostWord} {x : StoreAddr} (watched : Bool)
    (cycle : h.cycle = .write a v) (free : h.draining = false) (room : h.buffer.length < 4)
    (store : h.translate a = .store x) :
    h.acceptWrite watched =
      { h with buffer := h.buffer ++ [{ address := x, value := v, watched }], cycle := .none } := by
  unfold HostPort.acceptWrite
  simp only [cycle, free, room, store, and_self, if_true]

/-- A write cycle waits while there is no room, and during a drain. -/
theorem HostPort.acceptWrite_of_full {h : HostPort} (watched : Bool)
    (full : h.draining = true ∨ 4 ≤ h.buffer.length) : h.acceptWrite watched = h := by
  have shut : ¬ (h.draining = false ∧ h.buffer.length < 4) := by
    rintro ⟨free, room⟩
    rcases full with full | full
    · rw [free] at full
      cases full
    · omega
  unfold HostPort.acceptWrite
  split
  · rw [if_neg shut]
  all_goals rfl

theorem State.readArrives_of_store {s : State} {a : HostWord} {x : StoreAddr} (store : s.hp.translate a = .store x)
    (free : s.hp.draining = false) : s.readArrives a = s.acceptRead x := by
  simp [State.readArrives, store, free]

/-- Settles O15: the reset replaces the part and begins the drain; the drain's end requests the status block and takes the
cycle that waits. -/
theorem softResetAndItsDrain : Obligations.SoftResetAndItsDrain := by
  refine ⟨fun s => ⟨exec_softReset_of_draining, fun idle free => ⟨_, exec_softReset_of_free idle free, rfl, rfl, rfl, rfl⟩⟩,
    fun s draining empty => ?_⟩
  obtain ⟨pending, store, part⟩ := s.drainEnded_keeps
  obtain ⟨u, ended, upart, uhp⟩ := s.drainEnded_eq
  have watching : u.part.watching = s.part.rqx.base.isSome := by rw [upart]; rfl
  refine ⟨_, exec_softResetDrainEnd_of_drained draining empty, store, pending, ?free, part, s.drainEnded_status,
    fun cycle => ?none, fun a v x cycle translated => ?write, fun a x cycle translated => ?read⟩
  all_goals rw [ended]
  case free => rw [State.acceptCycle_draining, uhp]
  case none => rw [State.acceptCycle_of_none (by rw [uhp]; exact cycle), uhp]
  case write =>
    have taken := HostPort.acceptWrite_of_room (h := u.hp) u.part.watching (by rw [uhp]; exact cycle)
      (by rw [uhp]) (by rw [uhp]; simp [empty]) (by rw [uhp]; exact translated)
    have waits : u.hp.cycle = .write a v := by rw [uhp]; exact cycle
    simp only [State.acceptCycle, waits]
    rw [taken, uhp, watching, empty]
    rfl
  case read =>
    have waits : u.hp.cycle = .readWaiting a := by rw [uhp]; exact cycle
    simp only [State.acceptCycle, waits]
    rw [State.readArrives_of_store (by rw [uhp]; exact translated) (by rw [uhp]), State.acceptRead, uhp]

/-! ## Attention and apertures (R171, R172, R175) -/

theorem exec_attnEnableWrite {s : State} (h : s.hp.cycle = .none) (v : HostWord) :
    exec (.attnEnableWrite v) s = .next (s.setAttn (s.part.attn.setEnable v)) := State.onBus_of_free h _

theorem Attn.setEnable_getLsbD (a : Attn) (v : HostWord) {i : Nat} (h : i < 7) :
    (a.setEnable v).enable.getLsbD i = (v.getLsbD i || decide (i = 0)) := by
  simp [Attn.setEnable, h]

/-- A latch changes the cause register alone. -/
theorem Part.latch_attn (p : Part) (c : AttnCause) :
    { p.latch c with attn := p.attn } = p ∧ (p.latch c).attn.enable = p.attn.enable := by
  unfold Part.latch
  split <;> exact ⟨rfl, rfl⟩

theorem Part.latch_getLsbD (p : Part) (c : AttnCause) {i : Nat} (_ : i < 7) :
    (p.latch c).attn.cause.getLsbD i =
      (p.attn.cause.getLsbD i || (i == c.bit && (c == .halt || p.attn.enable.getLsbD c.bit))) := by
  by_cases latches : c = .halt ∨ p.attn.enable.getLsbD c.bit = true
  · have open' : (c == .halt || p.attn.enable.getLsbD c.bit) = true := by simpa using latches
    rw [Part.latch_of_enabled latches, open']
    have one : (1#7 <<< c.bit).getLsbD i = (i == c.bit) := by
      rw [← BitVec.twoPow_eq, BitVec.getLsbD_twoPow]
      simp [c.bit_lt, eq_comm, Bool.beq_eq_decide_eq]
    simp [one]
  · have shut : (c == .halt || p.attn.enable.getLsbD c.bit) = false := by simpa using latches
    rw [Part.latch, if_neg latches, shut]
    simp

/-- Settles O18. -/
theorem attnEnablesGateTheLatching : Obligations.AttnEnablesGateTheLatching := by
  refine ⟨fun v s free => ⟨_, exec_attnEnableWrite free v, ⟨rfl, rfl, rfl⟩, rfl, rfl, ?ones, fun i low high => ?bits,
    Part.attnLine_iff _⟩, fun p c => ⟨(p.latch_attn c).1, (p.latch_attn c).2, fun i h => p.latch_getLsbD c h⟩⟩
  case ones =>
    have bit := s.part.attn.setEnable_getLsbD v (i := 0) (by decide)
    rw [decide_eq_true rfl, Bool.or_true] at bit
    exact bit
  case bits =>
    have bit := s.part.attn.setEnable_getLsbD v high
    rw [decide_eq_false (by omega), Bool.or_false] at bit
    exact bit

theorem exec_apertureWrite {s : State} (h : s.hp.cycle = .none) (n : Fin 3) (v : HostWord) :
    exec (.apertureWrite n v) s = .next { s with hp := s.hp.setAperture n (apertureOfWord v) } := State.onBus_of_free h _

/-- Page and enable stand in bits of their own. -/
theorem Aperture.word_eq (a : Aperture) :
    a.word = a.page.setWidth 16 ||| (if a.enabled then 0x8000#16 else 0#16) := by
  obtain ⟨enabled, page⟩ := a
  cases enabled
  · simp [Aperture.word]
  · have apart : page.setWidth 16 &&& 0x8000#16 = 0#16 := by
      apply BitVec.eq_of_toNat_eq
      have bound := page.isLt
      have low : page.toNat % 2 ^ 16 = page.toNat := Nat.mod_eq_of_lt (by omega)
      have clear : page.toNat.testBit 15 = false := Nat.testBit_lt_two_pow (by omega)
      rw [BitVec.toNat_and, BitVec.toNat_setWidth, low]
      exact (Nat.and_two_pow page.toNat 15).trans (by rw [clear]; rfl)
    have sum := BitVec.add_eq_or_of_and_eq_zero _ _ apart
    simpa [Aperture.word, BitVec.ofNat_add] using sum

/-- An aperture's register reads back the bits written that it holds. -/
theorem Aperture.word_apertureOfWord (v : HostWord) : (apertureOfWord v).word = v &&& 0x807F := by
  rw [Aperture.word_eq]
  apply BitVec.eq_of_getLsbD_eq
  intro i hi
  interval_cases i <;> simp [apertureOfWord] <;> split <;> simp_all

/-- Settles O19. -/
theorem apertureAndIgnoredWrites : Obligations.ApertureAndIgnoredWrites := by
  refine ⟨fun n v s free => ⟨_, exec_apertureWrite free n v, ?_⟩, fun _ _ _ => rfl⟩
  match n with
  | 0 | 1 | 2 => exact ⟨rfl, rfl, rfl, rfl, rfl, rfl, rfl, Aperture.word_apertureOfWord v⟩

/-! ## The host's cycles (R171, R173, R174) -/

/-- Settles O20. -/
theorem hostAddressesTranslate : Obligations.HostAddressesTranslate := by
  intro h a
  dsimp only
  have bound := a.isLt
  have even : 2 * (a.toNat / 2) = a.toNat - a.toNat % 2 := by omega
  unfold HostPort.translate
  rw [even]
  refine ⟨fun high => ?registers, fun low high => ?direct, fun low high => ?first, fun low high => ?second,
    fun low => ?third⟩
  case registers => rw [if_pos (by omega)]
  case direct => rw [if_neg (by omega), if_pos (by omega)]
  case first =>
    rw [if_neg (by omega), if_neg (by omega), if_pos (by omega)]
    rfl
  case second =>
    rw [if_neg (by omega), if_neg (by omega), if_neg (by omega), if_pos (by omega)]
    rfl
  case third =>
    rw [if_neg (by omega), if_neg (by omega), if_neg (by omega), if_neg (by omega)]
    rfl

theorem exec_hostStoreWrite {s : State} (h : s.hp.cycle = .none) (a v : HostWord) :
    exec (.hostStoreWrite a v) s = .next { s with hp := s.hp.writeArrives a v s.part.watching } := State.onBus_of_free h _

theorem exec_hostStoreRead {s : State} (h : s.hp.cycle = .none) (a : HostWord) :
    exec (.hostStoreRead a) s = .next (s.readArrives a) := State.onBus_of_free h _

theorem HostPort.writeArrives_of_store {h : HostPort} {a : HostWord} {x : StoreAddr} (k : h.translate a = .store x)
    (v : HostWord) (w : Bool) : h.writeArrives a v w = ({ h with cycle := .write a v } : HostPort).acceptWrite w := by
  simp [HostPort.writeArrives, k]

theorem HostPort.setCycle_none {h : HostPort} (k : h.cycle = .none) : { h with cycle := .none } = h := by
  rw [← k]

/-- Settles O21: a disabled aperture drops the write; else the cycle is accepted where there is room. -/
theorem hostWriteJoinsTheBuffer : Obligations.HostWriteJoinsTheBuffer := by
  intro a v s _ free
  rw [exec_hostStoreWrite free]
  refine ⟨fun disabled => ?_, fun x store idle room => ?_, fun x store full => ⟨?_, rfl⟩⟩
  · simp [HostPort.writeArrives, disabled]
  · rw [HostPort.writeArrives_of_store store,
      HostPort.acceptWrite_of_room (h := { s.hp with cycle := .write a v }) _ rfl idle room store]
    simp [Part.watching, ← free]
  · rw [HostPort.writeArrives_of_store store,
      HostPort.acceptWrite_of_full (h := { s.hp with cycle := .write a v }) _ full]

/-! ## Which request is granted (R174, R178, R179) -/

theorem State.portChoice_of_buffer {s : State} (h : s.hp.buffer ≠ []) : s.portChoice = some .hostWrite := by
  unfold State.portChoice
  split
  · rfl
  · next e => exact absurd e h

theorem State.portChoice_of_read {s : State} {a : StoreAddr} (h : s.hp.buffer = []) (k : s.hp.cycle = .read a) :
    s.portChoice = if s.part.sa.holdsRead then none else some .hostRead := by
  unfold State.portChoice
  rw [h, k]
  cases s.part.sa.holdsRead <;> rfl

/-- Settles O23: the branches of the choice, one after the other. -/
theorem grantsFollowTheClassOrder : Obligations.GrantsFollowTheClassOrder := by
  intro s
  refine ⟨fun draining => ?drain, fun idle => ⟨fun c full port => ?promoted, fun unpromoted => ?classes⟩,
    State.portChoice_of_buffer, fun a empty read => State.portChoice_of_read empty read⟩
  case drain =>
    simp only [State.choice, draining, if_true, List.isEmpty_iff]
  case promoted =>
    simp [State.choice, idle, full, port]
  case classes =>
    have none : ¬ (s.hp.promotion = 8 ∧ s.portChoice.isSome = true) := by
      rintro ⟨full, some⟩
      rcases unpromoted with h | h
      · exact h full
      · simp [h] at some
    have order : s.choice =
        if s.part.sa.journal ≠ [] then some .journal
        else if s.part.sa.status ≠ [] then some .status
        else if s.part.sa.request ≠ [] then some .request
        else if s.part.sa.bulk ≠ [] then some .bulk
        else s.portChoice := by
      simp only [State.choice, idle, if_neg none]
      rfl
    rw [order]
    exact ⟨fun j => by simp [j], fun j st => by simp [j, st], fun j st r => by simp [j, st, r],
      fun j st r b => by simp [j, st, r, b], fun j st r b => by simp [j, st, r, b]⟩

/-! ## A host read waits for its block (R174, R179) -/

theorem StoreRequest.holds_markHolds (block : Nat) (r : StoreRequest) :
    (r.markHolds block).holds = true ↔
      ∃ cells e h, r = .write cells e h ∧ (h = true ∨ ∃ c ∈ cells, c.1 / 32 = block) := by
  cases r with
  | write cells e h =>
    have marked : ((StoreRequest.write cells e h).markHolds block).holds = true ↔
        (h = true ∨ ∃ c ∈ cells, c.1 / 32 = block) := by
      simp [StoreRequest.markHolds, StoreRequest.holds, touchesBlock]
    rw [marked]
    exact ⟨fun k => ⟨cells, e, h, rfl, k⟩, fun ⟨_, _, _, same, k⟩ => by cases same; exact k⟩
  | read a n o => simp [StoreRequest.markHolds, StoreRequest.holds]

/-- The read is held exactly while a write of its block, or one marked for it before, is ungranted. -/
theorem Sa.holdsRead_markHolds (a : Sa) (block : Nat) :
    (a.markHolds block).holdsRead = true ↔
      (∃ cells e h, .write cells e h ∈ a.journal ++ a.request ++ a.bulk ∧
        (h = true ∨ ∃ c ∈ cells, c.1 / 32 = block)) ∨
      ∃ r ∈ a.status, r.holdsRead = true ∨ r.item.address / 32 = block := by
  have any (l : List StoreRequest) : (l.map (StoreRequest.markHolds block)).any StoreRequest.holds = true ↔
      ∃ cells e h, .write cells e h ∈ l ∧ (h = true ∨ ∃ c ∈ cells, c.1 / 32 = block) := by
    simp only [List.any_map, List.any_eq_true, Function.comp_apply, StoreRequest.holds_markHolds]
    constructor
    · rintro ⟨r, hr, cells, e, h, rfl, k⟩
      exact ⟨cells, e, h, hr, k⟩
    · rintro ⟨cells, e, h, hr, k⟩
      exact ⟨_, hr, cells, e, h, rfl, k⟩
  have status : (a.status.map (StatusRequest.markHolds block)).any StatusRequest.holdsRead = true ↔
      ∃ r ∈ a.status, r.holdsRead = true ∨ r.item.address / 32 = block := by
    simp [StatusRequest.markHolds]
  simp only [Sa.holdsRead, Sa.markHolds, Bool.or_eq_true, any, status, List.mem_append]
  constructor
  · rintro (((⟨c, e, h, hr, k⟩ | st) | ⟨c, e, h, hr, k⟩) | ⟨c, e, h, hr, k⟩)
    · exact .inl ⟨c, e, h, .inl (.inl hr), k⟩
    · exact .inr st
    · exact .inl ⟨c, e, h, .inl (.inr hr), k⟩
    · exact .inl ⟨c, e, h, .inr hr, k⟩
  · rintro (⟨c, e, h, (hr | hr) | hr, k⟩ | st)
    · exact .inl (.inl (.inl ⟨c, e, h, hr, k⟩))
    · exact .inl (.inr ⟨c, e, h, hr, k⟩)
    · exact .inr ⟨c, e, h, hr, k⟩
    · exact .inl (.inl (.inr st))

/-- The choice at the PORT head after a read has been accepted. -/
theorem State.portChoice_acceptRead (s : State) (x : StoreAddr) (empty : s.hp.buffer = []) :
    (s.acceptRead x).portChoice =
      if (s.part.sa.markHolds (x.toNat / 32)).holdsRead then none else some .hostRead :=
  State.portChoice_of_read (s := s.acceptRead x) empty rfl

theorem State.portChoice_acceptRead_ne {s : State} {x : StoreAddr}
    (held : (s.part.sa.markHolds (x.toNat / 32)).holdsRead = true) : (s.acceptRead x).portChoice ≠ some .hostRead := by
  by_cases empty : s.hp.buffer = []
  · rw [State.portChoice_acceptRead s x empty, if_pos held]
    exact Option.some_ne_none _ |>.symm
  · rw [State.portChoice_of_buffer (s := s.acceptRead x) empty]
    decide

/-- Settles O22. -/
theorem hostReadWaitsForItsBlock : Obligations.HostReadWaitsForItsBlock := by
  intro a s _ free
  rw [exec_hostStoreRead free]
  refine ⟨fun disabled => ?disabled, fun x store idle => ?accepted, fun x store draining => ?waits⟩
  case disabled => simp [State.readArrives, disabled, ← free]
  case waits => simp [State.readArrives, store, draining]
  case accepted =>
    rw [State.readArrives_of_store store idle]
    refine ⟨_, rfl, rfl, rfl, rfl, rfl, rfl, fun waits => State.portChoice_of_buffer (s := s.acceptRead x) waits,
      fun cells e h hr touches => ?writes, fun r hr block => ?status, fun empty writes status => ?free⟩
    case writes =>
      exact State.portChoice_acceptRead_ne ((Sa.holdsRead_markHolds _ _).mpr (.inl ⟨cells, e, h, hr, .inr touches⟩))
    case status =>
      exact State.portChoice_acceptRead_ne ((Sa.holdsRead_markHolds _ _).mpr (.inr ⟨r, hr, .inr block⟩))
    case free =>
      rw [State.portChoice_acceptRead s x empty, if_neg]
      rw [Sa.holdsRead_markHolds]
      rintro (⟨cells, e, h, hr, held | ⟨c, hc, block⟩⟩ | ⟨r, hr, held | block⟩)
      · simp [(writes cells e h hr).1] at held
      · exact (writes cells e h hr).2 c hc block
      · simp [(status r hr).1] at held
      · exact (status r hr).2 block

end Sys2Proof.Machine
end

section
/-! What the host reads in the eight registers, and the outputs (R172, R190). -/

namespace Sys2Proof.Machine

/-! ## Numbers laid side by side in a word -/

theorem getLsbD_ofNat_div (w n i : Nat) (h : i < w) : (BitVec.ofNat w n).getLsbD i = decide (n / 2 ^ i % 2 = 1) := by
  rw [BitVec.getLsbD_ofNat, Nat.testBit_eq_decide_div_mod_eq]
  simp [h]

theorem EngineState.code_le (e : EngineState) : e.code ≤ 5 := by cases e <;> decide

theorem ConfigResult.code_le (r : ConfigResult) : r.code ≤ 68 := by cases r <;> decide

theorem HaltCause.code_le (c : HaltCause) : c.code ≤ 2 := by cases c <;> decide

theorem HoldCauses.code_le (h : HoldCauses) : h.code ≤ 15 := by
  obtain ⟨requested, door, air, meter⟩ := h
  revert requested door air meter
  decide

theorem HoldCauses.code_bits (h : HoldCauses) :
    decide (h.code % 2 = 1) = h.requested ∧ decide (h.code / 2 % 2 = 1) = h.door ∧ decide (h.code / 4 % 2 = 1) = h.air ∧
      decide (h.code / 8 % 2 = 1) = h.meter := by
  obtain ⟨requested, door, air, meter⟩ := h
  revert requested door air meter
  decide

theorem decide_toNat (b : Bool) : decide (b.toNat = 1) = b := by cases b <;> rfl

/-- CONTROL: the engine state, the configure indicator and the last result, with 0 between (R172). -/
theorem Part.control_fields (p : Part) :
    p.control.toNat % 8 = p.lsq.engine.code ∧ p.control.getLsbD 3 = p.cfg.inProgress ∧ p.control.toNat / 16 % 16 = 0 ∧
      p.control.toNat / 256 = p.cfg.result.code := by
  have engine := p.lsq.engine.code_le
  have result := p.cfg.result.code_le
  have indicator : p.cfg.inProgress.toNat ≤ 1 := Bool.toNat_le _
  have value : p.control.toNat = p.lsq.engine.code + 8 * p.cfg.inProgress.toNat + 256 * p.cfg.result.code := by
    rw [Part.control, BitVec.toNat_ofNat]
    exact Nat.mod_eq_of_lt (by omega)
  refine ⟨by omega, ?_, by omega, by omega⟩
  rw [Part.control, getLsbD_ofNat_div _ _ _ (by decide)]
  refine Eq.trans ?_ (decide_toNat _)
  congr 2
  omega

/-- SUMMARY: the hold causes, the halt cause and whether a request is parked, with 0 between (R172). -/
theorem Part.summary_fields (p : Part) :
    p.summary.toNat / 64 % 4 = 0 ∧ p.summary.toNat / 512 = 0 ∧ p.summary.getLsbD 0 = p.lsq.holds.requested ∧
      p.summary.getLsbD 1 = p.lsq.holds.door ∧ p.summary.getLsbD 2 = p.lsq.holds.air ∧
      p.summary.getLsbD 3 = p.lsq.holds.meter ∧ p.summary.toNat / 16 % 4 = p.lsq.haltCause.code ∧
      p.summary.getLsbD 8 = p.lsq.parked.isSome := by
  have holds := p.lsq.holds.code_le
  have halt := p.lsq.haltCause.code_le
  have parked : p.lsq.parked.isSome.toNat ≤ 1 := Bool.toNat_le _
  obtain ⟨requested, door, air, meter⟩ := p.lsq.holds.code_bits
  have value : p.summary.toNat = p.lsq.holds.code + 16 * p.lsq.haltCause.code + 256 * p.lsq.parked.isSome.toNat := by
    rw [Part.summary, BitVec.toNat_ofNat]
    exact Nat.mod_eq_of_lt (by omega)
  have bit (i : Nat) (h : i < 16) : p.summary.getLsbD i =
      decide ((p.lsq.holds.code + 16 * p.lsq.haltCause.code + 256 * p.lsq.parked.isSome.toNat) / 2 ^ i % 2 = 1) := by
    rw [Part.summary, getLsbD_ofNat_div _ _ _ h]
  refine ⟨by omega, by omega, ?_, ?_, ?_, ?_, by omega, ?_⟩
  · rw [bit 0 (by decide), ← requested]
    congr 2
    omega
  · rw [bit 1 (by decide), ← door]
    congr 2
    omega
  · rw [bit 2 (by decide), ← air]
    congr 2
    omega
  · rw [bit 3 (by decide), ← meter]
    congr 2
    omega
  · rw [bit 8 (by decide)]
    refine Eq.trans ?_ (decide_toNat _)
    congr 2
    omega

/-- An APERTURE register: the enable, the page, and 0 between (R172). -/
theorem Aperture.word_fields (a : Aperture) :
    a.word.getLsbD 15 = a.enabled ∧ a.word.toNat % 128 = a.page.toNat ∧ a.word.toNat / 128 % 256 = 0 := by
  have page := a.page.isLt
  have enabled : a.enabled.toNat ≤ 1 := Bool.toNat_le _
  have value : a.word.toNat = a.page.toNat + 0x8000 * a.enabled.toNat := by
    rw [Aperture.word, BitVec.toNat_ofNat]
    exact Nat.mod_eq_of_lt (by omega)
  refine ⟨?_, by omega, by omega⟩
  rw [Aperture.word, getLsbD_ofNat_div _ _ _ (by decide)]
  refine Eq.trans ?_ (decide_toNat _)
  congr 2
  omega

/-- A register of 7 bits read as a word. -/
theorem setWidth_word_fields (x : BitVec 7) :
    (∀ i < 7, (x.setWidth 16).getLsbD i = x.getLsbD i) ∧ (x.setWidth 16).toNat / 128 = 0 := by
  have bound := x.isLt
  refine ⟨fun i h => ?_, ?_⟩
  · rw [BitVec.getLsbD_setWidth, decide_eq_true (by omega), Bool.true_and]
  · rw [BitVec.toNat_setWidth]
    omega

/-- Address bit 0 is ignored (R171). -/
theorem State.readRegister_odd (s : State) (odd : Bool) :
    let read (n : Nat) : HostWord := s.readRegister (BitVec.ofNat 16 (n + odd.toNat))
    read 0 = 0x3240 ∧ read 2 = s.part.control ∧ read 4 = s.part.attn.cause.setWidth 16 ∧
      read 6 = s.part.attn.enable.setWidth 16 ∧ read 8 = s.hp.aperture1.word ∧ read 10 = s.hp.aperture2.word ∧
      read 12 = s.hp.aperture3.word ∧ read 14 = s.part.summary := by
  cases odd <;> exact ⟨rfl, rfl, rfl, rfl, rfl, rfl, rfl, rfl⟩

/-! ## Outputs (R190) -/

theorem Part.gateFitted_iff (p : Part) (n : Nat) :
    p.gateFitted n = true ↔ ∀ g, p.dt.geometry = some g → n < g.gates.length := by
  unfold Part.gateFitted
  cases p.dt.geometry <;> simp

theorem Pulse.ne_idle_iff (x : Pulse) :
    x ≠ .idle ↔ ∃ k tube dwell reports, x = .pulsing k tube dwell reports := by
  cases x <;> simp

theorem Link.ne_idle_iff (l : Link) :
    l ≠ .idle ↔ (∃ f, l = .sending f) ∨ ∃ discard, l = .receiving discard := by
  cases l <;> simp

theorem HostPort.waiting_iff (h : HostPort) :
    h.waiting = true ↔ ∃ a v x, h.cycle = .write a v ∨ h.cycle = .readWaiting a ∨ h.cycle = .read x := by
  unfold HostPort.waiting
  cases h.cycle <;> simp

theorem Part.lclkLine_eq (p : Part) (m : Meter) : p.lclkLine m = if p.trigLine m then .pulsing else .low := by
  unfold Part.lclkLine Part.trigLine
  cases (p.channel m).link <;> simp

/-- Settles O16. -/
theorem registersAndOutputsReadTheState : Obligations.RegistersAndOutputsReadTheState := by
  refine ⟨fun s => ?outputs, fun s odd => ?registers⟩
  case outputs =>
    refine ⟨?feed, rfl, fun n => ?gate, ?jet, fun n _ => rfl, Part.attnLine_iff _, fun m => ?trig, fun m => ?ldat,
      Part.lclkLine_eq _, rfl, rfl, HostPort.waiting_iff _⟩
    case feed =>
      unfold Part.feedLine
      cases s.part.lcu.feed <;> simp
    case gate =>
      rw [Part.gateLine, Bool.and_eq_true, bne_iff_ne, Part.gateFitted_iff, Pulse.ne_idle_iff, and_comm]
    case jet =>
      unfold Part.catchLine
      cases s.part.lcu.clearJet <;> simp
    case trig => rw [Part.trigLine, bne_iff_ne, Link.ne_idle_iff]
    case ldat =>
      unfold Part.ldatDriven
      cases (s.part.channel m).link <;> simp
  case registers =>
    obtain ⟨r0, r2, r4, r6, r8, r10, r12, r14⟩ := s.readRegister_odd odd
    obtain ⟨engine, indicator, gap, result⟩ := s.part.control_fields
    obtain ⟨causes, causesHigh⟩ := setWidth_word_fields s.part.attn.cause
    obtain ⟨enables, enablesHigh⟩ := setWidth_word_fields s.part.attn.enable
    obtain ⟨e1, p1, z1⟩ := s.hp.aperture1.word_fields
    obtain ⟨e2, p2, z2⟩ := s.hp.aperture2.word_fields
    obtain ⟨e3, p3, z3⟩ := s.hp.aperture3.word_fields
    obtain ⟨gap6, gap9, requested, door, air, meter, halt, parked⟩ := s.part.summary_fields
    dsimp only at r0 r2 r4 r6 r8 r10 r12 r14 ⊢
    simp only [r0, r2, r4, r6, r8, r10, r12, r14, List.forall_mem_cons]
    exact ⟨trivial, engine, indicator, gap, result, causes, causesHigh, enables, enablesHigh,
      ⟨z1, z2, z3, fun _ h => absurd h List.not_mem_nil⟩, gap6, gap9, e1, p1, e2, p2, e3, p3, requested, door, air, meter,
      halt, parked⟩

end Sys2Proof.Machine
end

section
/-! What a store grant does, by the queue whose head it takes (R154 to R157, R174, R177 to R180). -/

namespace Sys2Proof.Machine

/-! ## The head of each queue -/

theorem exec_storeGrant {s : State} {c : Choice} (h : s.choice = some c) :
    exec .storeGrant s = .next (State.commit s (s.grant c)) := by
  simp only [exec, execStoreGrant, h]

/-- A head of JOURNAL, REQUEST or BULK leaves its queue and is granted. -/
theorem State.grant_of_queue {s : State} {c : Choice} {r : StoreRequest} {rest : List StoreRequest}
    (h : s.part.sa.queue c = r :: rest) : s.grant c = (s.setSa (s.part.sa.popped c)).grantRequest r := by
  cases c <;> simp only [Sa.queue] at h
  case status => cases h
  case hostWrite => cases h
  case hostRead => cases h
  all_goals simp [State.grant, Sa.popped, h]

theorem State.grant_status {s : State} {r : StatusRequest} {rest : List StatusRequest}
    (h : s.part.sa.status = r :: rest) : s.grant .status = (s.setSa (s.part.sa.popped .status)).grantStatus r.item := by
  simp [State.grant, Sa.popped, h]

theorem State.grant_hostWrite {s : State} {w : PostedWrite} {rest : List PostedWrite} (h : s.hp.buffer = w :: rest) :
    s.grant .hostWrite = s.grantHostWrite w rest := by
  simp [State.grant, h]

theorem State.grant_hostRead {s : State} {a : StoreAddr} (h : s.hp.cycle = .read a) :
    s.grant .hostRead = s.grantHostRead a := by
  simp [State.grant, h]

/-- A grant to one of the part's classes raises the promotion count while a PORT request waits (R178). -/
theorem HostPort.partGranted_eq (h : HostPort) :
    h.partGranted = { h with promotion := if h.portWaits then min 8 (h.promotion + 1) else h.promotion } := by
  have rise : (if h.promotion < 8 then h.promotion + 1 else 8) = min 8 (h.promotion + 1) := by
    split <;> omega
  unfold HostPort.partGranted
  split <;> simp [rise]

/-! ## A part write (R141, R149, R157, R165, R177) -/

/-- The byte that a granted write stores for a cell. -/
def Part.grantedByte (p : Part) (e : WriteEffect) (x : Host.Cell) : Byte :=
  match e with
  | .plain => x.2
  | .publish _ _ => x.2
  | .done _ => x.2
  | .context => x.2
  | .portResult a => if x.1 = a + 28 then p.lsq.portLatch else x.2

theorem Part.grantedCells_eq (p : Part) (cells : List Host.Cell) (e : WriteEffect) :
    p.grantedCells cells e = cells.map (fun x => (x.1, p.grantedByte e x)) := by
  cases e with
  | portResult a =>
    refine List.map_congr_left fun x _ => ?_
    by_cases h : x.1 = a + 28 <;> simp only [Part.grantedByte, h, if_true, if_false]
  | _ => exact (List.map_id' cells).symm

/-- A grant stores exactly the cells of the write. -/
theorem Memory.read_grantedCells {m : List Host.Cell} (ok : Memory.wf m = true) {cells : List Host.Cell}
    (apart : cells.Pairwise (fun x y => x.1 % storeBytes ≠ y.1 % storeBytes)) (f : Host.Cell → Byte) :
    (∀ x ∈ cells, Memory.read (Memory.writeAll m (cells.map (fun x => (x.1, f x)))) x.1 = f x) ∧
      ∀ a, (∀ x ∈ cells, x.1 % storeBytes ≠ a % storeBytes) →
        Memory.read (Memory.writeAll m (cells.map (fun x => (x.1, f x)))) a = Memory.read m a := by
  refine ⟨fun x hx => ?_, fun a away => ?_⟩
  · exact Memory.read_writeAll_mem (cells.map (fun x => (x.1, f x))) ok (List.pairwise_map.mpr apart) (x.1, f x)
      (List.mem_map_of_mem (f := fun x => (x.1, f x)) hx)
  · refine Memory.read_writeAll_ne _ m fun c hc => ?_
    obtain ⟨x, hx, rfl⟩ := List.mem_map.mp hc
    exact away x hx

/-- What the grant of a write with no effect on the blocks keeps. -/
theorem Part.keeps_of_sameBlocks {p q : Part} (dt : q.dt = p.dt) (lcu : q.lcu = p.lcu) (mc : q.mc = p.mc)
    (rsc : q.rsc = p.rsc) (ps : q.ps = p.ps) (gbt : q.gbt = p.gbt) (lsq : q.lsq = p.lsq) (rqx : q.rqx = p.rqx)
    (jw : q.jw = p.jw) (attn : q.attn = p.attn) (cfg : q.cfg = p.cfg) (lct : q.lct = p.lct) :
    Part.keeps [.dial, .loading, .meters, .references, .plans, .bins, .lots, .requests, .journal, .attention,
      .configuration, .lines, .timers] p q := by
  intro r hr
  cases r <;> simp_all [Region.same]

/-- A latch reads the attention registers alone. -/
theorem Part.latch_attn_congr {p q : Part} (h : q.attn = p.attn) (c : AttnCause) :
    (q.latch c).attn = (p.latch c).attn := by
  unfold Part.latch
  rw [h]
  split
  · rfl
  · exact h

/-- A context write that is granted is one the less outstanding (R101). -/
theorem Part.writeGranted_context (p : Part) :
    (p.writeGranted .context).lsq =
      { p.lsq with completion := p.lsq.completion.map (fun k => { k with writesLeft := k.writesLeft - 1 }) } := by
  simp only [Part.writeGranted]
  split
  next h => rw [h, Option.map_none, ← h]
  next k h => rw [h, Option.map_some]

/-- The effect of a granted write on the part, the queues having been popped before (R141, R149, R157, R165). -/
theorem Part.writeGranted_effect (p : Part) (a : Sa) (e : WriteEffect) :
    let q := Part.commit p (({ p with sa := a } : Part).writeGranted e)
    match e with
    | .plain => Part.keeps [.dial, .loading, .meters, .references, .plans, .bins, .lots, .requests, .journal,
        .attention, .configuration, .lines, .timers] p q
    | .portResult _ => Part.keeps [.dial, .loading, .meters, .references, .plans, .bins, .lots, .requests, .journal,
        .attention, .configuration, .lines, .timers] p q
    | .done notify =>
      Part.keeps [.dial, .loading, .meters, .references, .plans, .bins, .lots, .requests, .journal,
        .configuration, .lines, .timers] p q ∧
      q.attn = if notify then (p.latch .request).attn else p.attn
    | .context =>
      Part.keeps [.dial, .loading, .meters, .references, .plans, .bins, .requests, .journal, .attention,
        .configuration, .lines, .timers] p q ∧
      { q.lsq with completion := p.lsq.completion } = p.lsq ∧
      q.lsq.completion = p.lsq.completion.map (fun k => { k with writesLeft := k.writesLeft - 1 })
    | .publish _ _ => Part.keeps [.loading, .meters, .references, .plans, .bins, .requests, .configuration, .lines]
        p q := by
  cases e with
  | plain => exact Part.keeps_commit (Part.keeps_of_sameBlocks rfl rfl rfl rfl rfl rfl rfl rfl rfl rfl rfl rfl)
  | portResult _ => exact Part.keeps_commit (Part.keeps_of_sameBlocks rfl rfl rfl rfl rfl rfl rfl rfl rfl rfl rfl rfl)
  | done notify =>
    refine ⟨Part.keeps_commit fun r hr => ?_, ?_⟩
    · unfold Part.writeGranted
      cases notify <;> cases r <;> simp_all [Region.same]
    · simp only [Part.commit_blocks, Part.writeGranted]
      cases notify
      · rfl
      · simp only [if_true]
        exact Part.latch_attn_congr (p := p) (q := { p with sa := a }) rfl _
  | context =>
    refine ⟨Part.keeps_commit fun r hr => ?_, ?_⟩
    · unfold Part.writeGranted
      dsimp only
      split <;> cases r <;> simp_all [Region.same]
    · simp [Part.writeGranted_context]
  | publish fill wrap =>
    refine Part.keeps_commit fun r hr => ?_
    unfold Part.writeGranted
    cases r <;> simp_all [Region.same]

/-- Settles O24. -/
theorem partWriteGrantStoresItsCells : Obligations.PartWriteGrantStoresItsCells := by
  intro s c cells e h rest chosen head ok apart
  obtain ⟨stored, others⟩ := Memory.read_grantedCells ok apart (s.part.grantedByte e)
  rw [← Part.grantedCells_eq] at stored others
  refine ⟨_, exec_storeGrant chosen, ?_⟩
  rw [State.grant_of_queue head]
  refine ⟨rfl, ?stored, others, ?queues, HostPort.partGranted_eq _, s.part.writeGranted_effect _ e⟩
  case stored => cases e <;> exact stored
  case queues =>
    have follows := Part.commit_follows s.part (({ s.part with sa := s.part.sa.popped c } : Part).writeGranted e)
    rw [(Part.writeGranted_keeps _ e).2.2.2.2.2.2.1] at follows
    exact follows

/-! ## A STATUS write (R180) -/

theorem leBytes_length (k n : Nat) : (leBytes k n).length = k := by
  induction k generalizing n with
  | zero => rfl
  | succ k ih => simp [leBytes, ih]

/-- No item is longer than 8 bytes. -/
theorem Part.statusBytes_length (p : Part) (i : StatusItem) : (p.statusBytes i).length ≤ 8 := by
  cases i with
  | planSlot s =>
    simp only [Part.statusBytes, PlanSlot.bytes]
    split <;> simp [byte, leBytes_length]
  | bin n => simp [Part.statusBytes, BinEntry.bytes, byte, leBytes_length]
  | _ => simp [Part.statusBytes, byte, leBytes_length]

theorem StatusItem.offset_le (i : StatusItem) : i.offset ≤ 0x130 := by
  cases i with
  | planSlot s => cases s <;> decide
  | channel m => simp only [StatusItem.offset]; omega
  | bin n => simp only [StatusItem.offset]; omega
  | _ => simp only [StatusItem.offset]; decide

theorem StatusItem.place (p : Part) (i : StatusItem) : i.address + (p.statusBytes i).length ≤ storeBytes := by
  have length := p.statusBytes_length i
  have offset := i.offset_le
  unfold StatusItem.address statusBase storeBytes
  omega

/-- Settles O25. -/
theorem statusGrantWritesTheItemAsItStands : Obligations.StatusGrantWritesTheItemAsItStands := by
  intro s r rest chosen head ok
  have place := StatusItem.place s.part r.item
  refine ⟨_, exec_storeGrant chosen, ?_⟩
  rw [State.grant_status head]
  refine ⟨rfl, Memory.readBytes_writeAll ok place, fun a away => ?others, Part.commit_follows s.part _,
    Part.keeps_commit (Part.keeps_of_sameBlocks rfl rfl rfl rfl rfl rfl rfl rfl rfl rfl rfl rfl), HostPort.partGranted_eq _⟩
  case others =>
    refine Memory.read_writeAll_ne _ _ fun c hc => ?_
    have bounds := cellsAt_mem hc
    change r.item.address ≤ c.1 ∧ c.1 < r.item.address + (s.part.statusBytes r.item).length at bounds
    have small : c.1 % storeBytes = c.1 := Nat.mod_eq_of_lt (by omega)
    omega

end Sys2Proof.Machine
end

section
/-! What the grant of a host write and of a read does (R154 to R156, R173, R174, R179). -/

namespace Sys2Proof.Machine

/-! ## The two bytes of a host word (R171) -/

theorem leBytes_two (v : HostWord) : leBytes 2 v.toNat = [v.setWidth 8, (v >>> 8).setWidth 8] := by
  have low : BitVec.ofNat 8 v.toNat = v.setWidth 8 := BitVec.eq_of_toNat_eq (by simp)
  have high : BitVec.ofNat 8 (v.toNat / 256) = (v >>> 8).setWidth 8 :=
    BitVec.eq_of_toNat_eq (by simp [Nat.shiftRight_eq_div_pow])
  simp only [leBytes, low, high]

theorem wordCells_eq (a : StoreAddr) (v : HostWord) :
    wordCells a v = [(a.toNat, v.setWidth 8), (a.toNat + 1, (v >>> 8).setWidth 8)] := by
  rw [wordCells, leBytes_two]
  rfl

/-- The store after the grant of a posted host write (R173). -/
theorem Memory.read_wordCells {m : List Host.Cell} (ok : Memory.wf m = true) {a : StoreAddr} (v : HostWord)
    (place : a.toNat + 1 < storeBytes) :
    Memory.read (Memory.writeAll m (wordCells a v)) a.toNat = v.setWidth 8 ∧
      Memory.read (Memory.writeAll m (wordCells a v)) (a.toNat + 1) = (v >>> 8).setWidth 8 ∧
      ∀ x, x % storeBytes ≠ a.toNat → x % storeBytes ≠ a.toNat + 1 →
        Memory.read (Memory.writeAll m (wordCells a v)) x = Memory.read m x := by
  have first : a.toNat % storeBytes = a.toNat := Nat.mod_eq_of_lt (by omega)
  have second : (a.toNat + 1) % storeBytes = a.toNat + 1 := Nat.mod_eq_of_lt place
  have stored := Memory.read_writeAll_mem (wordCells a v) ok (by simp [wordCells_eq, first, second])
  rw [wordCells_eq] at stored ⊢
  refine ⟨stored (_, _) List.mem_cons_self, stored (_, _) (List.mem_cons_of_mem _ List.mem_cons_self), fun x low high => Memory.read_writeAll_ne _ m ?_⟩
  simp [first, second, Ne.symm low, Ne.symm high]

/-- The word that a granted host read returns (R174). -/
theorem hostWord_of_readBytes (m : List Host.Cell) (a : Nat) :
    (BitVec.ofNat 16 (leNat (Memory.readBytes m a 2))).setWidth 8 = Memory.read m a ∧
      (BitVec.ofNat 16 (leNat (Memory.readBytes m a 2)) >>> 8).setWidth 8 = Memory.read m (a + 1) := by
  have word : leNat (Memory.readBytes m a 2) = (Memory.read m a).toNat + 256 * (Memory.read m (a + 1)).toNat := by
    simp [Memory.readBytes, List.range_succ, leNat]
  have low := (Memory.read m a).isLt
  have high := (Memory.read m (a + 1)).isLt
  rw [word]
  refine ⟨BitVec.eq_of_toNat_eq ?_, BitVec.eq_of_toNat_eq ?_⟩
  · simp only [BitVec.toNat_setWidth, BitVec.toNat_ofNat]
    omega
  · simp only [BitVec.toNat_setWidth, BitVec.toNat_ushiftRight, BitVec.toNat_ofNat, Nat.shiftRight_eq_div_pow]
    omega

/-! ## The Watch Unit (R154, R155) -/

/-- The slot of a state word, as a search over the 16 slots. -/
theorem slotAt_eq_find (base a : Nat) : slotAt base a = (List.range 16).find? (fun i => a == base + 32 * i) := by
  unfold slotAt
  split
  · next inside =>
    symm
    rw [List.find?_range_eq_some]
    simp only [beq_iff_eq, List.mem_range]
    refine ⟨by omega, by omega, fun j hj => ?_⟩
    simp only [Bool.not_eq_eq_eq_not, Bool.not_true, beq_eq_false_iff_ne]
    omega
  · next outside =>
    symm
    simp only [List.find?_eq_none, List.mem_range, beq_iff_eq]
    omega

/-- The post queue once the WU has examined a write: the slot that it posts joins the tail, where it is new. -/
def Part.postsAfter (p : Part) (w : PostedWrite) : List Nat :=
  match p.rqx.base.bind (fun base => (List.range 16).find? (fun i => w.address.toNat == base + 32 * i)) with
  | none => p.rqx.posts
  | some i => if w.watched = true ∧ w.value = 1 ∧ i ∉ p.rqx.posts then p.rqx.posts ++ [i] else p.rqx.posts

theorem Part.watchPost_rqx (p : Part) (w : PostedWrite) :
    (p.watchPost w).rqx = { p.rqx with posts := p.postsAfter w } := by
  unfold Part.watchPost Part.postsAfter
  cases base : p.rqx.base with
  | none => rfl
  | some b =>
    simp only [Option.bind_some, slotAt_eq_find]
    cases (List.range 16).find? (fun i => w.address.toNat == b + 32 * i) with
    | none => rfl
    | some i =>
      by_cases posting : w.watched = true ∧ w.value = 1
      · by_cases mem : i ∈ p.rqx.posts <;> simp [Part.offerPost, posting, mem]
      · have rejected : ¬ (w.watched = true ∧ w.value = 1 ∧ i ∉ p.rqx.posts) := fun h => posting ⟨h.1, h.2.1⟩
        simp only [if_neg posting, if_neg rejected]

theorem Part.watchReclaim_of_ne (p : Part) {a : Nat} (m : List Host.Cell) (h : a ≠ 0x000406) : p.watchReclaim a m = p := by
  simp [Part.watchReclaim, journalHeader, h]

theorem Part.testHead_request (p : Part) : p.testHead.sa.request = p.sa.request := by
  unfold Part.testHead
  split
  · split <;> rfl
  · rfl

theorem Part.retest_request (p : Part) : p.retest.sa.request = p.sa.request := by
  unfold Part.retest
  split
  · exact p.testHead_request
  · rfl

/-- A reclaim files no request of class REQUEST. -/
theorem Part.watchReclaim_request (p : Part) (a : Nat) (m : List Host.Cell) :
    (p.watchReclaim a m).sa.request = p.sa.request := by
  unfold Part.watchReclaim Part.reclaim
  split
  · split
    · rfl
    · split
      · simp only [Part.ageAtReclaim_keeps, Part.settleLevel_keeps]
        exact Part.retest_request _
      · simp only [Part.event_keeps, Part.latch_keeps]
  · rfl

/-- The part as the grant of a posted host write leaves it, before what follows the command. -/
def State.watched (s : State) (w : PostedWrite) : Part :=
  (s.part.watchPost w).watchReclaim w.address.toNat (Memory.writeAll s.store (wordCells w.address w.value))

theorem State.watched_rqx (s : State) (w : PostedWrite) :
    (s.watched w).rqx = { s.part.rqx with posts := s.part.postsAfter w } := by
  rw [← s.part.watchPost_rqx w]
  simp [State.watched]

theorem State.watched_request (s : State) (w : PostedWrite) : (s.watched w).sa.request = s.part.sa.request := by
  simp [State.watched, Part.watchReclaim_request]

theorem State.watched_cfg (s : State) (w : PostedWrite) : (s.watched w).cfg = s.part.cfg := by
  simp [State.watched]

theorem State.watched_keeps (s : State) (w : PostedWrite) :
    Part.keeps [.dial, .loading, .meters, .references, .plans, .bins, .lots, .requests, .configuration, .lines]
      s.part (Part.commit s.part (s.watched w)) := by
  refine Part.keeps_commit fun r hr => ?_
  have rqx := s.watched_rqx w
  cases r <;> simp_all [Region.same, State.watched]

theorem State.watched_keeps_rest (s : State) {w : PostedWrite} (h : w.address.toNat ≠ 0x000406) :
    Part.keeps [.journal, .queues, .attention, .timers] s.part (Part.commit s.part (s.watched w)) := by
  refine Part.keeps_commit fun r hr => ?_
  rw [State.watched, Part.watchReclaim_of_ne _ _ h]
  cases r
  case queues =>
    have sa : (s.part.watchPost w).sa = s.part.sa := by simp
    simp only [Region.same, sa]
    exact Sa.follows_refl _
  all_goals simp_all [Region.same]

/-- Settles O26. -/
theorem hostWriteGrantStoresAndPosts : Obligations.HostWriteGrantStoresAndPosts := by
  intro s a v watched rest chosen head ok place
  obtain ⟨low, high, others⟩ := Memory.read_wordCells ok v place
  have rqx := s.watched_rqx { address := a, value := v, watched }
  have request := s.watched_request { address := a, value := v, watched }
  have cfg := s.watched_cfg { address := a, value := v, watched }
  refine ⟨_, exec_storeGrant chosen, ?_⟩
  rw [State.grant_hostWrite head]
  refine ⟨rfl, low, high, others, ?promotion, fun idle => ?idle, fun y w x cycle free room store => ?waits,
    s.watched_keeps _, fun away => s.watched_keeps_rest away, fun held => ?held,
    fun base i after current reading work hbase posts => ?taken⟩
  case promotion =>
    change (HostPort.acceptWrite _ _).promotion = 0
    unfold HostPort.acceptWrite
    split
    · split
      · split <;> rfl
      · rfl
    all_goals rfl
  case idle =>
    change HostPort.acceptWrite _ _ = _
    unfold HostPort.acceptWrite
    split
    next y w cycle => exact absurd cycle (idle y w)
    all_goals rfl
  case waits => exact HostPort.acceptWrite_of_room _ cycle free room store
  case held =>
    change (Part.commit s.part (s.watched _)).rqx = _ ∧ (Part.commit s.part (s.watched _)).sa.request = _
    rw [Part.commit_rqx, Part.commit_request, Part.fetchPost_of_held, rqx, request]
    · exact ⟨rfl, rfl⟩
    · rw [rqx, cfg]
      tauto
  case taken =>
    change (Part.commit s.part (s.watched _)).rqx = _ ∧ (Part.commit s.part (s.watched _)).sa.request = _
    have free := Part.fetchPost_of_free (p := s.watched { address := a, value := v, watched }) (base := base) (i := i)
      (rest := after) (by rw [rqx]; exact current) (by rw [rqx]; exact reading) (by rw [rqx]; exact hbase)
      (by rw [rqx]; exact posts) (by rw [cfg]; exact work)
    rw [Part.commit_rqx, Part.commit_request, free]
    simp [Part.fileRequest, rqx, request, slotAddress]

/-! ## Reads -/

/-- Whether a plan header's rows are read (R79, R80). -/
theorem imageRowsRead_iff (a : Nat) (d : List Byte) :
    imageRowsRead a d = true ↔ 1 ≤ fieldAt d 4 1 ∧ fieldAt d 4 1 ≤ 48 ∧ a + 32 + 16 * fieldAt d 4 1 ≤ 0x200000 := by
  have count : imageCountOk d = true ↔ 1 ≤ fieldAt d 4 1 ∧ fieldAt d 4 1 ≤ 48 := decide_eq_true_iff
  have extent : imageExtentOk a d = true ↔ a + (32 + 16 * fieldAt d 4 1) ≤ 0x200000 := decide_eq_true_iff
  rw [imageRowsRead, Bool.and_eq_true, count, extent, and_assoc, Nat.add_assoc]

/-- The reads of the rows that a header brings about. -/
def imageRows (w : Staging) (d : List Byte) : List StoreRequest :=
  if d.length = 32 ∧ 1 ≤ fieldAt d 4 1 ∧ fieldAt d 4 1 ≤ 48 ∧ w.address + 32 + 16 * fieldAt d 4 1 ≤ 0x200000 then
    readRequests (w.address + 32) (16 * fieldAt d 4 1) .plan
  else []

theorem Part.imageRead_eq {p : Part} {w : Staging} (h : p.ps.staging = some w) (bytes : List Byte) :
    p.imageRead bytes =
      ({ p with ps := { p.ps with staging := some { w with data := w.data ++ bytes } } } : Part).fileBulk
        (imageRows w (w.data ++ bytes)) := by
  simp only [Part.imageRead, h, imageRows, imageRowsRead_iff]
  split
  · rfl
  · simp [Part.fileBulk]

theorem Part.imageRead_none {p : Part} (h : p.ps.staging = none) (bytes : List Byte) : p.imageRead bytes = p := by
  simp [Part.imageRead, h]

theorem Part.readGranted_sa {p : Part} (o : ReadOwner) (bytes : List Byte) (h : o ≠ .plan ∨ p.ps.staging = none) :
    (p.readGranted o bytes).sa = p.sa := by
  cases o with
  | plan =>
    have none := h.resolve_left (· rfl)
    exact congrArg Part.sa (Part.imageRead_none none bytes)
  | configuration => simp only [Part.readGranted]; split <;> rfl
  | slot => simp only [Part.readGranted]; split <;> rfl
  | context =>
    simp only [Part.readGranted]
    split
    · rfl
    · split <;> rfl

/-- The grant of a part read changes the progress of its owner, and what the header of a plan image files. -/
theorem Part.readGranted_region {p : Part} (a : Sa) (o : ReadOwner) (bytes : List Byte) :
    Part.keeps [.dial, .loading, .meters, .references, .bins, .journal, .attention, .lines, .timers] p
      (Part.commit p (({ p with sa := a } : Part).readGranted o bytes)) := by
  refine Part.keeps_commit fun r hr => ?_
  cases r <;> simp_all [Region.same]

/-- Settles O27. -/
theorem readGrantsBringTheStoreBytes : Obligations.ReadGrantsBringTheStoreBytes := by
  refine ⟨fun s c a n o rest chosen head => ?part, fun s a chosen cycle => ?host⟩
  case part =>
    refine ⟨_, exec_storeGrant chosen, ?_⟩
    rw [State.grant_of_queue head]
    refine ⟨rfl, rfl, HostPort.partGranted_eq _, fun other => ?queues, Part.readGranted_region _ o _, ?configuration,
      ?context, ?slot, ?plan⟩
    case queues =>
      have follows := Part.commit_follows s.part
        (({ s.part with sa := s.part.sa.popped c } : Part).readGranted o (Memory.readBytes s.store a n))
      rw [Part.readGranted_sa (p := { s.part with sa := s.part.sa.popped c }) o _ other] at follows
      exact follows
    case configuration =>
      rintro d rfl work
      simp [State.setSa, State.grantRequest, State.commit, Part.readGranted, work]
    case context =>
      rintro w d rfl lot phase
      simp [State.setSa, State.grantRequest, State.commit, Part.readGranted, lot, phase, Part.setStartLot]
    case slot =>
      rintro r rfl reading
      change (Part.commit s.part _).rqx.reading = _
      rw [Part.commit_rqx, Part.fetchPost_of_held]
      · simp [State.grantRequest, Part.readGranted, reading, State.setSa]
      · exact .inr (.inl (by simp [State.grantRequest, Part.readGranted, reading, State.setSa]))
    case plan =>
      rintro w rfl staging
      have eq := Part.imageRead_eq (p := { s.part with sa := s.part.sa.popped c }) staging (Memory.readBytes s.store a n)
      have blocks := Part.commit_blocks s.part
        (({ s.part with sa := s.part.sa.popped c } : Part).imageRead (Memory.readBytes s.store a n))
      have follows := Part.commit_follows s.part
        (({ s.part with sa := s.part.sa.popped c } : Part).imageRead (Memory.readBytes s.store a n))
      obtain ⟨-, -, -, ps, -⟩ := blocks
      refine ⟨ps.trans (congrArg Part.ps eq), ?_⟩
      rw [congrArg Part.sa eq] at follows
      exact follows
  case host =>
    obtain ⟨low, high⟩ := hostWord_of_readBytes s.store a.toNat
    refine ⟨_, exec_storeGrant chosen, ?_⟩
    rw [State.grant_hostRead cycle]
    refine ⟨rfl, rfl, rfl, low, high, rfl, Part.keeps_commit fun r _ => ?_⟩
    exact Region.same_refl r s.part

end Sys2Proof.Machine
end

section
/-! The Journal Writer: the test of the head, the publish and the reclaim (R164 to R169). -/

namespace Sys2Proof.Machine

/-! ## The test of the head (R165) -/

theorem Jw.room_fits {j : Jw} {a : JournalArea} {l : Nat} (place : j.fill + l ≤ a.size)
    (free : j.unreclaimed a + l ≤ a.size - 8) :
    j.room a l =
      if j.fill + l = a.size then .fits j.fill 0 0 (nextWrap j.wrap) else .fits j.fill 0 (j.fill + l) j.wrap := by
  simp only [Jw.room, if_pos place, if_pos free]

theorem Jw.room_pad {j : Jw} {a : JournalArea} {l : Nat} (past : a.size < j.fill + l)
    (free : j.unreclaimed a + (a.size - j.fill) + l ≤ a.size - 8) :
    j.room a l = .fits 0 (a.size - j.fill) l (nextWrap j.wrap) := by
  simp only [Jw.room, if_neg (Nat.not_le.mpr past), if_pos free]

theorem Jw.room_none {j : Jw} {a : JournalArea} {l : Nat}
    (h : (j.fill + l ≤ a.size ∧ a.size - 8 < j.unreclaimed a + l) ∨
      (a.size < j.fill + l ∧ a.size - 8 < j.unreclaimed a + (a.size - j.fill) + l)) : j.room a l = .noRoom := by
  rcases h with ⟨place, full⟩ | ⟨past, full⟩
  · simp only [Jw.room, if_pos place, if_neg (Nat.not_le.mpr full)]
  · simp only [Jw.room, if_neg (Nat.not_le.mpr past), if_neg (Nat.not_le.mpr full)]

/-- A head that fits: the writer writes, and the PAD's, the record's and the publish's writes are filed. -/
theorem Part.testHead_fits {p : Part} {a : JournalArea} {r : JournalRecord} {rest : List JournalRecord}
    {offset pad fill wrap : Nat} (area : p.jw.area = some a) (queue : p.jw.queue = r :: rest)
    (room : p.jw.room a r.body.length = .fits offset pad fill wrap) :
    p.testHead = ({ p with jw := { p.jw with writer := .writing } } : Part).fileJournal
      (padWrites a p.jw.fill pad p.indexCount ++ writeRequests (cellsAt (a.base + offset) r.bytes) .plain ++
        publishWrites fill wrap) := by
  simp only [Part.testHead, area, queue, room]

theorem Part.testHead_noRoom {p : Part} {a : JournalArea} {r : JournalRecord} {rest : List JournalRecord}
    (area : p.jw.area = some a) (queue : p.jw.queue = r :: rest) (room : p.jw.room a r.body.length = .noRoom) :
    p.testHead = { p with jw := { p.jw with writer := .waiting } } := by
  simp only [Part.testHead, area, queue, room]

theorem Part.testHead_headTested {p : Part} {a : JournalArea} {r : JournalRecord} {rest : List JournalRecord}
    (area : p.jw.area = some a) (queue : p.jw.queue = r :: rest) :
    Part.headTested p p.testHead a (p.jw.unreclaimed a) r := by
  refine ⟨fun place free => ?fits, fun past inside free => ?pad, fun full => ?waits⟩
  case fits =>
    have room := Jw.room_fits place free
    by_cases last : p.jw.fill + r.body.length = a.size
    · rw [if_pos last] at room ⊢
      rw [Part.testHead_fits area queue room]
      exact ⟨rfl, by simp [Part.fileJournal, padWrites, nextWrap]⟩
    · rw [if_neg last] at room ⊢
      rw [Part.testHead_fits area queue room]
      exact ⟨rfl, by simp [Part.fileJournal, padWrites]⟩
  case pad =>
    rw [Part.testHead_fits area queue (Jw.room_pad past free)]
    have some : a.size - p.jw.fill ≠ 0 := by omega
    exact ⟨rfl, by simp [Part.fileJournal, padWrites, nextWrap, some]⟩
  case waits =>
    rw [Part.testHead_noRoom area queue (Jw.room_none full)]
    exact ⟨rfl, rfl⟩

/-- The test of the head reads of the part the fill offset, the wrap count, the JOURNAL queue and the index count, and
sets the writer and the JOURNAL queue. -/
theorem Part.headTested_congr {p q p' q' : Part} {a : JournalArea} {u : Nat} {r : JournalRecord}
    (h : Part.headTested p q a u r) (fill : p'.jw.fill = p.jw.fill) (wrap : p'.jw.wrap = p.jw.wrap)
    (journal : p'.sa.journal = p.sa.journal) (index : p'.indexCount = p.indexCount)
    (writer : q'.jw.writer = q.jw.writer) (filed : q'.sa.journal = q.sa.journal) : Part.headTested p' q' a u r := by
  unfold Part.headTested at h ⊢
  rw [fill, wrap, journal, index, writer, filed]
  exact h

/-- The test of the head changes the writer and the JOURNAL queue alone. -/
theorem Part.testHead_writer (p : Part) :
    { p.testHead.jw with writer := p.jw.writer } = p.jw ∧ p.testHead.sa.bulk = p.sa.bulk := by
  unfold Part.testHead
  split
  · split <;> exact ⟨rfl, rfl⟩
  · exact ⟨rfl, rfl⟩

theorem exec_journalRecordWrite {s : State} (idle : s.part.jw.writer = .idle) (area : s.part.jw.area.isSome = true)
    (queue : s.part.jw.queue ≠ []) :
    exec .journalRecordWrite s = .next { s with part := Part.commit s.part s.part.testHead } := by
  have due : s.part.writerDue = true := by simp [Part.writerDue, idle, area, queue]
  exact State.onOccasion_of Part.testHead due

/-- Settles O28. -/
theorem journalWriterTestsTheHead : Obligations.JournalWriterTestsTheHead := by
  intro s a r rest idle area queue
  obtain ⟨writer, bulk⟩ := s.part.testHead_writer
  refine ⟨_, exec_journalRecordWrite (by rw [idle]) (by simp [area]) (by simp [queue]), ⟨rfl, rfl, rfl⟩,
    Part.keeps_commit fun x hx => ?kept, ?bulk, ?writer, ?tested⟩
  case kept => cases x <;> simp_all [Region.same]
  case bulk => simpa using bulk
  case writer => simpa using writer
  case tested =>
    exact Part.headTested_congr (s.part.testHead_headTested area queue) rfl rfl rfl rfl (by simp) (by simp)

/-! ## The publish grant (R164, R165, R167 to R169) -/

/-- The CLEAR item waits on its catch pulse, or on a later hand-off (R30, R31). -/
theorem Part.tryCompleteClear_of_held {p : Part} {d : Nat}
    (h : p.lcu.clearJet = .pulsing d true ∨ ∃ x ∈ p.jw.waiting, x.clearDwell = some d) : p.tryCompleteClear d = p := by
  unfold Part.tryCompleteClear
  rcases h with pulsing | waits
  · simp [pulsing]
  · exact if_pos (by simp [waits])

theorem Part.tryCompleteClear_of_free {p : Part} {d : Nat} (jet : p.lcu.clearJet ≠ .pulsing d true)
    (last : ∀ x ∈ p.jw.waiting, x.clearDwell ≠ some d) : p.tryCompleteClear d = p.completeItem .clear d := by
  have none : p.jw.waiting.any (fun x => x.clearDwell == some d) = false := by simpa using last
  unfold Part.tryCompleteClear
  cases state : p.lcu.clearJet with
  | idle => simp [none]
  | pulsing k reports =>
    have other : (reports && (k == d)) = false := by
      rw [state] at jet
      cases reports <;> simp_all
    simp [none, other]

/-- The items once the catch may be complete for the CLEAR item of dwell `d` (R31). -/
theorem Part.tryCompleteClear_items (p : Part) (d : Nat) :
    (p.tryCompleteClear d).dt.items =
      if d = p.dt.dwell ∧ p.lcu.clearJet ≠ .pulsing d true ∧ (∀ x ∈ p.jw.waiting, x.clearDwell ≠ some d) then
        p.dt.items.map (Item.complete .clear)
      else p.dt.items := by
  by_cases free : p.lcu.clearJet ≠ .pulsing d true ∧ ∀ x ∈ p.jw.waiting, x.clearDwell ≠ some d
  · rw [Part.tryCompleteClear_of_free free.1 free.2, Part.completeItem]
    by_cases dwell : d = p.dt.dwell
    · rw [if_pos dwell, if_pos ⟨dwell, free⟩]
    · rw [if_neg dwell, if_neg (fun h => dwell h.1)]
  · rw [if_neg (fun h => free h.2), Part.tryCompleteClear_of_held]
    by_cases jet : p.lcu.clearJet = .pulsing d true
    · exact .inl jet
    · exact .inr (by simpa [jet] using free)

/-- The part whose writer has published, before the rest of the publish. -/
def Part.publishing (p : Part) (f w : Nat) : Part :=
  { p with jw := { p.jw with fill := f, wrap := w, queue := p.jw.queue.tail, writer := .idle } }

theorem Part.published_eq {p : Part} {a : JournalArea} (area : p.jw.area = some a) (f w : Nat) :
    p.published f w =
      (((((p.publishing f w).acceptWaiting.notePublished p.jw.queue.head?).checkBacklog a).ageAtPublish a).settleLevel a) := by
  simp only [Part.published, area, Part.publishing]

theorem Part.acceptWaiting_jw (p : Part) :
    p.acceptWaiting.jw =
      { p.jw with queue := p.jw.queue ++ (p.jw.waiting.take 1).map HandOff.record, waiting := p.jw.waiting.tail } := by
  unfold Part.acceptWaiting
  cases waiting : p.jw.waiting with
  | nil =>
    simp only [List.take_nil, List.map_nil, List.append_nil, List.tail_nil]
    rw [← waiting]
  | cons h rest =>
    cases dwell : h.clearDwell <;> simp [dwell]

theorem Part.acceptWaiting_items (p : Part) :
    p.acceptWaiting.dt.items =
      (match p.jw.waiting with
       | { record := _, clearDwell := some d } :: others =>
         if d = p.dt.dwell ∧ p.lcu.clearJet ≠ .pulsing d true ∧ (∀ x ∈ others, x.clearDwell ≠ some d) then
           p.dt.items.map (Item.complete .clear)
         else p.dt.items
       | _ => p.dt.items) := by
  unfold Part.acceptWaiting
  split
  next none => simp [none]
  next h rest waiting =>
    obtain ⟨record, clearDwell⟩ := h
    cases clearDwell with
    | none => simp [waiting]
    | some d => simp only [waiting, Part.tryCompleteClear_items]

/-- A publish changes of the DT the items alone. -/
theorem Part.acceptWaiting_dt (p : Part) : { p.acceptWaiting.dt with items := p.dt.items } = p.dt := by
  unfold Part.acceptWaiting Part.tryCompleteClear Part.completeItem
  dsimp only
  (repeat' split) <;> rfl

theorem Part.notePublished_lsq (p : Part) (h : Option JournalRecord) :
    { (p.notePublished h).lsq with completion := p.lsq.completion } = p.lsq ∧
      ∀ k r, p.lsq.completion = some k → h = some r → r.body.kind = 5 →
        (p.notePublished h).lsq.completion = some { k with published := true } := by
  unfold Part.notePublished
  split
  · next r k completion =>
    split
    · next close =>
      refine ⟨rfl, fun k' r' hk _ _ => ?_⟩
      obtain rfl : k = k' := Option.some.inj (completion.symm.trans hk)
      rfl
    · next other =>
      refine ⟨rfl, fun k' r' _ hr close => ?_⟩
      cases hr
      exact absurd close other
  · next absent => exact ⟨rfl, fun k r hk hr _ => absurd hk (absent r k hr)⟩

theorem Part.ageAtPublish_age (p : Part) (a : JournalArea) :
    (p.ageAtPublish a).lct.timers.age =
      if p.lct.timers.age = .stopped then
        (if IntervalCode.count a.age = 0 then .stopped else .running a.age (IntervalCode.units a.age))
      else p.lct.timers.age := by
  unfold Part.ageAtPublish
  cases age : p.lct.timers.age <;> simp [Timer.isRunning, Part.startAge, Timer.start, age]

/-- What a publish changes of the JW, the LCT and the ATTN block. -/
theorem Part.published_blocks {p : Part} {a : JournalArea} (area : p.jw.area = some a) (f w : Nat) :
    (p.published f w).jw =
        { p.jw with
          fill := f, wrap := w, writer := .idle
          queue := p.jw.queue.tail ++ (p.jw.waiting.take 1).map HandOff.record
          waiting := p.jw.waiting.tail
          level := a.levelAt (circleDistance a.size p.jw.reclaim f) } ∧
      (p.published f w).dt = (p.publishing f w).acceptWaiting.dt ∧
      (p.published f w).lsq = ((p.publishing f w).acceptWaiting.notePublished p.jw.queue.head?).lsq ∧
      (p.published f w).attn = (if a.backlog ≤ circleDistance a.size p.jw.reclaim f then (p.latch .journal).attn
        else p.attn) ∧
      (p.published f w).lct.timers.age =
        if p.lct.timers.age = .stopped then
          (if IntervalCode.count a.age = 0 then .stopped else .running a.age (IntervalCode.units a.age))
        else p.lct.timers.age := by
  rw [Part.published_eq area]
  refine ⟨?jw, by simp, by simp, ?attn, ?age⟩
  case jw => simp [Part.settleLevel, Part.acceptWaiting_jw, Part.publishing, Jw.unreclaimed]
  case attn =>
    simp only [Part.settleLevel_keeps, Part.ageAtPublish_keeps, Part.checkBacklog, Part.notePublished_keeps,
      Part.acceptWaiting_jw, Part.publishing, Jw.unreclaimed]
    split
    · exact Part.latch_attn_congr (by simp) _
    · simp
  case age => simp [Part.ageAtPublish_age, Part.publishing]

/-- The dial whose items alone changed, before what follows the command. -/
theorem Dt.same_of_items {x y z : Dt} (h : { x with permit := y.permit, indexExpected := y.indexExpected } = y)
    (k : { y with items := z.items } = z) :
    { x with items := z.items, permit := z.permit, indexExpected := z.indexExpected } = z := by
  have permit : y.permit = z.permit := by rw [← k]
  have expected : y.indexExpected = z.indexExpected := by rw [← k]
  rw [← permit, ← expected]
  exact (congrArg (fun d : Dt => { d with items := z.items }) h).trans k

/-- The part with these queues of the arbiter. -/
def Part.withSa (p : Part) (a : Sa) : Part := { p with sa := a }

/-- Settles O29. -/
theorem publishGrantMovesTheFillOffset : Obligations.PublishGrantMovesTheFillOffset := by
  intro s a cells f w h rest chosen head area
  obtain ⟨p, hp⟩ : ∃ p, p = s.part.withSa (s.part.sa.popped .journal) := ⟨_, rfl⟩
  have granted : s.grant .journal = (s.setSa (s.part.sa.popped .journal)).grantRequest (.write cells (.publish f w) h) :=
    State.grant_of_queue (c := .journal) head
  obtain ⟨t, run, part⟩ : ∃ t, exec .storeGrant s = .next t ∧ t.part = Part.commit s.part (p.published f w) :=
    ⟨_, exec_storeGrant chosen, by rw [granted, hp]; rfl⟩
  have accepted : (p.publishing f w).acceptWaiting.lsq = s.part.lsq := by simp [Part.publishing, hp, Part.withSa]
  obtain ⟨jw, dt, lsq, attn, age⟩ := Part.published_blocks (p := p) (by rw [hp]; exact area) f w
  obtain ⟨kept, completion⟩ := (p.publishing f w).acceptWaiting.notePublished_lsq p.jw.queue.head?
  rw [accepted, ← lsq] at kept
  simp only [accepted, ← lsq] at completion
  obtain ⟨-, -, -, -, -, tlsq, tjw, tattn, -⟩ := Part.commit_blocks s.part (p.published f w)
  obtain ⟨-, -, -, -, titems, -⟩ := Part.commit_fields s.part (p.published f w)
  obtain ⟨-, -, -, tage, -⟩ := Part.commit_timers s.part (p.published f w)
  have dial := Part.commit_keeps s.part (p.published f w) [.dial] .dial (by simp)
  rw [← part] at tlsq tjw tattn titems tage dial
  rw [jw] at tjw
  refine ⟨t, run, by rw [tjw], by rw [tjw], by rw [tjw], by rw [tjw, hp]; rfl, by rw [tjw, hp]; rfl,
    by rw [tjw, hp]; rfl, by rw [tjw, hp]; rfl, ?items, ?dial, ⟨by rw [tjw, hp]; rfl, ?attn, ?age⟩,
    by rw [tlsq]; exact kept, fun k r hk hr close => ?completion⟩
  case items => rw [titems, dt, Part.acceptWaiting_items, hp]; rfl
  case dial =>
    have items := (p.publishing f w).acceptWaiting_dt
    rw [← dt, hp] at items
    rw [hp] at dial
    exact Dt.same_of_items dial items
  case attn =>
    have latched := Part.latch_attn_congr (p := s.part) (q := s.part.withSa (s.part.sa.popped .journal)) rfl .journal
    rw [tattn, attn, hp, latched]
    rfl
  case age => rw [tage, age, hp]; rfl
  case completion =>
    rw [tlsq]
    exact completion k r hk (by rw [hp]; exact hr) close

/-! ## Reclaims (R166) -/

theorem Jw.reclaimOk_iff (j : Jw) (a : JournalArea) (v : Nat) :
    j.reclaimOk a v = true ↔
      v % 8 = 0 ∧ v < a.size ∧ circleDistance a.size j.reclaim v ≤ circleDistance a.size j.reclaim j.fill := by
  simp [Jw.reclaimOk, and_assoc]

/-- The part with a reclaim offset. -/
def Part.withReclaim (p : Part) (v : Nat) : Part := { p with jw := { p.jw with reclaim := v } }

theorem Part.retest_of_waiting {p : Part} (h : p.jw.writer = .waiting) : p.retest = p.testHead := if_pos h

theorem Part.retest_of_other {p : Part} (h : p.jw.writer ≠ .waiting) : p.retest = p := if_neg h

/-- A writer that tests again changes of the JW the writer alone. -/
theorem Part.retest_jw (p : Part) : { p.retest.jw with writer := p.jw.writer } = p.jw := by
  unfold Part.retest
  split
  · exact p.testHead_writer.1
  · rfl

/-- An empty queue is not tested. -/
theorem Part.testHead_of_empty {p : Part} (h : p.jw.queue = []) : p.testHead = p := by
  unfold Part.testHead
  rw [h]
  split
  · next absurd => cases absurd
  · rfl

theorem Part.retest_of_settled {p : Part} (h : p.jw.writer ≠ .waiting ∨ p.jw.queue = []) : p.retest = p := by
  by_cases waiting : p.jw.writer = .waiting
  · rw [Part.retest_of_waiting waiting, Part.testHead_of_empty (h.resolve_left (· waiting))]
  · exact Part.retest_of_other waiting

/-- A valid value: the offset, the writer's test again, the level and the age timer. -/
theorem Part.reclaim_valid {p : Part} {a : JournalArea} {v : Nat} (area : p.jw.area = some a)
    (ok : p.jw.reclaimOk a v = true) :
    (p.reclaim v).jw =
        { (p.withReclaim v).retest.jw with level := a.levelAt (circleDistance a.size v p.jw.fill) } ∧
      (p.reclaim v).sa = (p.withReclaim v).retest.sa ∧ (p.reclaim v).attn = p.attn ∧
      (p.reclaim v).lct.timers =
        { p.lct.timers with
          age :=
            if circleDistance a.size v p.jw.fill = 0 then .stopped
            else if IntervalCode.count a.age = 0 then .stopped
            else .running a.age (IntervalCode.units a.age) } := by
  have jw := (p.withReclaim v).retest_jw
  have fill : (p.withReclaim v).retest.jw.fill = p.jw.fill :=
    show _ = (p.withReclaim v).jw.fill by rw [← jw]
  have reclaim : (p.withReclaim v).retest.jw.reclaim = v :=
    show _ = (p.withReclaim v).jw.reclaim by rw [← jw]
  have eq : p.reclaim v = ((p.withReclaim v).retest.settleLevel a).ageAtReclaim a := by
    simp only [Part.reclaim, area, if_pos ok, Part.withReclaim]
  rw [eq]
  refine ⟨?jw, by simp, by simp [Part.withReclaim], ?timers⟩
  case jw => simp [Part.settleLevel, Jw.unreclaimed, fill, reclaim]
  case timers =>
    simp only [Part.ageAtReclaim, Part.startAge, Part.settleLevel, Jw.unreclaimed, fill, reclaim, Timer.start]
    split
    · simp [Part.withReclaim]
    · simp [Part.withReclaim]

theorem Part.reclaim_invalid {p : Part} {a : JournalArea} {v : Nat} (area : p.jw.area = some a)
    (bad : ¬ p.jw.reclaimOk a v = true) :
    p.reclaim v = (p.latch .reclaim).event (.badReclaim v p.jw.reclaim p.jw.fill) := by
  simp only [Part.reclaim, area, if_neg bad]

theorem Part.reclaim_unheld {p : Part} (area : p.jw.area = none) (v : Nat) : p.reclaim v = p := by
  simp only [Part.reclaim, area]

/-- The 32-bit reclaim word after a write of its upper half. -/
theorem reclaimWord_eq {m : List Host.Cell} (ok : Memory.wf m = true) (v : HostWord) :
    leNat (Memory.readBytes (Memory.writeAll m (wordCells 0x000406 v)) 0x000404 4) =
      (Memory.read m 0x000404).toNat + 256 * (Memory.read m 0x000405).toNat + 65536 * v.toNat := by
  obtain ⟨low, high, others⟩ := Memory.read_wordCells ok (a := 0x000406) v (by decide)
  have word : (v.setWidth 8).toNat + 256 * ((v >>> 8).setWidth 8).toNat = v.toNat := by
    simp only [BitVec.toNat_setWidth, BitVec.toNat_ushiftRight, Nat.shiftRight_eq_div_pow]
    omega
  simp only [show (0x000406 : StoreAddr).toNat = 0x000406 from rfl] at low high
  simp only [Memory.readBytes, List.range_succ, List.range_zero, List.nil_append, List.map_cons,
    List.map_nil, List.cons_append, leNat, Nat.reduceAdd, low, high, others 0x000404 (by decide) (by decide),
    others 0x000405 (by decide) (by decide)]
  omega

/-- The grant of a write of the reclaim word's upper half, up to what follows the command. -/
theorem State.watched_reclaim {s : State} {v : HostWord} {watched : Bool} (ok : s.storeOk) :
    s.watched { address := 0x000406, value := v, watched } =
      (s.part.watchPost { address := 0x000406, value := v, watched }).reclaim
        ((Memory.read s.store 0x000404).toNat + 256 * (Memory.read s.store 0x000405).toNat + 65536 * v.toNat) := by
  rw [← reclaimWord_eq ok v]
  rfl

/-- Settles O30. -/
theorem reclaimWritesAreChecked : Obligations.ReclaimWritesAreChecked := by
  refine ⟨fun s v watched rest a r chosen head area ok word => ?held, fun s v watched rest chosen head area ok => ?unheld⟩
  case held =>
    obtain ⟨p, hp⟩ : ∃ p, p = s.part.watchPost { address := 0x000406, value := v, watched } := ⟨_, rfl⟩
    obtain ⟨t, run, part⟩ : ∃ t, exec .storeGrant s = .next t ∧ t.part = Part.commit s.part (p.reclaim r) := by
      refine ⟨_, exec_storeGrant chosen, ?_⟩
      rw [State.grant_hostWrite head, hp, word, ← State.watched_reclaim ok]
      rfl
    have jw : p.jw = s.part.jw := by rw [hp]; simp
    have sa : p.sa = s.part.sa := by rw [hp]; simp
    have attn : p.attn = s.part.attn := by rw [hp]; simp
    have lct : p.lct = s.part.lct := by rw [hp]; simp
    have index : p.indexCount = s.part.indexCount := by rw [hp]; simp [Part.indexCount]
    obtain ⟨-, -, -, -, -, -, tjw, tattn, -⟩ := Part.commit_blocks s.part (p.reclaim r)
    obtain ⟨tjournal, -⟩ := Part.commit_queues s.part (p.reclaim r)
    have ttimers := Part.commit_timers_eq s.part (p.reclaim r)
    rw [← part] at tjw tattn tjournal ttimers
    have held : p.jw.area = some a := by rw [jw]; exact area
    have valid := p.jw.reclaimOk_iff a r
    rw [jw] at valid
    refine ⟨t, run, fun ok => ?valid, fun bad => ?invalid⟩
    case valid =>
      obtain ⟨qjw, qsa, qattn, qtimers⟩ := Part.reclaim_valid held (by rw [jw]; exact valid.mpr ok)
      have retested := (p.withReclaim r).retest_jw
      rw [qjw] at tjw
      rw [qsa] at tjournal
      have reclaimed : (p.withReclaim r).jw = { s.part.jw with reclaim := r } := by rw [← jw]; rfl
      refine ⟨?same, by rw [tattn, qattn, attn], by rw [tjw, jw], fun settled => ?settled,
        fun waiting x xs queue => ?waiting, ?timers⟩
      case same =>
        have levelled := congrArg (fun j : Jw => { j with level := s.part.jw.level }) retested
        rw [reclaimed] at levelled
        rw [tjw]
        exact levelled
      case settled =>
        have still : (p.withReclaim r).retest = p.withReclaim r :=
          Part.retest_of_settled (by rw [reclaimed]; exact settled)
        rw [tjw, tjournal, still, ← sa, reclaimed]
        exact ⟨rfl, rfl⟩
      case waiting =>
        have tested := Part.testHead_headTested (p := p.withReclaim r) (a := a) (r := x) (rest := xs)
          (by rw [reclaimed]; exact area) (by rw [reclaimed]; exact queue)
        rw [← Part.retest_of_waiting (by rw [reclaimed]; exact waiting), Jw.unreclaimed, reclaimed] at tested
        exact Part.headTested_congr tested (by rw [reclaimed]) (by rw [reclaimed]) (congrArg Sa.journal sa.symm) index.symm
          (by rw [tjw]) tjournal
      case timers =>
        rw [qtimers, jw, lct] at ttimers
        exact ttimers
    case invalid =>
      have eq := Part.reclaim_invalid held (by rw [jw]; exact mt valid.mp bad)
      have latched : (p.latch .reclaim).attn = (s.part.latch .reclaim).attn := Part.latch_attn_congr attn _
      rw [eq] at tattn tjournal ttimers
      simp only [Part.event_keeps, Part.latch_keeps] at tattn tjournal ttimers
      refine ⟨tattn.trans latched, by rw [tjournal, sa], by rw [lct] at ttimers; exact ttimers, ?_⟩
      have handed := Part.handed_event (p.latch .reclaim) (.badReclaim r p.jw.reclaim p.jw.fill)
      rw [← eq, jw] at handed
      rw [part]
      exact Part.handed_commit s.part (Part.handed_of_left (by simp [jw]) handed)
  case unheld =>
    obtain ⟨p, hp⟩ : ∃ p, p = s.watched { address := 0x000406, value := v, watched } := ⟨_, rfl⟩
    have eq : p = s.part.watchPost { address := 0x000406, value := v, watched } := by
      rw [hp, State.watched_reclaim ok]
      exact Part.reclaim_unheld (by simpa using area) _
    obtain ⟨low, high, others⟩ := Memory.read_wordCells ok (a := 0x000406) v (by decide)
    refine ⟨_, exec_storeGrant chosen, ?_⟩
    rw [State.grant_hostWrite head]
    refine ⟨?stored, ?kept⟩
    case stored =>
      simp only [leBytes_two, Memory.readBytes, List.range_succ, List.range_zero, List.nil_append, List.map_cons,
        List.map_nil, List.cons_append]
      exact congrArg₂ (fun x y => [x, y]) low high
    case kept =>
      change Part.keepsBut [] s.part (Part.commit s.part (s.watched _))
      rw [← hp, eq]
      have rqx := s.part.watchPost_rqx { address := 0x000406, value := v, watched }
      refine Part.keepsBut_commit fun x _ => ?_
      cases x
      case queues =>
        have sa : (s.part.watchPost { address := 0x000406, value := v, watched }).sa = s.part.sa := by simp
        simp only [Region.same, sa]
        exact Sa.follows_refl _
      case requests =>
        simp only [Region.same]
        rw [rqx]
        exact ⟨rfl, rfl, rfl⟩
      all_goals simp [Region.same]

end Sys2Proof.Machine
end

section
/-! The taking of a request slot (R156), and the commands out of place (O60). -/

namespace Sys2Proof.Machine

theorem requestOfSlot_eq (r : SlotRead) (bytes : List Byte) :
    requestOfSlot r bytes =
      { slot := r.slot, address := r.address, kind := fieldAt bytes 2 1, notify := decide (fieldAt bytes 3 1 % 2 = 1),
        args := (bytes.drop 4).take 20, executing := false } := by
  simp [requestOfSlot, beq_eq_decide]

theorem Part.takeSlot_of_posted {p : Part} {r : SlotRead} {bytes : List Byte} (reading : p.rqx.reading = some r)
    (data : r.data = some bytes) (posted : fieldAt bytes 0 2 = 1) :
    p.takeSlot =
      { p.fileRequest (writeRequests (cellsAt r.address [0x02, 0x00]) .plain) with
        rqx := { p.rqx with reading := none, current := some (requestOfSlot r bytes) } } := by
  simp only [Part.takeSlot, reading, data, if_pos posted]
  rfl

theorem Part.takeSlot_of_other {p : Part} {r : SlotRead} {bytes : List Byte} (reading : p.rqx.reading = some r)
    (data : r.data = some bytes) (other : fieldAt bytes 0 2 ≠ 1) :
    p.takeSlot = { p with rqx := { p.rqx with reading := none } } := by
  simp only [Part.takeSlot, reading, data, if_neg other]

/-- A slot that is posted becomes the current request, and the TAKEN write is filed. -/
theorem Part.commit_takeSlot_of_posted {p : Part} {r : SlotRead} {bytes : List Byte} (b : Part)
    (reading : p.rqx.reading = some r) (data : r.data = some bytes) (posted : fieldAt bytes 0 2 = 1) :
    (Part.commit b p.takeSlot).rqx =
        { p.rqx with reading := none, current := some (requestOfSlot r bytes) } ∧
      ({ p.sa with request := p.sa.request ++ writeRequests (cellsAt r.address [0x02, 0x00]) .plain } : Sa).follows
        (Part.commit b p.takeSlot).sa := by
  rw [Part.takeSlot_of_posted reading data posted]
  refine ⟨?_, Part.commit_follows b _⟩
  rw [Part.commit_rqx, Part.fetchPost_of_held (.inl (by simp))]

/-- A slot that is dropped leaves the RQX free: it takes the next post where it may. -/
theorem Part.commit_takeSlot_of_other {p : Part} {r : SlotRead} {bytes : List Byte} (b : Part)
    (reading : p.rqx.reading = some r) (data : r.data = some bytes) (other : fieldAt bytes 0 2 ≠ 1) :
    (Part.commit b p.takeSlot).rqx.current = p.rqx.current ∧ p.sa.follows (Part.commit b p.takeSlot).sa ∧
      (∀ base i after, p.rqx.current = none → p.cfg.work = .none → p.rqx.base = some base → p.rqx.posts = i :: after →
        (Part.commit b p.takeSlot).rqx =
            { p.rqx with
              posts := after, reading := some { slot := i, address := base + 32 * i, data := none } } ∧
          (Part.commit b p.takeSlot).sa.request = p.sa.request ++ readRequests (base + 32 * i) 32 .slot) ∧
      (p.rqx.current ≠ none ∨ p.cfg.work ≠ .none ∨ p.rqx.base = none ∨ p.rqx.posts = [] →
        (Part.commit b p.takeSlot).rqx = { p.rqx with reading := none } ∧
          (Part.commit b p.takeSlot).sa.request = p.sa.request) := by
  rw [Part.takeSlot_of_other reading data other]
  refine ⟨by simp, Part.commit_follows b _, fun base i after current work hbase posts => ?free, fun held => ?held⟩
  case free =>
    rw [Part.commit_rqx, Part.commit_request, Part.fetchPost_of_free (by exact current) rfl (by exact hbase)
      (by exact posts) (by exact work)]
    exact ⟨rfl, rfl⟩
  case held =>
    rw [Part.commit_rqx, Part.commit_request, Part.fetchPost_of_held (by dsimp only; tauto)]
    exact ⟨rfl, rfl⟩

/-- What the taking of a slot keeps of the RQX. -/
@[simp] theorem Part.takeSlot_rqx (p : Part) :
    p.takeSlot.rqx.base = p.rqx.base ∧ p.takeSlot.rqx.parkedRef = p.rqx.parkedRef := by
  unfold Part.takeSlot
  split
  · exact ⟨rfl, rfl⟩
  · split
    · exact ⟨rfl, rfl⟩
    · split <;> exact ⟨rfl, rfl⟩

theorem exec_requestSlotRead_granted {s : State} {r : SlotRead} {bytes : List Byte}
    (reading : s.part.rqx.reading = some r) (data : r.data = some bytes) :
    exec .requestSlotRead s = .next { s with part := Part.commit s.part s.part.takeSlot } := by
  have whole : ¬ s.part.slotReadWaits = true := by simp [Part.slotReadWaits, reading, data]
  exact (if_neg whole).trans (State.onOccasion_of Part.takeSlot (by simp [reading]))

theorem exec_requestSlotRead_next {s : State} {r : SlotRead} {a n : Nat} {rest : List StoreRequest}
    (reading : s.part.rqx.reading = some r) (data : r.data = none) (chosen : s.choice = some .request)
    (head : s.part.sa.request = .read a n .slot :: rest) :
    exec .requestSlotRead s =
      .next (State.commit s { s.grant .request with part := (s.grant .request).part.takeSlot }) := by
  have waits : s.part.slotReadWaits = true := by simp [Part.slotReadWaits, reading, data]
  have next : s.choice = some .request ∧ s.part.sa.slotReadAtHead = true :=
    ⟨chosen, by simp [Sa.slotReadAtHead, head]⟩
  exact (if_pos waits).trans (if_pos next)

/-- The part once the slot's read is granted. -/
def Part.slotRead (p : Part) (rest : List StoreRequest) (r : SlotRead) (bytes : List Byte) : Part :=
  { p with
    sa := { p.sa with request := rest }
    rqx := { p.rqx with reading := some { r with data := some bytes } } }

theorem State.grant_slotRead {s : State} {r : SlotRead} {a n : Nat} {rest : List StoreRequest}
    (reading : s.part.rqx.reading = some r) (data : r.data = none)
    (head : s.part.sa.request = .read a n .slot :: rest) :
    s.grant .request =
      { s with part := s.part.slotRead rest r (Memory.readBytes s.store a n), hp := s.hp.partGranted } := by
  simp [State.grant, head, State.setSa, State.grantRequest, Part.readGranted, reading, data, Part.slotRead]

theorem Part.commit_takeSlot_keeps (p : Part) :
    Part.keeps [.dial, .loading, .meters, .references, .plans, .bins, .lots, .journal, .attention, .configuration,
      .lines, .timers, .own] p (Part.commit p p.takeSlot) := by
  refine Part.keeps_commit fun x hx => ?_
  cases x <;> simp_all [Region.same]

theorem Part.commit_slotRead_keeps (p : Part) (rest : List StoreRequest) (r : SlotRead) (bytes : List Byte) :
    Part.keeps [.dial, .loading, .meters, .references, .plans, .bins, .lots, .journal, .attention, .configuration,
      .lines, .timers, .own] p (Part.commit p (p.slotRead rest r bytes).takeSlot) := by
  refine Part.keeps_commit fun x hx => ?_
  cases x <;> simp_all [Region.same, Part.slotRead]

/-- Settles O31. -/
theorem slotReadTakesAPostedSlot : Obligations.SlotReadTakesAPostedSlot := by
  refine ⟨fun s r a n rest reading data chosen head => ?next, fun s r bytes reading data => ?granted⟩
  case next =>
    obtain ⟨bytes, hbytes⟩ : ∃ bytes, bytes = Memory.readBytes s.store a n := ⟨_, rfl⟩
    obtain ⟨t, run, part, hp, store, pending⟩ : ∃ t, exec .requestSlotRead s = .next t ∧
        t.part = Part.commit s.part (s.part.slotRead rest r bytes).takeSlot ∧ t.hp = s.hp.partGranted ∧
          t.store = s.store ∧ t.pending = s.pending :=
      ⟨_, exec_requestSlotRead_next reading data chosen head, by
        rw [State.grant_slotRead reading data head, hbytes]; exact ⟨rfl, rfl, rfl, rfl⟩⟩
    have granted : (s.part.slotRead rest r bytes).rqx.reading = some { r with data := some bytes } := rfl
    have kept := s.part.commit_slotRead_keeps rest r bytes
    obtain ⟨-, -, -, -, -, -, -, base, parked, -⟩ := Part.commit_fields s.part (s.part.slotRead rest r bytes).takeSlot
    rw [← part] at kept base parked
    rw [← hbytes]
    refine ⟨t, run, store, pending, by rw [hp, HostPort.partGranted_eq], kept, by rw [base]; simp [Part.slotRead],
      by rw [parked]; simp [Part.slotRead], fun posted => ?posted, fun other => ?other⟩
    case posted =>
      obtain ⟨rqx, follows⟩ := Part.commit_takeSlot_of_posted s.part granted rfl posted
      rw [← part] at rqx follows
      rw [rqx, requestOfSlot_eq]
      exact ⟨rfl, rfl, rfl, follows⟩
    case other =>
      have dropped := Part.commit_takeSlot_of_other s.part granted rfl other
      rw [← part] at dropped
      exact dropped
  case granted =>
    obtain ⟨p, hp⟩ : ∃ p, p = Part.commit s.part s.part.takeSlot := ⟨_, rfl⟩
    have kept := s.part.commit_takeSlot_keeps
    obtain ⟨-, -, -, -, -, -, -, base, parked, -⟩ := Part.commit_fields s.part s.part.takeSlot
    rw [← hp] at kept base parked
    refine ⟨_, exec_requestSlotRead_granted reading data, ⟨rfl, rfl, rfl⟩, ?_⟩
    rw [← hp]
    refine ⟨kept, by rw [base]; simp, by rw [parked]; simp, fun posted => ?posted, fun other => ?other⟩
    case posted =>
      obtain ⟨rqx, follows⟩ := Part.commit_takeSlot_of_posted s.part reading data posted
      rw [← hp] at rqx follows
      rw [rqx, requestOfSlot_eq]
      exact ⟨rfl, rfl, rfl, follows⟩
    case other =>
      obtain ⟨current, follows, free, held⟩ := Part.commit_takeSlot_of_other s.part reading data other
      rw [← hp] at current follows free held
      exact ⟨current, by rw [Part.filed, List.append_nil]; exact follows, free, held⟩

end Sys2Proof.Machine
end

section
/-! Commands whose occasion does not hold (log 1, log 27). -/

namespace Sys2Proof.Machine

theorem State.onOccasion_of_not {s : State} {b : Bool} (f : Part → Part) (h : b = false) :
    s.onOccasion b f = .next s := by
  simp [State.onOccasion, h]

theorem State.onBus_of_held {s : State} (t : State) (h : s.hp.cycle ≠ .none) : s.onBus t = .next s := if_neg h

theorem Part.requestOfKind_of_not {p : Part} {k : Nat} (h : ¬ p.executes k) : p.requestOfKind k = none := by
  unfold Part.requestOfKind
  split
  · rfl
  · next c current => exact if_neg fun ⟨kind, executing⟩ => h ⟨c, current, kind, executing⟩

theorem State.onRequest_of_not {s : State} {k : Nat} (f : Part → Part) (h : ¬ s.part.executes k) :
    s.onRequest k f = .next s :=
  State.onOccasion_of_not f (by rw [Part.requestOfKind_of_not h]; rfl)

theorem Part.binOccasion_of_not {p : Part} (h : ¬ p.executes 6) (action : Nat) : p.binOccasion action = false := by
  rw [Part.binOccasion, Part.requestOfKind_of_not h]
  rfl

theorem Timer.isRunning_of_stopped {t : Timer} (h : t = .stopped) : t.isRunning = false := by
  rw [h]
  rfl

theorem Part.closeConditions_of_not {p : Part} (h : p.lsq.engine ≠ .drain) : p.closeConditions = false := by
  have engine : (p.lsq.engine == .drain) = false := by simpa using h
  simp [Part.closeConditions, engine]

theorem Part.writerDue_of_not {p : Part} (h : p.jw.writer ≠ .idle ∨ p.jw.queue = [] ∨ p.jw.area = none) :
    p.writerDue = false := by
  unfold Part.writerDue
  rcases h with writer | queue | area
  · simp [writer]
  · simp [queue]
  · simp [area]

/-- A work that is not under way has no end. -/
theorem exec_ends_of_idle (s : State) :
    (s.part.lsq.startLot = none →
      exec .startLotSetupsDone s = .next s ∧ ∀ flt, exec (.contextReadDone flt) s = .next s) ∧
    (s.part.ps.staging = none → exec .planStagingEnd s = .next s) ∧
    (s.part.lsq.engine ≠ .drain → exec .lotClose s = .next s) ∧
    (s.part.lsq.completion = none → exec .closeCompletionEnd s = .next s) ∧
    (s.part.cfg.work = .none → exec .configureReadDone s = .next s ∧ exec .configureHeldTaken s = .next s) ∧
    (s.hp.draining = false → exec .softResetDrainEnd s = .next s) ∧
    (s.part.rqx.reading = none → exec .requestSlotRead s = .next s) := by
  refine ⟨fun h => ⟨?_, fun flt => ?_⟩, fun h => ?_, fun h => ?_, fun h => ?_, fun h => ⟨?_, ?_⟩, fun h => ?_,
    fun h => ?_⟩
  · simp [exec, execStartLotSetupsDone, Part.setupsComplete, h]
  · simp [exec, execContextReadDone, Part.contextComplete, h]
  · simp [exec, execPlanStagingEnd, Part.stagingComplete, h]
  · exact State.onOccasion_of_not _ (Part.closeConditions_of_not h)
  · simp [exec, execCloseCompletionEnd, Part.completionEnded, h]
  · simp [exec, execConfigureReadDone, Part.configReady, h]
  · exact State.onOccasion_of_not _ (by simp [h])
  · simp [exec, execSoftResetDrainEnd, h]
  · simp [exec, execRequestSlotRead, Part.slotReadWaits, State.onOccasion, h]

/-- A timer that is stopped does not expire. -/
theorem exec_expiries_of_stopped (s : State) :
    (s.part.lct.timers.jam = .stopped → exec .jamTimerExpiry s = .next s) ∧
    (s.part.lct.timers.feed = .stopped → exec .feedTimerExpiry s = .next s) ∧
    (s.part.lct.timers.clearJet = .stopped → exec .catchTimerExpiry s = .next s) ∧
    (s.part.lct.timers.starvation = .stopped → exec .starvationTimerExpiry s = .next s) ∧
    (s.part.lct.timers.age = .stopped → exec .ageTimerExpiry s = .next s) ∧
    (∀ m, s.part.lct.timers.take.get m = .stopped → exec (.takeTimerExpiry m) s = .next s) ∧
    (∀ n : Fin 32, s.part.lct.timers.pulse.getD n.val .stopped = .stopped →
      exec (.pulseTimerExpiry n) s = .next s) :=
  ⟨fun h => State.onOccasion_of_not _ (Timer.isRunning_of_stopped h),
    fun h => State.onOccasion_of_not _ (Timer.isRunning_of_stopped h),
    fun h => State.onOccasion_of_not _ (Timer.isRunning_of_stopped h),
    fun h => State.onOccasion_of_not _ (Timer.isRunning_of_stopped h),
    fun h => State.onOccasion_of_not _ (Timer.isRunning_of_stopped h),
    fun _ h => State.onOccasion_of_not _ (Timer.isRunning_of_stopped h),
    fun _ h => State.onOccasion_of_not _ (Timer.isRunning_of_stopped h)⟩

/-- A write to a register and a store cycle wait for the bus. -/
theorem exec_of_held (s : State) (h : s.hp.cycle ≠ .none) :
    exec .configure s = .next s ∧ exec .softReset s = .next s ∧
      (∀ v, exec (.attnCauseWrite v) s = .next s ∧ exec (.attnEnableWrite v) s = .next s) ∧
      (∀ n v, exec (.apertureWrite n v) s = .next s) ∧
      (∀ a v, exec (.hostStoreWrite a v) s = .next s ∧ exec (.hostStoreRead a) s = .next s) := by
  refine ⟨State.onOccasion_of_not _ (by simp [h]), ?reset,
    fun _ => ⟨State.onBus_of_held _ h, State.onBus_of_held _ h⟩, fun _ _ => State.onBus_of_held _ h,
    fun _ _ => ⟨State.onBus_of_held _ h, State.onBus_of_held _ h⟩⟩
  case reset =>
    simp only [exec, execSoftReset, State.onBus_of_held _ h, ite_self]

/-- Settles O60. -/
theorem commandsOutOfPlaceChangeNothing : Obligations.CommandsOutOfPlaceChangeNothing := by
  intro s
  obtain ⟨startLot, staging, close, completion, configure, drain, slot⟩ := exec_ends_of_idle s
  obtain ⟨jam, feed, jet, starvation, age, take, pulse⟩ := exec_expiries_of_stopped s
  refine ⟨fun _ h => State.onRequest_of_not _ h, fun h => State.onRequest_of_not _ h,
    fun h => State.onRequest_of_not _ h, fun h => State.onRequest_of_not _ h, fun h => State.onRequest_of_not _ h,
    fun h => ⟨State.onOccasion_of_not _ (Part.binOccasion_of_not h 0),
      State.onOccasion_of_not _ (Part.binOccasion_of_not h 1), State.onOccasion_of_not _ (Part.binOccasion_of_not h 2)⟩,
    fun h => State.onRequest_of_not _ h, fun h => State.onRequest_of_not _ h, fun h => State.onRequest_of_not _ h,
    fun _ h => State.onRequest_of_not _ h, fun h => State.onRequest_of_not _ h, fun h => State.onRequest_of_not _ h,
    fun h => State.onOccasion_of_not _ (by simp [Part.unknownCurrent, h]), startLot, staging, close, completion,
    configure, drain, slot, fun h => State.onOccasion_of_not _ (Part.writerDue_of_not h),
    fun h => by simp only [exec, execStoreGrant, h],
    fun _ h => State.onOccasion_of_not _ (by simp [Line.isCounting, h]),
    fun _ _ h => State.onOccasion_of_not _ (by simp [h]),
    fun m h => ⟨by simp [exec, execMeterFrameSent, h, Link.frame], fun _ => by simp [exec, execReport, h, Link.report]⟩,
    fun m h => ?pending, jam, feed, jet, starvation, age, take, pulse, exec_of_held s⟩
  case pending => simp [exec, execPendingTakeSent, Channel.sendablePending, h]

end Sys2Proof.Machine
end

section
/-! The taking of a CONFIGURE (R181), and the CONFIGURE that fails (R182). -/

namespace Sys2Proof.Machine

/-! ## Taking (R181) -/

/-- What the taking of a CONFIGURE keeps. -/
theorem Part.keeps_ofConfigure {p q : Part} (dt : q.dt = p.dt) (lcu : q.lcu = p.lcu) (mc : q.mc = p.mc)
    (rsc : q.rsc = p.rsc) (ps : q.ps = p.ps) (gbt : q.gbt = p.gbt) (lsq : q.lsq = p.lsq) (rqx : q.rqx = p.rqx)
    (jw : q.jw = p.jw) (attn : q.attn = p.attn) (lct : q.lct = p.lct) :
    Part.keeps [.dial, .loading, .meters, .references, .plans, .bins, .lots, .requests, .journal, .attention, .lines,
      .timers] p (Part.commit p q) := by
  refine Part.keeps_commit fun r hr => ?_
  cases r <;> simp_all [Region.same]

theorem Part.refuseConfigure_cfg (p : Part) :
    p.refuseConfigure.cfg = { work := .none, result := .state, failing := none } ∧ p.refuseConfigure.sa = p.sa :=
  ⟨rfl, rfl⟩

theorem Part.beginConfigure_cfg (p : Part) :
    p.beginConfigure.cfg = { p.cfg with work := .reading [] } ∧
      p.beginConfigure.sa.bulk = p.sa.bulk ++ readRequests 0x000040 132 .configuration := ⟨rfl, rfl⟩

theorem Part.configure_of_inLot {p : Part} (h : p.lsq.engine.inLot = true) : p.configure = p.refuseConfigure := if_pos h

theorem Part.configure_of_waits {p : Part} (engine : p.lsq.engine = .idle) (waits : p.configureWaits = true) :
    p.configure = { p with cfg := { p.cfg with work := .held } } := by
  simp [Part.configure, engine, waits, EngineState.inLot]

theorem Part.configure_of_free {p : Part}
    (h : p.lsq.engine = .unconfigured ∨ (p.lsq.engine = .idle ∧ p.configureWaits = false)) :
    p.configure = p.beginConfigure := by
  rcases h with engine | ⟨engine, free⟩
  · simp [Part.configure, engine, EngineState.inLot]
  · simp [Part.configure, engine, free, EngineState.inLot]

theorem exec_configure_of_none {s : State} (cycle : s.hp.cycle = .none) (work : s.part.cfg.work = .none) :
    exec .configure s = .next { s with part := Part.commit s.part s.part.configure } :=
  State.onOccasion_of Part.configure (by simp [cycle, Cfg.inProgress, work])

theorem exec_configure_of_progress {s : State} (work : s.part.cfg.work ≠ .none) : exec .configure s = .next s :=
  State.onOccasion_of_not _ (by simp [(Cfg.inProgress_iff _).mpr work])

theorem exec_configureHeldTaken_of_free {s : State} (work : s.part.cfg.work = .held)
    (free : s.part.configureWaits = false) :
    exec .configureHeldTaken s = .next { s with part := Part.commit s.part s.part.configureTaken } :=
  State.onOccasion_of Part.configureTaken (by simp [work, free])

theorem Part.configureWaits_iff (p : Part) :
    p.configureWaits = true ↔
      (∃ c, p.rqx.current = some c ∧ (c.kind = 1 ∨ c.kind = 10)) ∨ p.lsq.completion ≠ none := by
  unfold Part.configureWaits
  cases p.rqx.current with
  | none => simp [Option.isSome_iff_ne_none]
  | some c => simp [Option.isSome_iff_ne_none]

/-- Settles O32. -/
theorem configureIsTakenByTheState : Obligations.ConfigureIsTakenByTheState := by
  refine ⟨fun s work => exec_configure_of_progress work, fun s cycle work => ?written, fun s work free => ?taken,
    fun s => s.part.configureWaits_iff⟩
  case written =>
    refine ⟨_, exec_configure_of_none cycle work, ⟨rfl, rfl, rfl⟩, Part.keeps_ofConfigure (by simp) (by simp) (by simp)
      (by simp) (by simp) (by simp) (by simp) (by simp) (by simp) (by simp) (by simp), fun inLot => ?inLot,
      fun engine waits => ?waits, fun free => ?free⟩
    case inLot => simp [Part.configure_of_inLot inLot, s.part.refuseConfigure_cfg]
    case waits => simp [Part.configure_of_waits engine waits]
    case free => simp [Part.configure_of_free free, s.part.beginConfigure_cfg]
  case taken =>
    refine ⟨_, exec_configureHeldTaken_of_free work free, ⟨rfl, rfl, rfl⟩, Part.keeps_ofConfigure (by simp) (by simp)
      (by simp) (by simp) (by simp) (by simp) (by simp) (by simp) (by simp) (by simp) (by simp), fun inLot => ?inLot,
      fun outside => ?free⟩
    case inLot => simp [Part.configureTaken, inLot, s.part.refuseConfigure_cfg]
    case free => simp [Part.configureTaken, outside, s.part.beginConfigure_cfg]

/-! ## The CONFIGURE that fails (R182) -/

theorem exec_configureReadDone_of_read {s : State} {b : List Byte} (work : s.part.cfg.work = .reading b)
    (whole : b.length = 132) (free : s.part.configureWaits = false) :
    exec .configureReadDone s = .next { s with part := Part.commit s.part (s.part.configureRead b) } := by
  have ready : s.part.configReady = some b := by simp [Part.configReady, work, whole, configLength, free]
  simp [exec, execConfigureReadDone, ready, State.onPart]

theorem Part.configureRead_of_fails {p : Part} {b : List Byte} {c : Check} (engine : p.lsq.engine.inLot = false)
    (fails : configFailure b = some c) : p.configureRead b = p.configureFail c := by
  simp [Part.configureRead, engine, fails]

theorem Part.configureRead_of_passes {p : Part} {b : List Byte} (engine : p.lsq.engine.inLot = false)
    (passes : configFailure b = none) : p.configureRead b = p.configurePass b := by
  simp [Part.configureRead, engine, passes]

theorem CatchPulse.orphan_idle (c : CatchPulse) : c.orphan = .idle ↔ c = .idle := by
  cases c <;> simp [CatchPulse.orphan]

theorem Pulse.orphan_idle (c : Pulse) : c.orphan = .idle ↔ c = .idle := by
  cases c <;> simp [Pulse.orphan]

/-- The timers of the owners that a CONFIGURE stops. -/
theorem Part.configureFail_timers (p : Part) (c : Check) (engine : p.lsq.engine.inLot = false) :
    (p.configureFail c).lct.timers = p.lct.timers.afterConfigure := by
  have notRun : p.lsq.engine ≠ .run := by
    rintro run
    simp [run, EngineState.inLot] at engine
  simp [Part.configureFail, Part.enterEngine_timers, Part.starvationOn, notRun, Timers.afterConfigure]

/-- With no engine in a lot and PERMIT low, PERMIT stays. -/
theorem Part.settlePermit_of_idle {p : Part} (engine : p.lsq.engine.working = false) (low : p.dt.permit = false) :
    p.settlePermit = p := by
  refine Part.settlePermit_stays ?_
  rw [low]
  simp [Part.permitConditions, engine]

/-- The bins' outputs at a CONFIGURE: no pulse begins or ends. -/
theorem Part.pulse_orphans {p q : Part} (h : q.gbt.pulses = p.gbt.pulses.map Pulse.orphan) (n : Nat) :
    q.pulse n = .idle ↔ p.pulse n = .idle := by
  have eq : q.pulse n = (p.pulse n).orphan := by
    simp only [Part.pulse, h, List.getD_eq_getElem?_getD, List.getElem?_map]
    cases p.gbt.pulses[n]? <;> rfl
  rw [eq, Pulse.orphan_idle]

theorem HandOff.record_orphan (h : HandOff) : h.orphan.record = h.record := rfl

/-- Settles O34. -/
theorem configureThatFails : Obligations.ConfigureThatFails := by
  intro s b c work whole free engine fails
  obtain ⟨q, hq⟩ : ∃ q, q = s.part.configureFail c := ⟨_, rfl⟩
  refine ⟨_, exec_configureReadDone_of_read work whole free, ⟨rfl, rfl, rfl⟩, ?_⟩
  rw [Part.configureRead_of_fails engine fails, ← hq]
  have dt : q.fetchPost.dt = State.reset.part.dt := by simp [hq, Part.configureFail]; rfl
  have stays : q.fetchPost.settlePermit = q.fetchPost := by
    refine Part.settlePermit_of_idle ?_ (by rw [dt]; rfl)
    simp [hq, Part.configureFail, Part.enterEngine_lsq, EngineState.working]
  refine ⟨?cfg, ?lsq, ?dt, ?lcu, ?jet, ?timeout, fun m => ?channels, ?rsc, ?bins, ?items, fun n => ?pulses, ?jw, ?waiting,
    ?timers, Part.keeps_commit fun r hr => ?kept⟩
  case cfg => simp [hq, Part.configureFail]
  case lsq => simp [hq, Part.configureFail, Part.enterEngine_lsq, Lsq.latchOn]
  case dt => rw [Part.commit_dt, stays, dt]
  case lcu => simp [hq, Part.configureFail]; rfl
  case jet => simp [hq, Part.configureFail, CatchPulse.orphan_idle]
  case timeout => simp [hq, Part.configureFail]
  case channels => simp [hq, Part.configureFail, Part.channel, Channel.reset]
  case rsc => simp [hq, Part.configureFail]; rfl
  case bins => simp [hq, Part.configureFail]; rfl
  case items => simp [hq, Part.configureFail]
  case pulses => exact Part.pulse_orphans (by simp [hq, Part.configureFail]) n
  case jw => simp [hq, Part.configureFail]
  case waiting => simp [hq, Part.configureFail, Function.comp_def, HandOff.record_orphan]
  case timers =>
    rw [Part.commit_lct, stays]
    simp only [Part.fetchPost_keeps, hq, s.part.configureFail_timers c engine]
    rfl
  case kept =>
    cases r
    case queues =>
      have sa : q.sa = s.part.sa := by simp [hq, Part.configureFail]
      simp only [Region.same, sa]
      exact Sa.follows_refl _
    all_goals simp_all [Region.same, Part.configureFail]

end Sys2Proof.Machine
end

section
/-! The checks of a configuration block (R2, R20, R42, R61, R113, R162, R182). -/

namespace Sys2Proof.Machine

/-! ## Lists -/

/-- A list that rises strictly along its order relates each two of its elements in that order. -/
theorem pairwise_iff_of_sorted {α : Type} [LinearOrder α] {l : List α} (sorted : l.Pairwise (· < ·))
    (R : α → α → Prop) : l.Pairwise R ↔ ∀ a ∈ l, ∀ b ∈ l, a < b → R a b := by
  induction l with
  | nil => simp
  | cons x rest ih =>
    obtain ⟨first, later⟩ := List.pairwise_cons.mp sorted
    rw [List.pairwise_cons, ih later]
    constructor
    · rintro ⟨head, tail⟩ a ha b hb lt
      rcases List.mem_cons.mp ha with rfl | ha' <;> rcases List.mem_cons.mp hb with rfl | hb'
      · exact absurd lt (lt_irrefl _)
      · exact head b hb'
      · exact absurd (lt.trans (first a ha')) (lt_irrefl _)
      · exact tail a ha' b hb' lt
    · exact fun h => ⟨fun b hb => h x List.mem_cons_self b (List.mem_cons_of_mem _ hb) (first b hb),
        fun a ha b hb lt => h a (List.mem_cons_of_mem _ ha) b (List.mem_cons_of_mem _ hb) lt⟩

theorem risesStrictly_iff (l : List Nat) : risesStrictly l = true ↔ l.Pairwise (· < ·) := by
  rw [← List.isChain_iff_pairwise]
  induction l with
  | nil => simp [risesStrictly]
  | cons a rest ih =>
    cases rest with
    | nil => simp [risesStrictly]
    | cons b rest => simp [risesStrictly, List.isChain_cons_cons, ih]

/-- The last of a list that rises strictly is its greatest. -/
theorem getLastD_lt_iff {l : List Nat} (rises : l.Pairwise (· < ·)) (some : l ≠ []) (d n : Nat) :
    l.getLastD d < n ↔ ∀ x ∈ l, x < n := by
  have split := List.dropLast_append_getLast some
  have last : l.getLastD d = l.getLast some := by
    rw [List.getLastD_eq_getLast?, List.getLast?_eq_some_getLast some]
    rfl
  rw [last]
  constructor
  · intro below x hx
    rw [← split] at rises hx
    rcases List.mem_append.mp hx with earlier | final
    · exact ((List.pairwise_append.mp rises).2.2 x earlier _ (List.mem_singleton.mpr rfl)).trans below
    · rw [List.mem_singleton.mp final]
      exact below
  · exact fun h => h _ (List.getLast_mem some)

/-- A list that rises strictly after its first element, place by place. -/
theorem risesStrictly_cons_range_iff (d : Nat) (f : Nat → Nat) (n : Nat) :
    risesStrictly (d :: (List.range n).map f) = true ↔ ∀ i < n, (if i = 0 then d else f (i - 1)) < f i := by
  rw [risesStrictly_iff, ← List.isChain_iff_pairwise, List.isChain_iff_getElem]
  have at_ : ∀ i (h : i < n), (d :: (List.range n).map f)[i]'(by simp; omega) = if i = 0 then d else f (i - 1) := by
    intro i h
    cases i with
    | zero => rfl
    | succ i => simp
  simp only [List.length_cons, List.length_map, List.length_range]
  constructor
  · intro h i hi
    have step := h i (by omega)
    rw [at_ i hi] at step
    simpa using step
  · intro h i hi
    rw [at_ i (by omega)]
    simpa using h i (by omega)

theorem getLastD_map_range (f : Nat → Nat) {n : Nat} (h : 1 ≤ n) (d : Nat) :
    ((List.range n).map f).getLastD d = f (n - 1) := by
  obtain ⟨k, rfl⟩ : ∃ k, n = k + 1 := ⟨n - 1, by omega⟩
  simp [List.range_succ]

/-! ## The roles of the stations (R1, R2) -/

theorem mem_allMeters (m : Meter) : m ∈ allMeters := by
  match m with
  | 0 | 1 | 2 | 3 => simp [allMeters]

theorem allMeters_sorted : allMeters.Pairwise (· < ·) := by decide

/-- The stations of a role, as a set. -/
theorem roleCount_eq_card (b : List Byte) (code : Nat) :
    roleCount b code = (allMeters.filter (fun m => Block.roleCode b m == code)).toFinset.card :=
  (List.toFinset_card_of_nodup ((allMeters_sorted.imp ne_of_lt).filter _)).symm

theorem roleCount_le_one_iff (b : List Byte) (code : Nat) :
    roleCount b code ≤ 1 ↔ ∀ m x, Block.roleCode b m = code → Block.roleCode b x = code → x = m := by
  rw [roleCount_eq_card, Finset.card_le_one]
  simp only [List.mem_toFinset, List.mem_filter, mem_allMeters, true_and, beq_iff_eq]
  exact ⟨fun h m x hm hx => h x hx m hm, fun h x hx m hm => h m x hm hx⟩

theorem roleCount_eq_zero_iff (b : List Byte) (code : Nat) : roleCount b code = 0 ↔ ∀ m, Block.roleCode b m ≠ code := by
  simp [roleCount, mem_allMeters]

theorem roleCount_eq_one_iff (b : List Byte) (code : Nat) :
    roleCount b code = 1 ↔ ∃ m, Block.roleCode b m = code ∧ ∀ x, Block.roleCode b x = code → x = m := by
  constructor
  · intro one
    have unique := (roleCount_le_one_iff b code).mp one.le
    have some : ¬ ∀ m, Block.roleCode b m ≠ code := fun h => by
      rw [(roleCount_eq_zero_iff b code).mpr h] at one
      cases one
    obtain ⟨m, hm⟩ := not_forall.mp some
    exact ⟨m, not_not.mp hm, fun x hx => unique m x (not_not.mp hm) hx⟩
  · rintro ⟨m, hm, unique⟩
    have le := (roleCount_le_one_iff b code).mpr fun y x hy hx => (unique x hx).trans (unique y hy).symm
    have some : roleCount b code ≠ 0 := fun zero => (roleCount_eq_zero_iff b code).mp zero m hm
    omega

theorem rolePosition_of_unique {b : List Byte} {code : Nat} {m : Meter} (hm : Block.roleCode b m = code)
    (unique : ∀ x, Block.roleCode b x = code → x = m) : rolePosition b code = Block.position b m := by
  unfold rolePosition
  split
  · next none => exact absurd hm (by simpa using List.find?_eq_none.mp none m (mem_allMeters m))
  · next x some => rw [unique x (by simpa using List.find?_some some)]

theorem rolesOk_iff (b : List Byte) :
    rolesOk b = true ↔
      (∀ m, Block.roleCode b m ≤ 3) ∧
        (∃ m, Block.roleCode b m = 1 ∧ ∀ x, Block.roleCode b x = 1 → x = m) ∧
        (∀ m x, Block.roleCode b m = 2 → Block.roleCode b x = 2 → x = m) ∧
        ∀ m x, Block.roleCode b m = 3 → Block.roleCode b x = 3 → x = m := by
  simp only [rolesOk, Bool.and_eq_true, List.all_eq_true, decide_eq_true_eq, beq_iff_eq, roleCount_le_one_iff,
    roleCount_eq_one_iff, mem_allMeters, true_implies, and_assoc]

theorem Block.mem_usedMeters (b : List Byte) (m : Meter) : m ∈ Block.usedMeters b ↔ Block.roleCode b m ≠ 0 := by
  simp [Block.usedMeters, Block.used, mem_allMeters]

theorem stationsOk_iff (b : List Byte) :
    stationsOk b = true ↔
      (∀ m ∈ Block.usedMeters b, 1 ≤ Block.position b m ∧ Block.position b m < Block.pocketCount b) ∧
        ∀ m ∈ Block.usedMeters b, ∀ x ∈ Block.usedMeters b, m < x → Block.position b m < Block.position b x := by
  have sorted : (Block.usedMeters b).Pairwise (· < ·) := allMeters_sorted.filter _
  rw [stationsOk, Bool.and_eq_true, risesStrictly_iff, Block.usedPositions, List.pairwise_map,
    pairwise_iff_of_sorted sorted]
  simp only [List.all_eq_true, List.mem_map, decide_eq_true_eq, forall_exists_index, and_imp,
    forall_apply_eq_imp_iff₂]

theorem backupOk_iff {b : List Byte} (roles : rolesOk b = true) :
    backupOk b = true ↔
      ∀ m x, Block.roleCode b m = 1 → Block.roleCode b x = 3 → Block.position b m < Block.position b x := by
  obtain ⟨-, ⟨primary, hprimary, only⟩, -, third⟩ := (rolesOk_iff b).mp roles
  rw [backupOk, Bool.or_eq_true, beq_iff_eq, roleCount_eq_zero_iff, decide_eq_true_eq, rolePosition_of_unique hprimary only]
  constructor
  · rintro (none | before) m x hm hx
    · exact absurd hx (none x)
    · rw [rolePosition_of_unique hx (fun y hy => third x y hx hy)] at before
      rw [only m hm]
      exact before
  · intro h
    by_cases some : ∃ x, Block.roleCode b x = 3
    · obtain ⟨x, hx⟩ := some
      rw [rolePosition_of_unique hx (fun y hy => third x y hx hy)]
      exact .inr (h primary x hprimary hx)
    · exact .inl fun x hx => some ⟨x, hx⟩

theorem decisionOk_iff {b : List Byte} (roles : rolesOk b = true) (stations : stationsOk b = true) :
    lastStation b < Block.decision b ↔ ∀ m ∈ Block.usedMeters b, Block.position b m < Block.decision b := by
  obtain ⟨-, ⟨primary, hprimary, -⟩, -⟩ := (rolesOk_iff b).mp roles
  rw [stationsOk, Bool.and_eq_true, risesStrictly_iff] at stations
  have some : Block.usedPositions b ≠ [] := by
    intro none
    have mem := (Block.mem_usedMeters b primary).mpr (by rw [hprimary]; decide)
    rw [Block.usedPositions, List.map_eq_nil_iff] at none
    rw [none] at mem
    cases mem
  rw [lastStation, getLastD_lt_iff stations.2 some, Block.usedPositions]
  simp only [List.mem_map, forall_exists_index, and_imp, forall_apply_eq_imp_iff₂]

/-! ## The list of the checks (R182) -/

theorem IntervalCode.count_ofNat (n : Nat) : IntervalCode.count (BitVec.ofNat 8 n) = n % 64 := by
  simp only [IntervalCode.count, BitVec.toNat_ofNat]
  omega

/-- The checks but those of the references. -/
def plainChecks (b : List Byte) : List Check := geometryChecks b ++ intervalChecks b ++ binChecks b ++ journalChecks b

theorem mem_configChecks (b : List Byte) (c : Check) :
    c ∈ configChecks b ↔ c ∈ plainChecks b ∨ ∃ m ∈ Block.usedMeters b, c ∈ referenceChecks b m := by
  simp only [configChecks, plainChecks, List.mem_append, List.mem_flatten, List.mem_map]
  constructor
  · rintro ((((h | h) | ⟨l, ⟨m, hm, rfl⟩, h⟩) | h) | h)
    · exact .inl (.inl (.inl (.inl h)))
    · exact .inl (.inl (.inl (.inr h)))
    · exact .inr ⟨m, hm, h⟩
    · exact .inl (.inl (.inr h))
    · exact .inl (.inr h)
  · rintro ((((h | h) | h) | h) | ⟨m, hm, h⟩)
    · exact .inl (.inl (.inl (.inl h)))
    · exact .inl (.inl (.inl (.inr h)))
    · exact .inl (.inr h)
    · exact .inr h
    · exact .inl (.inl (.inr ⟨_, ⟨m, hm, rfl⟩, h⟩))

theorem plainChecks_station {b : List Byte} {c : Check} (h : c ∈ plainChecks b) : c.station = none := by
  simp only [plainChecks, geometryChecks, intervalChecks, binChecks, journalChecks, List.mem_append, List.mem_cons,
    List.not_mem_nil, or_false] at h
  aesop

theorem referenceChecks_station {b : List Byte} {m : Meter} {c : Check} (h : c ∈ referenceChecks b m) :
    c.station = some m := by
  simp only [referenceChecks, List.mem_cons, List.not_mem_nil, or_false] at h
  rcases h with rfl | rfl | rfl <;> rfl

/-- Every check of this code and station passes. -/
def ConfigPasses (b : List Byte) (code : ConfigResult) (station : Option Meter) : Prop :=
  ∀ c ∈ configChecks b, c.code = code → c.station = station → c.ok = true

theorem configPasses_none (b : List Byte) (code : ConfigResult) :
    ConfigPasses b code none ↔ ∀ c ∈ plainChecks b, c.code = code → c.ok = true := by
  constructor
  · exact fun h c hc code => h c ((mem_configChecks b c).mpr (.inl hc)) code (plainChecks_station hc)
  · intro h c hc code station
    rcases (mem_configChecks b c).mp hc with plain | ⟨m, -, reference⟩
    · exact h c plain code
    · rw [referenceChecks_station reference] at station
      cases station

theorem configPasses_some {b : List Byte} {m : Meter} (used : m ∈ Block.usedMeters b) (code : ConfigResult) :
    ConfigPasses b code (some m) ↔ ∀ c ∈ referenceChecks b m, c.code = code → c.ok = true := by
  constructor
  · exact fun h c hc code => h c ((mem_configChecks b c).mpr (.inr ⟨m, used, hc⟩)) code (referenceChecks_station hc)
  · intro h c hc code station
    rcases (mem_configChecks b c).mp hc with plain | ⟨x, -, reference⟩
    · rw [plainChecks_station plain] at station
      cases station
    · rw [referenceChecks_station reference] at station
      cases station
      exact h c reference code

/-- Check `n` passes. -/
def ConfigPassesAt (b : List Byte) (n : Nat) : Prop := ∀ c, (configChecks b)[n]? = some c → c.ok = true

theorem configPassesAt_iff {b : List Byte} {n : Nat} {ok : Bool} {code : ConfigResult} {station : Option Meter}
    (h : (configChecks b)[n]? = some { ok, code, station }) : ConfigPassesAt b n ↔ ok = true := by
  unfold ConfigPassesAt
  rw [h]
  exact ⟨fun k => k _ rfl, fun ok x hx => by rw [← Option.some.inj hx]; exact ok⟩

/-- Where the checking ends (R182). -/
theorem configFailure_spec (b : List Byte) :
    (configFailure b = none ↔ ∀ c ∈ configChecks b, c.ok = true) ∧
      ∀ c, configFailure b = some c →
        c.ok = false ∧ ∃ before after, configChecks b = before ++ c :: after ∧ ∀ x ∈ before, x.ok = true := by
  constructor
  · simp [configFailure]
  · intro c h
    obtain ⟨bad, before, after, split, passed⟩ := List.find?_eq_some_iff_append.mp h
    exact ⟨by simpa using bad, before, after, split, fun x hx => by simpa using passed x hx⟩

theorem configChecks_codes (b : List Byte) :
    (configChecks b).map (fun c => (c.code, c.station)) =
      [ConfigResult.pocketCount, .stationRoles, .stationOrder, .stationRoles, .decisionPosition, .gateCount, .gateOrder,
          .clearPosition, .jamInterval, .feedInterval, .catchPulse, .takeInterval].map (fun code => (code, none)) ++
        (Block.usedMeters b).flatMap
          (fun m => [(ConfigResult.referenceOrder, some m), (.referenceMargin, some m), (.driftLimit, some m)]) ++
        [ConfigResult.ejectPulse, .capacity, .missLimit, .journalSize, .journalPlace, .thinningLevels, .backlog,
          .requestArea].map (fun code => (code, none)) := by
  have references : (((Block.usedMeters b).map (referenceChecks b)).flatten).map (fun c => (c.code, c.station)) =
      (Block.usedMeters b).flatMap
        (fun m => [(ConfigResult.referenceOrder, some m), (.referenceMargin, some m), (.driftLimit, some m)]) := by
    rw [List.map_flatten, List.map_map]
    rfl
  simp only [configChecks, List.map_append, references, List.append_assoc]
  rfl

theorem referenceChecks_pass (b : List Byte) (m : Meter) :
    ((∀ c ∈ referenceChecks b m, c.code = .referenceOrder → c.ok = true) ↔
        Block.due b m ≤ Block.force b m ∧ Block.force b m < Block.limit b m) ∧
      ((∀ c ∈ referenceChecks b m, c.code = .referenceMargin → c.ok = true) ↔
        Block.position b m ≤ Block.limit b m - Block.force b m) ∧
      ((∀ c ∈ referenceChecks b m, c.code = .driftLimit → c.ok = true) ↔ Block.drift b m ≠ 0) := by
  simp only [referenceChecks, List.forall_mem_cons, List.not_mem_nil, false_implies, implies_true, and_true,
    reduceCtorEq, true_implies, true_and, Block.thresholds]
  exact ⟨decide_eq_true_iff, decide_eq_true_iff, decide_eq_true_iff⟩

/-- The checks after those of the references (R113, R162). -/
theorem plainChecks_pass (b : List Byte) :
    ((∀ c ∈ plainChecks b, c.code = .ejectPulse → c.ok = true) ↔ IntervalCode.count (Block.ejectPulse b) ≠ 0) ∧
      ((∀ c ∈ plainChecks b, c.code = .capacity → c.ok = true) ↔ Block.capacity b ≠ 0) ∧
      ((∀ c ∈ plainChecks b, c.code = .missLimit → c.ok = true) ↔ 1 ≤ Block.missLimit b ∧ Block.missLimit b ≤ 15) ∧
      ((∀ c ∈ plainChecks b, c.code = .journalSize → c.ok = true) ↔ Block.journalSize b ∈ journalSizes) ∧
      ((∀ c ∈ plainChecks b, c.code = .journalPlace → c.ok = true) ↔
        Block.journalBase b % Block.journalSize b = 0 ∧ Block.journalBase b ≠ 0 ∧
          Block.journalBase b + Block.journalSize b ≤ 0x200000) ∧
      ((∀ c ∈ plainChecks b, c.code = .thinningLevels → c.ok = true) ↔
        1 ≤ Block.t3 b ∧ Block.t3 b < Block.t2 b ∧ Block.t2 b < Block.t1 b ∧ Block.t1 b ≤ Block.journalSize b) ∧
      ((∀ c ∈ plainChecks b, c.code = .backlog → c.ok = true) ↔
        8 ≤ Block.backlog b ∧ Block.backlog b ≤ Block.journalSize b - 8) ∧
      ((∀ c ∈ plainChecks b, c.code = .requestArea → c.ok = true) ↔ requestAreaOk b = true) := by
  simp only [plainChecks, geometryChecks, intervalChecks, binChecks, journalChecks, List.cons_append, List.nil_append,
    List.forall_mem_cons, List.not_mem_nil, false_implies, implies_true, and_true, reduceCtorEq, true_implies, true_and]
  exact ⟨decide_eq_true_iff, decide_eq_true_iff, decide_eq_true_iff, List.contains_iff_mem, decide_eq_true_iff,
    decide_eq_true_iff, decide_eq_true_iff⟩

theorem mem_journalSizes (n : Nat) : n ∈ journalSizes ↔ ∃ i ≤ 8, n = 4096 * 2 ^ i := by
  simp only [journalSizes, List.mem_map, List.mem_range, Nat.lt_succ_iff, eq_comm]

theorem requestAreaOk_iff (b : List Byte) :
    requestAreaOk b = true ↔
      Block.requestBase b % 512 = 0 ∧ 0x1000 ≤ Block.requestBase b ∧ Block.requestBase b + 512 ≤ 0x200000 ∧
        (Block.requestBase b + 512 ≤ Block.journalBase b ∨
          Block.journalBase b + Block.journalSize b ≤ Block.requestBase b) := by
  simp only [requestAreaOk, Bool.and_eq_true, decide_eq_true_eq, and_assoc]

/-- Settles O35. -/
theorem configurationChecksStopAtTheFirstFailure : Obligations.ConfigurationChecksStopAtTheFirstFailure := by
  intro b
  obtain ⟨none, first⟩ := configFailure_spec b
  have roles : ConfigPassesAt b 1 ↔ rolesOk b = true := configPassesAt_iff rfl
  have stations : ConfigPassesAt b 2 ↔ stationsOk b = true := configPassesAt_iff rfl
  obtain ⟨eject, capacity, miss, size, place, levels, backlog, area⟩ := plainChecks_pass b
  have gates : ConfigPassesAt b 5 ↔ 1 ≤ Block.gateCount b ∧ Block.gateCount b ≤ 32 :=
    (configPassesAt_iff rfl).trans decide_eq_true_iff
  refine ⟨none, first, configChecks_codes b, (configPassesAt_iff rfl).trans decide_eq_true_iff,
    roles.trans (rolesOk_iff b), stations.trans (stationsOk_iff b),
    fun one => (configPassesAt_iff rfl).trans (backupOk_iff (roles.mp one)),
    fun one two => ?decision, gates, (configPassesAt_iff rfl).trans (risesStrictly_cons_range_iff _ _ _),
    fun five => ?clear, ?jam, ?feed, ?jet, ?take, fun m used => ⟨?order, fun below => ?margin, ?drift⟩, ?eject, ?capacity,
    ?miss, ?size, ?place, ?levels, ?backlog, ?area⟩
  case decision =>
    have check : ConfigPassesAt b 4 ↔ lastStation b < Block.decision b ∧ Block.decision b < Block.pocketCount b :=
      (configPassesAt_iff rfl).trans decide_eq_true_iff
    rw [decisionOk_iff (roles.mp one) (stations.mp two)] at check
    exact check
  case clear =>
    have last := getLastD_map_range (Block.gate b) (gates.mp five).1 (Block.decision b)
    have check : ConfigPassesAt b 7 ↔ (Block.gates b).getLastD (Block.decision b) < Block.clear b ∧
        Block.clear b < Block.pocketCount b := (configPassesAt_iff rfl).trans decide_eq_true_iff
    rw [Block.gates, last] at check
    exact check
  case jam =>
    rw [← IntervalCode.count_ofNat]
    exact (configPassesAt_iff rfl).trans decide_eq_true_iff
  case feed =>
    rw [← IntervalCode.count_ofNat]
    exact (configPassesAt_iff rfl).trans decide_eq_true_iff
  case jet =>
    rw [← IntervalCode.count_ofNat]
    exact (configPassesAt_iff rfl).trans decide_eq_true_iff
  case take =>
    rw [← IntervalCode.count_ofNat]
    exact (configPassesAt_iff rfl).trans decide_eq_true_iff
  case order => exact (configPasses_some used .referenceOrder).trans (referenceChecks_pass b m).1
  case margin =>
    refine ((configPasses_some used .referenceMargin).trans (referenceChecks_pass b m).2.1).trans ?_
    exact Nat.le_sub_iff_add_le below.le
  case drift => exact (configPasses_some used .driftLimit).trans (referenceChecks_pass b m).2.2
  case eject =>
    rw [← IntervalCode.count_ofNat]
    exact (configPasses_none b .ejectPulse).trans eject
  case capacity => exact (configPasses_none b .capacity).trans capacity
  case miss => exact (configPasses_none b .missLimit).trans miss
  case size => exact ((configPasses_none b .journalSize).trans size).trans (mem_journalSizes _)
  case place => exact (configPasses_none b .journalPlace).trans place
  case levels => exact (configPasses_none b .thinningLevels).trans levels
  case backlog =>
    have margin : 8 ≤ Block.backlog b → (Block.backlog b ≤ Block.journalSize b - 8 ↔
        Block.backlog b + 8 ≤ Block.journalSize b) := fun _ => by omega
    exact ((configPasses_none b .backlog).trans backlog).trans (and_congr_right margin)
  case area => exact ((configPasses_none b .requestArea).trans area).trans (requestAreaOk_iff b)

end Sys2Proof.Machine
end

section
/-! The CONFIGURE that passes: what each block takes, and the re-check of the plan slots (R89, R161, R182). -/

namespace Sys2Proof.Machine

/-! ## The re-check of a plan slot (R89) -/

/-- The special bins of a plan all lie below the gate count. -/
def Plan.specialsBelow (pl : Plan) (gates : Nat) : Prop :=
  ∀ n, (pl.reject = some n ∨ pl.fail = some n ∨ pl.spread = some n ∨ pl.overflow = some n) → n < gates

theorem binFieldOk_iff (gates : Nat) (x : Option Nat) : binFieldOk gates x = true ↔ ∀ n, x = some n → n < gates := by
  cases x <;> simp [binFieldOk]

theorem Plan.specialsBelow_iff (pl : Plan) (gates : Nat) :
    pl.specialsBelow gates ↔
      (binFieldOk gates pl.reject && binFieldOk gates pl.fail && binFieldOk gates pl.spread &&
        binFieldOk gates pl.overflow) = true := by
  simp only [Bool.and_eq_true, binFieldOk_iff, Plan.specialsBelow]
  constructor
  · exact fun h => ⟨⟨⟨fun n e => h n (.inl e), fun n e => h n (.inr (.inl e))⟩, fun n e => h n (.inr (.inr (.inl e)))⟩,
      fun n e => h n (.inr (.inr (.inr e)))⟩
  · rintro ⟨⟨⟨reject, fail⟩, spread⟩, overflow⟩ n (e | e | e | e)
    · exact reject n e
    · exact fail n e
    · exact spread n e
    · exact overflow n e

theorem PlanRow.binsBelow_iff (r : PlanRow) (gates : Nat) :
    r.binsBelow gates = true ↔ r.target < gates ∧ ∀ n ∈ r.alternates, n < gates := by
  simp [PlanRow.binsBelow]

/-- The re-check finds nothing. -/
theorem Plan.binFailure_none {pl : Plan} {gates : Nat} (special : pl.specialsBelow gates)
    (rows : ∀ r ∈ pl.rows, r.target < gates ∧ ∀ n ∈ r.alternates, n < gates) : pl.binFailure gates = none := by
  rw [Plan.binFailure, if_pos ((pl.specialsBelow_iff gates).mp special), List.findIdx?_eq_none_iff]
  intro r hr
  simpa using (r.binsBelow_iff gates).mpr (rows r hr)

theorem Plan.binFailure_header {pl : Plan} {gates : Nat} (special : ¬ pl.specialsBelow gates) :
    pl.binFailure gates = some 255 := if_neg (mt (pl.specialsBelow_iff gates).mpr special)

/-- The re-check reports the lowest row that fails. -/
theorem Plan.binFailure_row {pl : Plan} {gates i : Nat} {r : PlanRow} (special : pl.specialsBelow gates)
    (row : pl.rows[i]? = some r) (bad : ¬ (r.target < gates ∧ ∀ n ∈ r.alternates, n < gates))
    (first : ∀ j y, j < i → pl.rows[j]? = some y → y.target < gates ∧ ∀ n ∈ y.alternates, n < gates) :
    pl.binFailure gates = some i := by
  rw [Plan.binFailure, if_pos ((pl.specialsBelow_iff gates).mp special), List.findIdx?_eq_some_iff_getElem]
  obtain ⟨inside, value⟩ := List.getElem?_eq_some_iff.mp row
  refine ⟨inside, ?_, fun j hj => ?_⟩
  · rw [value]
    simpa using mt (r.binsBelow_iff gates).mp bad
  · have ok := first j pl.rows[j] hj (List.getElem?_eq_getElem (by omega))
    simpa using (PlanRow.binsBelow_iff _ gates).mpr ok

/-- The plan that the re-check of a slot drops, with the location it reports. -/
def PlanSlot.failure (x : PlanSlot) (gates : Nat) : Option (Plan × Nat) :=
  match x.state, x.plan with
  | .staged, some pl => (pl.binFailure gates).map (fun l => (pl, l))
  | _, _ => none

/-- The slot after its re-check. -/
def PlanSlot.rechecked (x : PlanSlot) (gates : Nat) : PlanSlot :=
  match x.failure gates with
  | none => x
  | some _ => { x with state := .empty, plan := none }

/-- The EVENT of the re-check of a slot. -/
def PlanSlot.dropBodies (x : PlanSlot) (gates : Nat) (s : SlotId) : List RecordBody :=
  match x.failure gates with
  | none => []
  | some (pl, l) => [.event (.planDropped s pl.id l)]

theorem Part.recheckSlot_eq (p : Part) (gates : Nat) (s : SlotId) :
    p.recheckSlot gates s =
      match (p.ps.slot s).failure gates with
      | none => p
      | some (pl, l) => (p.setSlot s { p.ps.slot s with state := .empty, plan := none }).event (.planDropped s pl.id l) := by
  unfold Part.recheckSlot PlanSlot.failure
  rcases p.ps.slot s with ⟨state, plan, refs⟩
  cases state with
  | staged =>
    cases plan with
    | none => rfl
    | some pl => cases location : pl.binFailure gates <;> simp [location]
  | empty => rfl
  | loading => rfl

theorem Part.recheckSlot_ps (p : Part) (gates : Nat) (s : SlotId) :
    (p.recheckSlot gates s).ps = p.ps.setSlot s ((p.ps.slot s).rechecked gates) := by
  rw [Part.recheckSlot_eq, PlanSlot.rechecked]
  cases (p.ps.slot s).failure gates with
  | none => cases s <;> rfl
  | some x => simp [Part.setSlot]

theorem Part.handed_recheckSlot (p : Part) (gates : Nat) (s : SlotId) :
    Part.handed p (p.recheckSlot gates s) ((p.ps.slot s).dropBodies gates s) := by
  rw [Part.recheckSlot_eq, PlanSlot.dropBodies]
  cases (p.ps.slot s).failure gates with
  | none => exact p.handed_refl
  | some x => exact Part.handed_of_left (by simp) (Part.handed_event _ _)

/-- The re-checks of both slots (log 50). -/
def Part.recheckBoth (p : Part) (gates : Nat) : Part := (p.recheckSlot gates .a).recheckSlot gates .b

theorem Part.recheckBoth_ps (p : Part) (gates : Nat) :
    (p.recheckBoth gates).ps =
      { p.ps with slotA := p.ps.slotA.rechecked gates, slotB := p.ps.slotB.rechecked gates } := by
  rw [Part.recheckBoth, Part.recheckSlot_ps, Part.recheckSlot_ps]
  rfl

theorem Part.handed_recheckBoth (p : Part) (gates : Nat) :
    Part.handed p (p.recheckBoth gates)
      (p.ps.slotA.dropBodies gates .a ++ p.ps.slotB.dropBodies gates .b) := by
  have first := p.handed_recheckSlot gates .a
  have second := (p.recheckSlot gates .a).handed_recheckSlot gates .b
  have slot : (p.recheckSlot gates .a).ps.slot .b = p.ps.slotB := by rw [Part.recheckSlot_ps]; rfl
  rw [slot] at second
  exact Part.handed_trans first second (by simp [Part.recheckBoth, Part.indexCount])

/-! ## The blocks (R182) -/

theorem Part.configurePass_lsq (p : Part) (b : List Byte) :
    (p.configurePass b).lsq =
      { p.lsq with
        engine := .idle
        presets := some { run := Block.preset b 0, hold := Block.preset b 1, halt := Block.preset b 2 } } := by
  simp [Part.configurePass, Part.enterEngine_lsq, Part.configureBlocks, Lsq.latchOn]

theorem Part.configurePass_eq (p : Part) (b : List Byte) :
    (p.configurePass b).ps = ((p.configureBlocks b).recheckBoth (Block.gateCount b)).ps ∧
      (p.configurePass b).jw = ((p.configureBlocks b).recheckBoth (Block.gateCount b)).jw ∧
      (p.configurePass b).sa = (p.configureBlocks b).sa ∧ (p.configurePass b).dt = (p.configureBlocks b).dt ∧
      (p.configurePass b).lcu = (p.configureBlocks b).lcu ∧ (p.configurePass b).mc = (p.configureBlocks b).mc ∧
      (p.configurePass b).rsc = (p.configureBlocks b).rsc ∧ (p.configurePass b).gbt = (p.configureBlocks b).gbt ∧
      (p.configurePass b).rqx = (p.configureBlocks b).rqx ∧ (p.configurePass b).attn = p.attn ∧
      (p.configurePass b).draws = p.draws ∧ (p.configurePass b).lct.lines = (p.configureBlocks b).lct.lines ∧
      (p.configurePass b).lct.chain = (p.configureBlocks b).lct.chain := by
  refine ⟨?_, ?_, ?_, ?_, ?_, ?_, ?_, ?_, ?_, ?_, ?_, ?_, ?_⟩ <;>
    simp [Part.configurePass, Part.recheckBoth, Part.configureBlocks]

/-- The area of the journal, before the re-checks. -/
theorem Part.configureBlocks_jw (p : Part) (b : List Byte) :
    (p.configureBlocks b).jw =
      if p.jw.sameArea (Block.journalArea b) then
        { p.jw with area := some (Block.journalArea b), waiting := p.jw.waiting.map HandOff.orphan }
      else { Jw.reset with area := some (Block.journalArea b) } := by
  simp only [Part.configureBlocks, Part.configureJournal]
  split <;> simp

theorem Part.configureBlocks_sa (p : Part) (b : List Byte) :
    (p.configureBlocks b).sa =
      if p.jw.sameArea (Block.journalArea b) then p.sa
      else { p.sa with journal := writeRequests (cellsAt 0x000400 (List.replicate 12 0)) .plain } := by
  simp only [Part.configureBlocks, Part.configureJournal]
  split <;> simp [journalHeader]

theorem Part.configurePass_timers (p : Part) (b : List Byte) (engine : p.lsq.engine.inLot = false) :
    (p.configurePass b).lct.timers =
      if p.jw.sameArea (Block.journalArea b) then p.lct.timers.afterConfigure
      else { p.lct.timers.afterConfigure with age := .stopped } := by
  have notRun : p.lsq.engine ≠ .run := by
    rintro run
    simp [run, EngineState.inLot] at engine
  simp only [Part.configurePass, Part.enterEngine_timers, Part.starvationOn, Part.recheckSlot_keeps]
  simp only [Part.configureBlocks, Part.configureJournal]
  split <;> simp [notRun, Timers.afterConfigure]

theorem Block.role_of_ok {b : List Byte} (roles : rolesOk b = true) (m : Meter) :
    roleOfCode (Block.roleCode b m) = .unused ↔ Block.used b m = false := by
  obtain ⟨most, -⟩ := (rolesOk_iff b).mp roles
  have le := most m
  have cases : Block.roleCode b m = 0 ∨ Block.roleCode b m = 1 ∨ Block.roleCode b m = 2 ∨ Block.roleCode b m = 3 := by
    omega
  rcases cases with h | h | h | h <;> simp [Block.used, h, roleOfCode]

theorem rolesOk_of_passes {b : List Byte} (passes : configFailure b = none) : rolesOk b = true := by
  have ok := (configFailure_spec b).1.mp passes
  have at_one : ConfigPassesAt b 1 := fun c h => ok c (List.mem_of_getElem? h)
  exact (configPassesAt_iff (ok := rolesOk b) rfl).mp at_one

/-- The tables and inputs of the blocks, from those before (the journal apart). -/
theorem Part.configureBlocks_kept (p : Part) (b : List Byte) :
    (p.configureBlocks b).lct.lines = p.lct.lines.configured b ∧
      (p.configureBlocks b).lct.chain =
        { p.lct.chain with scanCount := Block.scanCount b, runs := List.replicate 64 0 } ∧
      (p.configureBlocks b).lcu.clearJet = p.lcu.clearJet.orphan ∧
      (p.configureBlocks b).mc.channels =
        Four.zipWith (fun c s => c.configured s.role) p.mc.channels (Block.stations b) ∧
      (p.configureBlocks b).gbt.bins = (List.range 32).map (BinEntry.configured b p.lct.chain.stable) ∧
      (p.configureBlocks b).gbt.pulses = p.gbt.pulses.map Pulse.orphan ∧
      (p.configureBlocks b).rqx =
        { p.rqx with
          base := some (Block.requestBase b)
          posts := if p.rqx.base = some (Block.requestBase b) then p.rqx.posts else [] } := by
  simp [Part.configureBlocks, Block.geometry]

theorem Block.stations_get (b : List Byte) (m : Meter) :
    (Block.stations b).get m =
      { role := roleOfCode (Block.roleCode b m), position := if Block.used b m then Block.position b m else 0 } := by
  match m with
  | 0 | 1 | 2 | 3 => rfl

theorem Part.configureBlocks_meter (p : Part) (b : List Byte) (m : Meter) :
    (p.configureBlocks b).rsc.get m =
      if Block.used b m then RefMeter.configuredUsed (Block.thresholds b m) else RefMeter.configuredUnused := by
  match m with
  | 0 | 1 | 2 | 3 => rfl

/-- The bins after a CONFIGURE that passes, by number (R112). -/
theorem Part.bin_configured {p q : Part} {b : List Byte}
    (h : q.gbt.bins = (List.range 32).map (BinEntry.configured b p.lct.chain.stable)) (n : Nat) :
    q.bin n = if n < 32 then BinEntry.configured b p.lct.chain.stable n else BinEntry.reset := by
  rw [Part.bin, h]
  split
  · next small => simp [small]
  · next large => simp [large]

/-- Every bin item is requested by a CONFIGURE that passes (R193). -/
theorem Part.configurePass_status (p : Part) (b : List Byte) (n : Fin 32) :
    ∃ r ∈ (Part.commit p (p.configurePass b)).sa.status, r.item = .bin n := by
  refine Part.commit_status_has (List.mem_append_left _ ?_)
  simp only [Part.configurePass, List.drop_left']
  simp [StatusItem.mem_all, StatusItem.isBin]

/-- The bodies of the re-checks, each the drop of a plan. -/
theorem PlanSlot.dropBodies_form {x : PlanSlot} {gates : Nat} {s : SlotId} {body : RecordBody}
    (h : body ∈ x.dropBodies gates s) : ∃ y i l, body = .event (.planDropped y i l) := by
  unfold PlanSlot.dropBodies at h
  split at h
  · cases h
  · next pl l _ => exact ⟨s, pl.id, l, List.mem_singleton.mp h⟩

/-- What the re-check of a slot comes to, by its plan. -/
theorem PlanSlot.rechecked_spec (x : PlanSlot) (gates : Nat) (s : SlotId) :
    (x.state ≠ .staged ∨ x.plan = none → x.rechecked gates = x) ∧
      ∀ pl, x.state = .staged → x.plan = some pl →
        (pl.specialsBelow gates ∧ (∀ r ∈ pl.rows, r.target < gates ∧ ∀ n ∈ r.alternates, n < gates) →
          x.rechecked gates = x) ∧
        (¬ pl.specialsBelow gates →
          x.rechecked gates = { x with state := .empty, plan := none } ∧
            .event (.planDropped s pl.id 255) ∈ x.dropBodies gates s) ∧
        (pl.specialsBelow gates → ∀ i r, pl.rows[i]? = some r → ¬ (r.target < gates ∧ ∀ n ∈ r.alternates, n < gates) →
          (∀ j y, j < i → pl.rows[j]? = some y → y.target < gates ∧ ∀ n ∈ y.alternates, n < gates) →
          x.rechecked gates = { x with state := .empty, plan := none } ∧
            .event (.planDropped s pl.id i) ∈ x.dropBodies gates s) := by
  refine ⟨fun h => ?none, fun pl state plan => ?some⟩
  case none =>
    obtain ⟨state, plan, refs⟩ := x
    have none : PlanSlot.failure ⟨state, plan, refs⟩ gates = none := by
      cases state with
      | staged =>
        obtain rfl : plan = none := h.resolve_left (· rfl)
        rfl
      | empty => rfl
      | loading => rfl
    rw [PlanSlot.rechecked, none]
  case some =>
    have failure : x.failure gates = (pl.binFailure gates).map (fun l => (pl, l)) := by
      simp only [PlanSlot.failure, state, plan]
    refine ⟨fun ⟨special, rows⟩ => ?fits, fun bad => ?header, fun special i r row bad first => ?row⟩
    case fits => rw [PlanSlot.rechecked, failure, Plan.binFailure_none special rows]; rfl
    case header =>
      rw [PlanSlot.rechecked, PlanSlot.dropBodies, failure, Plan.binFailure_header bad]
      exact ⟨rfl, List.mem_singleton.mpr rfl⟩
    case row =>
      rw [PlanSlot.rechecked, PlanSlot.dropBodies, failure, Plan.binFailure_row special row bad first]
      exact ⟨rfl, List.mem_singleton.mpr rfl⟩

/-- The slot that a CONFIGURE that passes leaves, before its re-check. -/
def Part.unreferenced (p : Part) (x : SlotId) : PlanSlot := { p.ps.slot x with refs := 0 }

theorem Part.configurePass_slot (p : Part) (b : List Byte) (x : SlotId) :
    (p.configurePass b).ps.slot x = (p.unreferenced x).rechecked (Block.gateCount b) ∧
      (p.configurePass b).ps.loadSlot = p.ps.loadSlot ∧ (p.configurePass b).ps.pendingSwitch = p.ps.pendingSwitch ∧
      (p.configurePass b).ps.staging = p.ps.staging := by
  rw [(p.configurePass_eq b).1, Part.recheckBoth_ps]
  cases x <;> simp [Ps.slot, Part.configureBlocks, Part.unreferenced]

/-- The records that the JW holds after a CONFIGURE that passes. -/
theorem Part.configurePass_records (p : Part) (b : List Byte) :
    (p.configurePass b).jw.records =
        (p.configureBlocks b).jw.records ++
          ((p.unreferenced .a).dropBodies (Block.gateCount b) .a ++
            (p.unreferenced .b).dropBodies (Block.gateCount b) .b).map (fun body => { body, indexCount := 0 }) ∧
      (p.configurePass b).jw.area = (p.configureBlocks b).jw.area ∧
      (p.configurePass b).jw.fill = (p.configureBlocks b).jw.fill ∧
      (p.configurePass b).jw.reclaim = (p.configureBlocks b).jw.reclaim ∧
      (p.configurePass b).jw.wrap = (p.configureBlocks b).jw.wrap ∧
      (p.configurePass b).jw.writer = (p.configureBlocks b).jw.writer ∧
      (p.configurePass b).jw.level = (p.configureBlocks b).jw.level := by
  obtain ⟨same, records⟩ := (p.configureBlocks b).handed_recheckBoth (Block.gateCount b)
  have area : (p.configureBlocks b).jw.area.isSome = true := by rw [Part.configureBlocks_jw]; split <;> rfl
  have index : ((p.configureBlocks b).recheckBoth (Block.gateCount b)).indexCount = 0 := by
    simp [Part.indexCount, Part.recheckBoth, Part.configureBlocks, Dt.reset]
  rw [if_pos area, index] at records
  rw [(p.configurePass_eq b).2.1]
  refine ⟨records.trans ?_, by rw [← same], by rw [← same], by rw [← same], by rw [← same], by rw [← same],
    by rw [← same]⟩
  simp [Part.configureBlocks, Part.unreferenced, Ps.slot]

/-- A drop that the re-check of a slot hands on is among the JW's records. -/
theorem Part.configurePass_dropped {p : Part} {b : List Byte} {x : SlotId} {body : RecordBody}
    (h : body ∈ (p.unreferenced x).dropBodies (Block.gateCount b) x) : (p.configurePass b).records body := by
  intro _
  rw [(p.configurePass_records b).1]
  refine ⟨{ body, indexCount := 0 }, List.mem_append_right _ (List.mem_map.mpr ⟨body, ?_, rfl⟩), rfl⟩
  cases x
  · exact List.mem_append_left _ h
  · exact List.mem_append_right _ h

theorem Part.configurePass_droppedForm {p : Part} {b : List Byte} {r : JournalRecord}
    (h : r ∈ ((p.unreferenced .a).dropBodies (Block.gateCount b) .a ++
      (p.unreferenced .b).dropBodies (Block.gateCount b) .b).map (fun body => { body, indexCount := 0 })) :
    ∃ x i l, r = { body := .event (.planDropped x i l), indexCount := 0 } := by
  obtain ⟨body, hbody, rfl⟩ := List.mem_map.mp h
  rcases List.mem_append.mp hbody with first | second
  · obtain ⟨y, i, l, rfl⟩ := PlanSlot.dropBodies_form first
    exact ⟨y, i, l, rfl⟩
  · obtain ⟨y, i, l, rfl⟩ := PlanSlot.dropBodies_form second
    exact ⟨y, i, l, rfl⟩

theorem Jw.sameArea_iff (j : Jw) (a : JournalArea) :
    j.sameArea a = true ↔ ∃ x, j.area = some x ∧ x.base = a.base ∧ x.size = a.size := by
  unfold Jw.sameArea
  cases j.area <;> simp

theorem Part.records_commit {q : Part} {body : RecordBody} (b : Part) (h : q.records body) :
    (Part.commit b q).records body := by
  simpa [Part.records] using h

/-- Settles O33. -/
theorem configureThatPasses : Obligations.ConfigureThatPasses := by
  intro s b work whole free engine passes gates area sameArea special rowOk posts
  obtain ⟨q, hq⟩ : ∃ q, q = s.part.configurePass b := ⟨_, rfl⟩
  have roles := rolesOk_of_passes passes
  obtain ⟨ps, jw, sa, dt, lcu, mc, rsc, gbt, rqx, attn, draws, lines, chain⟩ := s.part.configurePass_eq b
  have lsq := s.part.configurePass_lsq b
  have timers := s.part.configurePass_timers b engine
  rw [← hq] at ps jw sa dt lcu mc rsc gbt rqx attn draws lines chain lsq timers
  obtain ⟨brecords, barea, bfill, breclaim, bwrap, bwriter, blevel⟩ := s.part.configurePass_records b
  have brsc := s.part.configureBlocks_meter b
  have low : q.dt.permit = false := by rw [dt]; rfl
  have stays : q.fetchPost.settlePermit = q.fetchPost := by
    refine Part.settlePermit_of_idle ?_ (by simpa using low)
    simp [lsq, EngineState.working]
  obtain ⟨blines, bchain, bjet, bchannels, bbins, bpulses, brqx⟩ := s.part.configureBlocks_kept b
  obtain ⟨t, run, outside, part⟩ : ∃ t, exec .configureReadDone s = .next t ∧ State.sameOutside s t ∧
      t.part = Part.commit s.part q :=
    ⟨_, exec_configureReadDone_of_read work whole free, ⟨rfl, rfl, rfl⟩, by
      rw [Part.configureRead_of_passes engine passes, hq]⟩
  have tdt : t.part.dt = (s.part.configureBlocks b).dt := by rw [part, Part.commit_dt, stays]; simpa using dt
  have tlct : t.part.lct = q.lct := by rw [part, Part.commit_lct, stays]; simp
  obtain ⟨tlcu, tmc, trsc, tps, tgbt, tlsq, tjw, tattn, tcfg, tdraws, tchanged⟩ := Part.commit_blocks s.part q
  have trqx := Part.commit_rqx s.part q
  have follows := Part.commit_follows s.part q
  rw [← part] at tlcu tmc trsc tps tgbt tlsq tjw tattn tcfg tdraws tchanged trqx follows
  have slot : ∀ x, t.part.ps.slot x = (s.part.unreferenced x).rechecked (Block.gateCount b) := fun x => by
    rw [tps, hq]
    exact (s.part.configurePass_slot b x).1
  have loads := s.part.configurePass_slot b .a
  rw [← hq, ← tps] at loads
  obtain ⟨-, loadSlot, pendingSwitch, staging⟩ := loads
  have dropped : ∀ x body, body ∈ (s.part.unreferenced x).dropBodies (Block.gateCount b) x → t.part.records body := by
    intro x body h
    rw [part, hq]
    exact Part.records_commit _ (Part.configurePass_dropped h)
  refine ⟨t, run, outside, ?cfg, ?lsq, by rw [tdt]; rfl, by rw [tdt]; rfl, by rw [tdt]; rfl, by rw [tdt]; rfl,
    by rw [tdt]; rfl, by rw [tdt]; rfl, by rw [tdt]; rfl, by rw [tlcu, lcu]; rfl, by rw [tlcu, lcu]; rfl,
    by rw [tlcu, lcu]; rfl, by rw [tlcu, lcu]; rfl, by rw [tlcu, lcu]; rfl, fun m => ?pendingSet,
    by rw [tlcu, lcu]; rfl, ?jet, by rw [tmc, mc]; rfl, fun m => ?channel, fun m used => ?used, fun m unused => ?unused,
    fun n inside small => ?bin, fun n outside => ?beyond, by rw [tgbt, gbt]; rfl, fun n => ?pulse, fun x => ?refs,
    loadSlot, pendingSwitch, staging, fun x h => ?kept, fun x pl state plan => ?rechecked, ?base, ?current, ?parked,
    fun held => ?held, fun i after current reading h => ?taken, fun l => ?line, ?chain, fun n => ?status, ?queues,
    ?regions, ?area, fun same => ?same, fun other => ?other⟩
  case cfg => rw [tcfg, hq]; rfl
  case lsq => rw [tlsq, lsq]; rfl
  case pendingSet =>
    have role := Block.role_of_ok roles m
    have get : t.part.lcu.pendingSet.get m = (Block.roleOfCode (Block.roleCode b m) != .unused) := by
      rw [tlcu, lcu]
      match m with
      | 0 | 1 | 2 | 3 => rfl
    rw [get]
    cases used : Block.used b m <;> simp [role, used]
  case jet => rw [tlcu, lcu, bjet, CatchPulse.orphan_idle]
  case channel =>
    have role := Block.role_of_ok roles m
    have state : (if Block.roleOfCode (Block.roleCode b m) = .unused then ChannelState.unused else .offline) =
        if Block.used b m then .offline else .unused := by
      cases used : Block.used b m <;> simp [role, used]
    rw [Part.channel, tmc, mc, bchannels, Four.get_zipWith, Block.stations_get, Channel.configured, state]
    rfl
  case used =>
    rw [trsc, rsc, brsc, used]
    rfl
  case unused =>
    rw [trsc, rsc, brsc, unused]
    rfl
  case bin =>
    rw [Part.bin_configured (p := s.part) (by rw [tgbt, gbt, bbins]), if_pos small]
    exact if_pos inside
  case beyond =>
    rw [Part.bin_configured (p := s.part) (by rw [tgbt, gbt, bbins])]
    split
    · exact if_neg (by omega)
    · rfl
  case pulse => exact Part.pulse_orphans (by rw [tgbt, gbt, bpulses]) n
  case refs =>
    rw [slot, PlanSlot.rechecked]
    split <;> rfl
  case kept => exact (slot x).trans (((s.part.unreferenced x).rechecked_spec _ x).1 h)
  case rechecked =>
    obtain ⟨fits, header, row⟩ := ((s.part.unreferenced x).rechecked_spec (Block.gateCount b) x).2 pl state plan
    refine ⟨fun ok => (slot x).trans (fits ok), fun bad => ?_, fun ok i r at_ wrong first => ?_⟩
    · obtain ⟨value, mem⟩ := header bad
      exact ⟨(slot x).trans value, dropped x _ mem⟩
    · obtain ⟨value, mem⟩ := row ok i r at_ wrong first
      exact ⟨(slot x).trans value, dropped x _ mem⟩
  case base => rw [part, (Part.commit_fields _ _).2.2.2.2.2.2.2.1, rqx, brqx]; rfl
  case current => rw [part, (Part.commit_fields _ _).2.2.2.2.2.2.1, rqx, brqx]
  case parked => rw [part, (Part.commit_fields _ _).2.2.2.2.2.2.2.2.1, rqx, brqx]
  case held =>
    have still : q.fetchPost = q := Part.fetchPost_of_held (by rw [rqx, brqx]; tauto)
    rw [trqx, still, rqx, brqx]
    exact ⟨rfl, rfl⟩
  case taken =>
    have taken := Part.fetchPost_of_free (p := q) (base := Block.requestBase b) (i := i) (rest := after)
      (by rw [rqx, brqx]; exact current) (by rw [rqx, brqx]; exact reading) (by rw [rqx, brqx])
      (by rw [rqx, brqx]; exact h) (by rw [hq]; rfl)
    rw [trqx, taken]
    exact ⟨rfl, rfl⟩
  case line =>
    rw [tlct, lines]
    rw [blines]
    cases l <;> rfl
  case chain => rw [tlct, chain, bchain]; rfl
  case status => rw [part, hq]; exact s.part.configurePass_status b n
  case queues =>
    have journal : t.part.sa.journal = q.sa.journal := follows.1
    have eq : q.sa = { s.part.sa with journal := t.part.sa.journal } := by
      rw [journal, sa, Part.configureBlocks_sa]
      split <;> rfl
    rw [← eq]
    exact follows
  case regions =>
    intro r hr
    rcases List.mem_cons.mp hr with rfl | hr
    · exact tattn.trans attn
    · obtain rfl := List.mem_singleton.mp hr
      exact ⟨tchanged, tdraws.trans draws⟩
  case area =>
    rw [tjw, hq, barea, Part.configureBlocks_jw]
    split <;> rfl
  case same =>
    have held : s.part.jw.sameArea (Block.journalArea b) = true := (Jw.sameArea_iff _ _).mpr same
    have bjw := s.part.configureBlocks_jw b
    have bsa := s.part.configureBlocks_sa b
    rw [if_pos held] at bjw bsa
    refine ⟨by rw [tjw, hq, bfill, bjw], by rw [tjw, hq, breclaim, bjw], by rw [tjw, hq, bwrap, bjw],
      by rw [tjw, hq, bwriter, bjw], by rw [tjw, hq, blevel, bjw], ⟨_, ?records, fun r hr => Part.configurePass_droppedForm (p := s.part) (b := b) hr⟩,
      by rw [follows.1, sa, bsa], ?timers⟩
    case records =>
      rw [tjw, hq, brecords, bjw]
      simp [Jw.records, Function.comp_def, HandOff.record_orphan]
    case timers => rw [tlct, timers, if_pos held]; rfl
  case other =>
    have fresh : ¬ s.part.jw.sameArea (Block.journalArea b) = true := mt (Jw.sameArea_iff _ _).mp other
    have bjw := s.part.configureBlocks_jw b
    have bsa := s.part.configureBlocks_sa b
    rw [if_neg fresh] at bjw bsa
    refine ⟨by rw [tjw, hq, bfill, bjw]; rfl, by rw [tjw, hq, breclaim, bjw]; rfl, by rw [tjw, hq, bwrap, bjw]; rfl,
      by rw [tjw, hq, bwriter, bjw]; rfl, by rw [tjw, hq, blevel, bjw]; rfl, fun r hr => ?records,
      by rw [follows.1, sa, bsa], ?timers⟩
    case records =>
      rw [tjw, hq, brecords, bjw] at hr
      exact Part.configurePass_droppedForm (by simpa [Jw.records, Jw.reset] using hr)
    case timers => rw [tlct, timers, if_neg fresh]; rfl

end Sys2Proof.Machine
end

section
/-! END LOT and CLEAR HALT (R137, R147), and the pockets that an abort or a purge routes to CATCH (R8). -/

namespace Sys2Proof.Machine

/-! ## Pockets routed to CATCH (R8) -/

theorem Part.pockets_eq_map (p : Part) : p.dt.pockets = (List.range p.dt.pockets.length).map p.pocket := by
  refine List.ext_getElem (by simp) fun i h _ => ?_
  simp [Part.pocket, List.getD_eq_getElem?_getD, List.getElem?_eq_getElem h]

/-- The pockets of a kind, counted by number. -/
theorem Part.filter_pockets (p : Part) (f : Pocket → Bool) :
    ((List.range p.dt.pockets.length).filter (fun k => f (p.pocket k))).length = (p.dt.pockets.filter f).length := by
  conv_rhs => rw [p.pockets_eq_map, List.filter_map, List.length_map]
  rfl

theorem catchPocket_dt (r : Reason) (a : Part × Nat) (k : Nat) :
    { (catchPocket r a k).1.dt with pockets := [] } = { a.1.dt with pockets := [] } := by
  unfold catchPocket
  split
  · rfl
  · split <;> rfl
  all_goals rfl

/-- Every CARRY pocket and every pocket ROUTED to a gate is routed to CATCH, and counted. -/
theorem Part.catchAll_spec (p : Part) (r : Reason) :
    (p.catchAll r).1.dt = { p.dt with pockets := p.dt.pockets.map (fun k => k.toCatch r) } ∧
      Part.releases p (p.catchAll r).1 p.dt.pockets ∧ (p.catchAll r).2 = (p.dt.pockets.filter Pocket.catchable).length := by
  obtain ⟨pockets, bins, count, pulses, items⟩ :=
    catchFold_spec r (List.range p.dt.pockets.length) List.nodup_range (p, 0)
  have length : (p.catchAll r).1.dt.pockets.length = p.dt.pockets.length := by simp
  have others : { (p.catchAll r).1.dt with pockets := [] } = { p.dt with pockets := [] } :=
    catchFold_same (fun q => { q.dt with pockets := [] }) r (catchPocket_dt r) _ _
  have routed : (p.catchAll r).1.dt.pockets = p.dt.pockets.map (fun k => k.toCatch r) := by
    rw [(p.catchAll r).1.pockets_eq_map, length]
    conv_rhs => rw [p.pockets_eq_map, List.map_map]
    refine List.map_congr_left fun k hk => ?_
    exact (pockets k).trans (if_pos hk)
  refine ⟨?dt, ⟨pulses, items, fun n => ?bin⟩, ?count⟩
  case dt =>
    rw [← routed]
    exact congrArg (fun d : Dt => { d with pockets := (p.catchAll r).1.dt.pockets }) others
  case bin => rw [← p.filter_pockets]; exact bins n
  case count => rw [← p.filter_pockets]; exact count.trans (Nat.zero_add _)

theorem Part.releases_nil (p : Part) : Part.releases p p [] := ⟨rfl, rfl, fun _ => rfl⟩

/-! ## END LOT (R137) -/

theorem Part.drain_lsq (p : Part) :
    p.drain.lsq =
      { p.lsq with
        lotMode := .drain
        engine := if p.lsq.engine = .run then .drain else p.lsq.engine
        portLatch := if p.lsq.engine = .run then p.lsq.latchOn .drain else p.lsq.portLatch } := by
  unfold Part.drain
  split
  · simp [Part.enterEngine_lsq, Lsq.latchOn]
  · simp

theorem Part.drain_timers (p : Part) :
    p.drain.lct.timers =
      { p.lct.timers with starvation := if p.lsq.engine = .run then .stopped else p.lct.timers.starvation } := by
  unfold Part.drain
  split
  · next run => simp [Part.enterEngine_timers, Part.starvationOn, run]
  · rfl

theorem exec_endLot {s : State} (h : s.part.executes 2) :
    exec .endLot s = .next { s with part := Part.commit s.part s.part.endLot } :=
  State.onRequest_of_executes Part.endLot h

/-- END LOT that is taken. -/
def Part.parkEndLot (p : Part) : Part :=
  (p.setLsq { p.lsq with parked := some { kind := .endLot, routed := 0 } }).parkCurrent.drain

theorem Part.endLot_taken {p : Part} (h : p.lsq.engine = .run ∨ p.lsq.engine = .drain ∨ p.lsq.engine = .hold)
    (free : p.lsq.parked = none) : p.endLot = p.parkEndLot := by
  rcases h with e | e | e <;> simp [Part.endLot, e, free, Part.parkEndLot]

theorem Part.endLot_busy {p : Part} (h : p.lsq.engine = .run ∨ p.lsq.engine = .drain ∨ p.lsq.engine = .hold)
    (parked : p.lsq.parked ≠ none) : p.endLot = p.endRequest { code := .busy } := by
  have some := Option.isSome_iff_ne_none.mpr parked
  rcases h with e | e | e <;> simp [Part.endLot, e, some]

theorem Part.endLot_refused {p : Part} (h : ¬ (p.lsq.engine = .run ∨ p.lsq.engine = .drain ∨ p.lsq.engine = .hold)) :
    p.endLot = p.endRequest { code := .refusedState } := by
  push Not at h
  exact if_pos h

theorem Part.parkCurrent_rqx (p : Part) :
    p.parkCurrent.rqx.base = p.rqx.base ∧
      (∀ c, p.rqx.current = some c → p.parkCurrent.rqx.current = none ∧
        p.parkCurrent.rqx.parkedRef = some { address := c.address, notify := c.notify }) := by
  unfold Part.parkCurrent
  cases current : p.rqx.current with
  | none => exact ⟨rfl, fun c h => by cases h⟩
  | some c => exact ⟨rfl, fun d h => by rw [Option.some.inj h]; exact ⟨rfl, rfl⟩⟩

/-- Settles O38. -/
theorem endLotParksAndDrains : Obligations.EndLotParksAndDrains := by
  intro s hx e taken
  refine ⟨_, exec_endLot hx, ⟨rfl, rfl, rfl⟩, fun refused => ?_, fun h parked => ?_, fun h free => ?_⟩
  · rw [Part.endLot_refused refused]
    exact Part.endedAlone_commit s.part _
  · rw [Part.endLot_busy h parked]
    exact Part.endedAlone_commit s.part _
  · rw [Part.endLot_taken h free]
    obtain ⟨c, current, -⟩ := hx
    obtain ⟨base, parked⟩ :=
      (s.part.setLsq { s.part.lsq with parked := some { kind := .endLot, routed := 0 } }).parkCurrent_rqx
    obtain ⟨freed, ref⟩ := parked c current
    refine ⟨Part.keepsBut_commit fun r hr => ?kept, ?base, ?current, ?ref, ?lsq, ?timers⟩
    case kept =>
      cases r
      case queues =>
        have sa : s.part.parkEndLot.sa = s.part.sa := by simp [Part.parkEndLot]
        simp only [Region.same, sa]
        exact Sa.follows_refl _
      all_goals simp_all [Region.same, Part.parkEndLot]
    case base => simpa [Part.parkEndLot] using base
    case current => simpa [Part.parkEndLot] using freed
    case ref => simpa [Part.parkEndLot, current] using ref
    case lsq =>
      simp only [Part.commit_blocks, Part.parkEndLot, Part.drain_lsq, Part.parkCurrent_keeps, Part.setLsq_lsq]
      rfl
    case timers =>
      rw [Part.commit_timers_eq]
      simp only [Part.parkEndLot, Part.drain_timers, Part.parkCurrent_keeps, Part.setLsq_lsq, Part.setLsq_lct]
      rfl

/-! ## CLEAR HALT (R147) -/

theorem exec_clearHalt {s : State} (h : s.part.executes 9) :
    exec .clearHalt s = .next { s with part := Part.commit s.part s.part.clearHalt } :=
  State.onRequest_of_executes Part.clearHalt h

/-- The pockets that CLEAR HALT purges, by the purge flag, and their number. -/
def Part.purged (p : Part) (purge : Bool) : Part × Nat := if purge then p.catchAll .purged else (p, 0)

/-- The halt is cleared, the pockets having been purged, before the request ends. -/
def Part.haltCleared (p : Part) (purge : Bool) : Part :=
  let q := (((p.purged purge).1.setLsq { p.lsq with haltCause := .none }).addHoldCause .requested).enterEngine .hold
  q.event (.haltCleared purge (p.purged purge).2 p.dt.offset)

theorem Part.purged_spec (p : Part) (purge : Bool) :
    (p.purged purge).1.dt =
        { p.dt with
          pockets := if purge then p.dt.pockets.map (fun k => k.toCatch .purged) else p.dt.pockets } ∧
      Part.releases p (p.purged purge).1 (if purge then p.dt.pockets else []) ∧
      (p.purged purge).2 = if purge then (p.dt.pockets.filter Pocket.catchable).length else 0 := by
  unfold Part.purged
  cases purge
  · exact ⟨rfl, p.releases_nil, rfl⟩
  · exact p.catchAll_spec .purged

@[simp] theorem Part.purged_keeps (p : Part) (purge : Bool) :
    (p.purged purge).1.lcu = p.lcu ∧ (p.purged purge).1.mc = p.mc ∧ (p.purged purge).1.rsc = p.rsc ∧
      (p.purged purge).1.ps = p.ps ∧ (p.purged purge).1.lsq = p.lsq ∧ (p.purged purge).1.rqx = p.rqx ∧
      (p.purged purge).1.jw = p.jw ∧ (p.purged purge).1.sa = p.sa ∧ (p.purged purge).1.attn = p.attn ∧
      (p.purged purge).1.cfg = p.cfg ∧ (p.purged purge).1.lct = p.lct ∧ (p.purged purge).1.draws = p.draws ∧
      (p.purged purge).1.dt.offset = p.dt.offset := by
  unfold Part.purged
  cases purge <;> simp

theorem Part.clearHalt_of_halt {p : Part} (h : p.lsq.engine = .halt) :
    p.clearHalt =
      (p.haltCleared (p.arg 4 1 % 2 == 1)).endRequest { code := .ok, word := (p.purged (p.arg 4 1 % 2 == 1)).2 } := by
  have offset := (p.purged_keeps (p.arg 4 1 % 2 == 1)).2.2.2.2.2.2.2.2.2.2.2.2
  have lsq := (p.purged_keeps (p.arg 4 1 % 2 == 1)).2.2.2.2.1
  simp only [Part.clearHalt, h, ne_eq, not_true_eq_false, if_false, Part.haltCleared, Part.enterEngine_keeps,
    Part.addHoldCause_keeps, Part.setLsq_dt]
  rw [show (if (p.arg 4 1 % 2 == 1) = true then p.catchAll .purged else (p, 0)) = p.purged (p.arg 4 1 % 2 == 1) from rfl,
    lsq, offset, h]

theorem Part.haltCleared_lsq (p : Part) (purge : Bool) :
    (p.haltCleared purge).lsq =
      { p.lsq with
        haltCause := .none
        holds := { p.lsq.holds with requested := true }
        engine := .hold
        portLatch := p.lsq.latchOn .hold } := by
  simp [Part.haltCleared, Part.enterEngine_lsq, Part.addHoldCause_lots, HoldCauses.insert, Lsq.latchOn]

theorem Part.haltCleared_timers {p : Part} (h : p.lsq.engine = .halt) (purge : Bool) :
    (p.haltCleared purge).lct.timers = p.lct.timers := by
  simp [Part.haltCleared, Part.enterEngine_timers, Part.starvationOn_hold, Part.addHoldCause_lots, h]

theorem Part.handed_haltCleared {p : Part} (h : p.lsq.engine = .halt) (purge : Bool) :
    Part.handed p (p.haltCleared purge)
      ((if p.lsq.holds.requested then [] else [.event (.holdCause .requested .halt p.dt.offset)]) ++
        [.event (.haltCleared purge (p.purged purge).2 p.dt.offset)]) := by
  have joined := ((p.purged purge).1.setLsq { p.lsq with haltCause := .none }).handed_addHoldCause .requested
  have start : Part.handed p (((p.purged purge).1.setLsq { p.lsq with haltCause := .none }).addHoldCause .requested)
      (if p.lsq.holds.requested then [] else [.event (.holdCause .requested .halt p.dt.offset)]) := by
    have moved := Part.handed_of_left (p := p) (by simp) joined
    simpa [HoldCauses.has, h] using moved
  refine Part.handed_trans start (Part.handed_of_left (by simp) (Part.handed_event _ _)) ?_
  simp [Part.indexCount, Part.haltCleared]

theorem Part.haltCleared_dt (p : Part) (purge : Bool) : (p.haltCleared purge).dt = (p.purged purge).1.dt := by
  simp [Part.haltCleared]

theorem Part.haltCleared_gbt (p : Part) (purge : Bool) : (p.haltCleared purge).gbt = (p.purged purge).1.gbt := by
  simp [Part.haltCleared]

theorem Part.releases_congr {p q t : Part} {ks : List Pocket} (h : Part.releases p q ks) (gbt : t.gbt = q.gbt) :
    Part.releases p t ks := by
  obtain ⟨pulses, items, bins⟩ := h
  exact ⟨by rw [gbt, pulses], by rw [gbt, items], fun n => by rw [← bins n, Part.bin, Part.bin, gbt]⟩

/-- What follows a command leaves of the dial. -/
theorem Part.commit_dial (b p : Part) :
    { (Part.commit b p).dt with permit := p.dt.permit, indexExpected := p.dt.indexExpected } = p.dt :=
  Part.commit_keeps b p [.dial] .dial (by simp)

/-- The dial whose pockets alone changed, before what follows the command. -/
theorem Dt.same_of_pockets {x y z : Dt} (h : { x with permit := y.permit, indexExpected := y.indexExpected } = y)
    (k : { y with pockets := z.pockets } = z) :
    { x with pockets := z.pockets, permit := z.permit, indexExpected := z.indexExpected } = z := by
  have permit : y.permit = z.permit := by rw [← k]
  have expected : y.indexExpected = z.indexExpected := by rw [← k]
  rw [← permit, ← expected]
  exact (congrArg (fun d : Dt => { d with pockets := z.pockets }) h).trans k

/-- Settles O43. -/
theorem clearHaltEntersHold : Obligations.ClearHaltEntersHold := by
  intro s hx purge count
  refine ⟨_, exec_clearHalt hx, ⟨rfl, rfl, rfl⟩, fun other => ?_, fun halt => ?_⟩
  · rw [Part.clearHalt, if_pos other]
    exact Part.endedAlone_commit s.part _
  · obtain ⟨dt, releases, number⟩ := s.part.purged_spec purge
    obtain ⟨q, hq⟩ : ∃ q, q = s.part.haltCleared purge := ⟨_, rfl⟩
    have cleared : s.part.clearHalt = q.endRequest { code := .ok, word := count } := by
      rw [Part.clearHalt_of_halt halt, hq, show count = (s.part.purged purge).2 from number.symm]
    rw [cleared]
    have qdt : q.dt = _ := (hq ▸ s.part.haltCleared_dt purge : q.dt = _).trans dt
    have rqx : q.rqx = s.part.rqx := by simp [hq, Part.haltCleared]
    have sa : q.sa = s.part.sa := by simp [hq, Part.haltCleared]
    have lct : q.lct.timers = s.part.lct.timers := hq ▸ s.part.haltCleared_timers halt purge
    refine ⟨Part.ended_endRequest s.part _ rqx sa, Part.keepsBut_commit fun r hr => ?kept, ?dial, ?pockets,
      Part.releases_congr releases (by simp [hq, Part.haltCleared]), ?lsq, ?handed⟩
    case kept => cases r <;> simp_all [Region.same, Part.haltCleared]
    case dial =>
      refine Dt.same_of_pockets (Part.commit_dial s.part (q.endRequest { code := .ok, word := count })) ?_
      simp only [Part.endRequest_keeps]
      rw [qdt]
    case pockets => simp [qdt]
    case lsq => simp [hq, Part.haltCleared_lsq]
    case handed =>
      have handed := Part.handed_haltCleared halt purge
      rw [← hq, number] at handed
      exact Part.handed_commit s.part (Part.handed_of_right handed (by simp) (by simp [Part.indexCount]))

end Sys2Proof.Machine
end

section
/-! The feed that is withdrawn (R28), and lot close with its completion (R25, R28, R65, R86, R140, R141). -/

namespace Sys2Proof.Machine

/-! ## The feed is withdrawn (R28) -/

/-- The items of the dwell once the feed has been withdrawn. -/
def Part.itemsUnfed (p : Part) : List Item :=
  match p.lcu.feed with
  | .idle => p.dt.items
  | .feeding _ d => if d = p.dt.dwell then p.dt.items.map (Item.complete .load) else p.dt.items

theorem Part.withdrawFeed_spec (p : Part) :
    p.withdrawFeed.lcu = { p.lcu with feed := .idle } ∧ p.withdrawFeed.dt = { p.dt with items := p.itemsUnfed } ∧
      p.withdrawFeed.lct.timers =
        { p.lct.timers with feed := if p.lcu.feed = .idle then p.lct.timers.feed else .stopped } := by
  unfold Part.withdrawFeed Part.itemsUnfed
  cases feed : p.lcu.feed with
  | idle =>
    have same : p.lcu = { p.lcu with feed := .idle } := by rw [← feed]
    exact ⟨same, rfl, rfl⟩
  | feeding k d =>
    by_cases current : d = p.dt.dwell
    · simp [Part.dropFeed, Part.completeItem, current]
    · simp [Part.dropFeed, Part.completeItem, current]

/-! ## The reservations are withdrawn (R25, R65) -/

/-- The cover of a meter whose reservation has been withdrawn. -/
def Cover.rejoined (c : Cover) (rejoins : Bool) : Cover := if rejoins = true ∧ c = .placed then .pending else c

theorem Cover.rejoined_rejoined (c : Cover) (a b : Bool) : (c.rejoined a).rejoined b = c.rejoined (a || b) := by
  cases a <;> cases b <;> cases c <;> rfl

theorem withdrawReservation_spec {p : Part} {k : Nat} (closed : (p.pocket k).holdsLotOpen = false) :
    (∀ j, (withdrawReservation p k).pocket j = if j = k then .vacant else p.pocket j) ∧
      (∀ m, (withdrawReservation p k).lcu.pendingSet.get m =
        (p.lcu.pendingSet.get m || (p.pocket k).reservedFor m)) ∧
      (∀ m, (withdrawReservation p k).rsc.get m =
        { p.rsc.get m with cover := (p.rsc.get m).cover.rejoined ((p.pocket k).reservedFor m) }) ∧
      { (withdrawReservation p k).lcu with pendingSet := p.lcu.pendingSet } = p.lcu ∧
      { (withdrawReservation p k).dt with pockets := p.dt.pockets } = p.dt := by
  cases pocket : p.pocket k with
  | vacant =>
    have same : withdrawReservation p k = p := by simp only [withdrawReservation, pocket]
    rw [same]
    refine ⟨fun j => ?_, fun m => by simp [Pocket.reservedFor], fun m => by simp [Pocket.reservedFor, Cover.rejoined],
      rfl, rfl⟩
    split
    · next h => rw [h, pocket]
    · rfl
  | reserved set =>
    have inside := Part.pocket_lt (p := p) (k := k) (by simp [pocket])
    have freed : withdrawReservation p k = (p.rejoinPending set).setPocket k .vacant := by
      simp only [withdrawReservation, pocket]
    rw [freed]
    refine ⟨fun j => ?_, fun m => ?_, fun m => ?_, rfl, rfl⟩
    · rw [Part.pocket_setPocket]
      exact if_congr (and_iff_left inside) rfl rfl
    · simp [Part.rejoinPending, MeterSet.union, Pocket.reservedFor, Part.setPocket]
    · have get : (p.rejoinPending set).rsc.get m =
          if set.get m = true ∧ (p.rsc.get m).cover = .placed then { p.rsc.get m with cover := .pending }
          else p.rsc.get m := by simp [Part.rejoinPending]
      change (p.rejoinPending set).rsc.get m =
        { p.rsc.get m with cover := (p.rsc.get m).cover.rejoined (set.get m) }
      rw [get, Cover.rejoined]
      split <;> rfl
  | carry x => simp [pocket, Pocket.holdsLotOpen] at closed
  | routed x r => simp [pocket, Pocket.holdsLotOpen] at closed
  | spent x r n => simp [pocket, Pocket.holdsLotOpen] at closed
  | stray => simp [pocket, Pocket.holdsLotOpen] at closed

/-- The reservations of a list of pockets are withdrawn. -/
theorem withdrawReservations_spec {ks : List Nat} (distinct : ks.Nodup) {p : Part}
    (closed : ∀ k ∈ ks, (p.pocket k).holdsLotOpen = false) :
    (∀ j, (ks.foldl withdrawReservation p).pocket j = if j ∈ ks then .vacant else p.pocket j) ∧
      (∀ m, (ks.foldl withdrawReservation p).lcu.pendingSet.get m =
        (p.lcu.pendingSet.get m || ks.any (fun k => (p.pocket k).reservedFor m))) ∧
      (∀ m, (ks.foldl withdrawReservation p).rsc.get m =
        { p.rsc.get m with
          cover := (p.rsc.get m).cover.rejoined (ks.any (fun k => (p.pocket k).reservedFor m)) }) ∧
      { (ks.foldl withdrawReservation p).lcu with pendingSet := p.lcu.pendingSet } = p.lcu ∧
      { (ks.foldl withdrawReservation p).dt with pockets := p.dt.pockets } = p.dt := by
  induction ks generalizing p with
  | nil => exact ⟨fun _ => rfl, fun m => by simp, fun m => by simp [Cover.rejoined], rfl, rfl⟩
  | cons k rest ih =>
    obtain ⟨fresh, distinct⟩ := List.nodup_cons.mp distinct
    obtain ⟨pockets, pending, covers, lcu, dt⟩ := withdrawReservation_spec (closed k List.mem_cons_self)
    have other : ∀ j ∈ rest, (withdrawReservation p k).pocket j = p.pocket j := fun j hj => by
      rw [pockets, if_neg (by rintro rfl; exact fresh hj)]
    obtain ⟨pockets', pending', covers', lcu', dt'⟩ := ih distinct (p := withdrawReservation p k)
      fun j hj => by rw [other j hj]; exact closed j (List.mem_cons_of_mem _ hj)
    have any : ∀ m, rest.any (fun j => ((withdrawReservation p k).pocket j).reservedFor m) =
        rest.any (fun j => (p.pocket j).reservedFor m) := fun m => by
      rw [Bool.eq_iff_iff, List.any_eq_true, List.any_eq_true]
      exact exists_congr fun j => and_congr_right fun hj => by rw [other j hj]
    rw [List.foldl_cons]
    refine ⟨fun j => ?_, fun m => ?_, fun m => ?_, ?_, ?_⟩
    · rw [pockets', pockets]
      by_cases first : j = k <;> simp [first]
    · rw [pending', pending, any, List.any_cons, Bool.or_assoc]
    · rw [covers', covers, any, List.any_cons, Cover.rejoined_rejoined]
    · rw [← lcu, ← lcu']
    · rw [← dt, ← dt']

theorem Part.any_pockets (p : Part) (f : Pocket → Bool) :
    (List.range p.dt.pockets.length).any (fun k => f (p.pocket k)) = p.dt.pockets.any f := by
  conv_rhs => rw [p.pockets_eq_map, List.any_map]
  rfl

/-! ## Lot close (R140) -/

/-- The lot is closed and the feed withdrawn, before the reservations are. -/
def Part.lotEnded (p : Part) : Part :=
  ({ p.enterEngine .idle with lsq := { (p.enterEngine .idle).lsq with lotMode := .none, lot := none } } : Part).withdrawFeed

/-- The reservations are withdrawn. -/
def Part.unreserved (p : Part) : Part := (List.range p.dt.pockets.length).foldl withdrawReservation p

theorem Part.lotEnded_blocks (p : Part) :
    p.lotEnded.lsq = { p.lsq with engine := .idle, lotMode := .none, lot := none } ∧
      p.lotEnded.lcu = { p.lcu with feed := .idle } ∧ p.lotEnded.dt = { p.dt with items := p.itemsUnfed } ∧
      p.lotEnded.rsc = p.rsc := by
  obtain ⟨lcu, dt, -⟩ := ({ p.enterEngine .idle with
    lsq := { (p.enterEngine .idle).lsq with lotMode := .none, lot := none } } : Part).withdrawFeed_spec
  refine ⟨?_, by rw [Part.lotEnded, lcu]; simp, ?_, by simp [Part.lotEnded]⟩
  · have latch : p.lsq.latchOn .idle = p.lsq.portLatch := by cases h : p.lsq.presets <;> simp [Lsq.latchOn, h]
    simp [Part.lotEnded, Part.enterEngine_lsq, latch]
  · rw [Part.lotEnded, dt]
    simp [Part.itemsUnfed]

theorem Part.lotEnded_timers {p : Part} (drain : p.lsq.engine = .drain) :
    p.lotEnded.lct.timers =
      { p.lct.timers with feed := if p.lcu.feed = .idle then p.lct.timers.feed else .stopped } := by
  obtain ⟨-, -, timers⟩ := ({ p.enterEngine .idle with
    lsq := { (p.enterEngine .idle).lsq with lotMode := .none, lot := none } } : Part).withdrawFeed_spec
  rw [Part.lotEnded, timers]
  simp [Part.enterEngine_timers, Part.starvationOn, drain]

/-- What the withdrawal of every reservation changes, where the lot's pockets have all gone. -/
theorem Part.unreserved_spec {p : Part} (closed : ∀ k ∈ p.dt.pockets, k.holdsLotOpen = false) :
    p.unreserved.dt = { p.dt with pockets := List.replicate p.dt.pockets.length .vacant } ∧
      (∀ m, p.unreserved.lcu.pendingSet.get m =
        (p.lcu.pendingSet.get m || p.dt.pockets.any (fun k => k.reservedFor m))) ∧
      { p.unreserved.lcu with pendingSet := p.lcu.pendingSet } = p.lcu ∧
      (∀ m, p.unreserved.rsc.get m =
        { p.rsc.get m with cover := (p.rsc.get m).cover.rejoined (p.dt.pockets.any (fun k => k.reservedFor m)) }) := by
  have each : ∀ k ∈ List.range p.dt.pockets.length, (p.pocket k).holdsLotOpen = false := by
    intro k hk
    have mem := List.mem_map_of_mem (f := p.pocket) hk
    rw [← p.pockets_eq_map] at mem
    exact closed _ mem
  obtain ⟨pockets, pending, covers, lcu, dt⟩ := withdrawReservations_spec List.nodup_range each
  have length : p.unreserved.dt.pockets.length = p.dt.pockets.length := by simp [Part.unreserved]
  have vacant : p.unreserved.dt.pockets = List.replicate p.dt.pockets.length .vacant := by
    rw [p.unreserved.pockets_eq_map, length, List.eq_replicate_iff]
    refine ⟨by simp, fun x hx => ?_⟩
    obtain ⟨k, hk, rfl⟩ := List.mem_map.mp hx
    exact (pockets k).trans (if_pos hk)
  refine ⟨?_, fun m => ?_, lcu, fun m => ?_⟩
  · rw [← vacant]
    exact congrArg (fun d : Dt => { d with pockets := p.unreserved.dt.pockets }) dt
  · rw [← p.any_pockets]
    exact pending m
  · rw [← p.any_pockets]
    exact covers m

/-- The slots are left, and a pending switch withdrawn with its EVENT (R86). -/
def Part.unloaded (p : Part) : Part := ({ p with ps := { p.ps with loadSlot := none } } : Part).withdrawSwitch

theorem Part.unloaded_ps (p : Part) : p.unloaded.ps = { p.ps with loadSlot := none, pendingSwitch := none } := by
  unfold Part.unloaded Part.withdrawSwitch
  cases switch : p.ps.pendingSwitch with
  | none => simp only; rw [← switch]
  | some w => simp

theorem Part.handed_unloaded (p : Part) :
    Part.handed p p.unloaded
      (p.ps.pendingSwitch.toList.map (fun w => .event (.switchWithdrawn w.slot w.sequence p.lcu.nextSequence))) := by
  unfold Part.unloaded Part.withdrawSwitch
  cases switch : p.ps.pendingSwitch with
  | none => exact Part.handed_same rfl
  | some w => exact Part.handed_of_left rfl (Part.handed_event _ _)

/-- Lot close, up to the close completion that it begins. -/
def Part.closed (p : Part) : Part :=
  (p.lotEnded.unreserved.unloaded.handOff (.lotClose p.snapshot)).fileBulk (contextWrites p.lsq.lot p.snapshot)

theorem Part.lotClose_eq (p : Part) :
    p.lotClose =
      Part.asOneChange p
        { p.closed with
          lsq :=
            { p.closed.lsq with
              completion :=
                some { snapshot := p.snapshot, published := false,
                       writesLeft := (contextWrites p.lsq.lot p.snapshot).length } } } := rfl

theorem Part.closed_keeps (p : Part) :
    p.closed.mc = p.mc ∧ p.closed.gbt = p.gbt ∧ p.closed.rqx = p.rqx ∧ p.closed.attn = p.attn ∧ p.closed.cfg = p.cfg ∧
      p.closed.draws = p.draws ∧ p.closed.lct.lines = p.lct.lines ∧ p.closed.lct.chain = p.lct.chain ∧
      p.closed.lct.timers = p.lotEnded.lct.timers ∧ p.closed.dt = p.lotEnded.unreserved.dt ∧
      p.closed.lcu = p.lotEnded.unreserved.lcu ∧ p.closed.rsc = p.lotEnded.unreserved.rsc ∧
      p.closed.lsq = p.lotEnded.lsq ∧ p.closed.ps = { p.ps with loadSlot := none, pendingSwitch := none } ∧
      p.closed.sa = { p.sa with bulk := p.sa.bulk ++ contextWrites p.lsq.lot p.snapshot } := by
  have ps := p.lotEnded.unreserved.unloaded_ps
  refine ⟨?_, ?_, ?_, ?_, ?_, ?_, ?_, ?_, ?_, ?_, ?_, ?_, ?_, ?_, ?_⟩
  case refine_14 =>
    simp only [Part.closed, Part.handOff_keeps, Part.fileBulk]
    rw [ps]
    simp [Part.unreserved, Part.lotEnded]
  all_goals simp [Part.closed, Part.unloaded, Part.unreserved, Part.lotEnded, Part.fileBulk]

theorem Part.handed_closed {p : Part} (closed : ∀ k ∈ p.dt.pockets, k.holdsLotOpen = false) :
    Part.handed p p.closed
      (p.ps.pendingSwitch.toList.map
          (fun w => .event (.switchWithdrawn w.slot w.sequence p.lcu.nextSequence)) ++ [.lotClose p.snapshot]) := by
  obtain ⟨-, lcu, dt, -⟩ := p.lotEnded_blocks
  obtain ⟨-, -, loading, -⟩ := Part.unreserved_spec (p := p.lotEnded) (by rw [dt]; exact closed)
  have sequence : p.lotEnded.unreserved.lcu.nextSequence = p.lcu.nextSequence :=
    calc p.lotEnded.unreserved.lcu.nextSequence = p.lotEnded.lcu.nextSequence := by rw [← loading]
      _ = p.lcu.nextSequence := by rw [lcu]
  have switch : p.lotEnded.unreserved.ps = p.ps := by simp [Part.unreserved, Part.lotEnded]
  have withdrawn := p.lotEnded.unreserved.handed_unloaded
  rw [sequence, switch] at withdrawn
  have start : Part.handed p p.lotEnded.unreserved.unloaded _ :=
    Part.handed_of_left (by simp [Part.unreserved, Part.lotEnded]) withdrawn
  have written : Part.handed p.lotEnded.unreserved.unloaded p.closed [.lotClose p.snapshot] :=
    Part.handed_handOff _ _
  exact Part.handed_trans start written (by simp [Part.closed, Part.indexCount, Part.fileBulk])

theorem exec_lotClose {s : State} (drain : s.part.lsq.engine = .drain)
    (closed : ∀ k ∈ s.part.dt.pockets, k.holdsLotOpen = false) (queue : s.part.jw.queue = []) :
    exec .lotClose s = .next { s with part := Part.commit s.part s.part.lotClose } :=
  State.onOccasion_of Part.lotClose (by simpa [Part.closeConditions, drain, queue] using closed)

theorem Part.snapshot_eq (p : Part) :
    p.snapshot =
      { lot := (p.lsq.lot.map Lot.number).getD 0, nextSequence := p.lcu.nextSequence, counters := p.lcu.counters,
        ended := (p.lsq.parked.map Parked.kind).getD .endLot } := by
  unfold Part.snapshot Part.lotNumber
  cases p.lsq.lot <;> cases p.lsq.parked <;> rfl

theorem contextWrites_eq (lot : Option Lot) (c : LotContext) :
    contextWrites lot c = ((lot.bind Lot.context).map (fun a => writeRequests (cellsAt a c.bytes) .context)).getD [] := by
  unfold contextWrites
  cases lot with
  | none => rfl
  | some l => cases context : l.context <;> simp [context]

/-! ## The close completion (R141) -/

theorem exec_closeCompletionEnd {s : State} {k : CloseCompletion} (completion : s.part.lsq.completion = some k)
    (published : k.published = true) (written : k.writesLeft = 0) :
    exec .closeCompletionEnd s = .next { s with part := Part.commit s.part (s.part.endCompletion k) } := by
  have ended : s.part.completionEnded = some k := by
    simp [Part.completionEnded, completion, CloseCompletion.ended, published, written]
  simp [exec, execCloseCompletionEnd, ended, State.onPart]

theorem Part.endParked_of_parked {p : Part} {k : ParkedRef} (h : p.rqx.parkedRef = some k) (r : Result) :
    p.endParked r =
      { p.fileRequest (r.writes k.address k.notify .plain) with rqx := { p.rqx with parkedRef := none } } := by
  simp only [Part.endParked, h]

theorem Part.endParked_of_none {p : Part} (h : p.rqx.parkedRef = none) (r : Result) : p.endParked r = p := by
  simp only [Part.endParked, h]

/-- What the end of the parked request files, and what it leaves of the requests. -/
theorem Part.endParked_spec (p : Part) (r : Result) :
    (p.endParked r).sa =
        { p.sa with
          request := p.sa.request ++ p.rqx.parkedRef.toList.flatMap (fun k => r.writes k.address k.notify .plain) } ∧
      (p.endParked r).rqx = { p.rqx with parkedRef := none } := by
  cases h : p.rqx.parkedRef with
  | none =>
    have same : p.rqx = { p.rqx with parkedRef := none } := by rw [← h]
    rw [Part.endParked_of_none h]
    exact ⟨by simp, same⟩
  | some k => simp [Part.endParked_of_parked h, Part.fileRequest]

/-- The lot is closed, its parked request not yet ended. -/
def Part.completed (p : Part) : Part := p.setLsq { p.lsq with completion := none, parked := none }

theorem Part.endCompletion_eq (p : Part) (k : CloseCompletion) :
    p.endCompletion k =
      match p.lsq.parked with
      | none => p.completed
      | some r => p.completed.endParked (parkedResult r k.snapshot) := rfl

/-- Settles O40. -/
theorem lotCloseAndItsCompletion : Obligations.LotCloseAndItsCompletion := by
  refine ⟨fun s drain closed queue => ?close, fun s k completion published written => ?completion⟩
  case close =>
    intro c writes rejoins
    have snapshot : s.part.snapshot = c := s.part.snapshot_eq
    have filed : contextWrites s.part.lsq.lot s.part.snapshot = writes := by rw [contextWrites_eq, snapshot]
    obtain ⟨mc, gbt, rqx, attn, cfg, draws, lines, chain, timers, dt, lcu, rsc, lsq, ps, sa⟩ := s.part.closed_keeps
    obtain ⟨elsq, elcu, edt, ersc⟩ := s.part.lotEnded_blocks
    obtain ⟨udt, pending, loading, covers⟩ := Part.unreserved_spec (p := s.part.lotEnded) (by rw [edt]; exact closed)
    have handed := Part.handed_closed closed
    have etimers := Part.lotEnded_timers drain
    rw [filed] at sa
    rw [snapshot] at handed
    obtain ⟨q, hq⟩ : ∃ q, q = s.part.lotClose := ⟨_, rfl⟩
    have blocks := hq
    rw [Part.lotClose_eq, filed, snapshot] at blocks
    have others : q.mc = s.part.mc ∧ q.gbt = s.part.gbt ∧ q.rqx = s.part.rqx ∧ q.attn = s.part.attn ∧
        q.cfg = s.part.cfg ∧ q.draws = s.part.draws ∧ q.lct.lines = s.part.lct.lines ∧
        q.lct.chain = s.part.lct.chain := by
      simp [blocks, Part.asOneChange, mc, gbt, rqx, attn, cfg, draws, lines, chain]
    have qlsq : q.lsq = { s.part.closed.lsq with
        completion := some { snapshot := c, published := false, writesLeft := writes.length } } := by
      simp [blocks, Part.asOneChange]
    have qdt : q.dt = s.part.lotEnded.unreserved.dt := by simp [blocks, Part.asOneChange, dt]
    have qlcu : q.lcu = s.part.lotEnded.unreserved.lcu := by simp [blocks, Part.asOneChange, lcu]
    have qrsc : q.rsc = s.part.lotEnded.unreserved.rsc := by simp [blocks, Part.asOneChange, rsc]
    have qps : q.ps = { s.part.ps with loadSlot := none, pendingSwitch := none } := by
      simp [blocks, Part.asOneChange, ps]
    have qsa : q.sa = { s.part.sa with bulk := s.part.sa.bulk ++ writes } := by
      simp [blocks, Part.asOneChange, sa]
    have qtimers : q.lct.timers = s.part.lotEnded.lct.timers := by simp [blocks, Part.asOneChange, timers]
    have qhanded : Part.handed s.part q _ :=
      Part.handed_of_right handed (by simp [blocks, Part.asOneChange])
        (by simp [blocks, Part.asOneChange, Part.indexCount])
    refine ⟨_, exec_lotClose drain closed queue, ⟨rfl, rfl, rfl⟩, ?_⟩
    rw [← hq]
    clear hq blocks
    obtain ⟨mc, gbt, rqx, attn, cfg, draws, lines, chain⟩ := others
    refine ⟨Part.keepsBut_commit fun r hr => ?kept, ?pockets, ?permit, ?offset, ?dwell, ?lcu, fun m => ?pending,
      fun m => ?cover, ?ps, ?lsq, ?queues, ?timers, Part.handed_commit s.part qhanded⟩
    case kept => cases r <;> simp [Region.same, mc, gbt, rqx, attn, cfg, draws, lines, chain] at hr ⊢
    case pockets => simp [qdt, udt, edt]
    case permit =>
      rw [Part.commit_permit]
      simp [Part.permitConditions, qlsq, lsq, elsq, EngineState.working]
    case offset => simp [qdt, udt, edt]
    case dwell => simp [qdt, udt, edt]
    case lcu =>
      simp only [Part.commit_blocks, qlcu]
      exact congrArg (fun l : Lcu => { l with pendingSet := s.part.lotEnded.unreserved.lcu.pendingSet })
        (loading.trans elcu)
    case pending => simp [qlcu, pending, elcu, edt, rejoins]
    case cover => simp [qrsc, covers, ersc, edt, rejoins, Cover.rejoined]
    case ps => simp [qps]
    case lsq => simp [qlsq, lsq, elsq]
    case queues =>
      rw [← qsa]
      exact Part.commit_follows s.part q
    case timers =>
      rw [Part.commit_timers_eq, qtimers, etimers]
  case completion =>
    refine ⟨_, exec_closeCompletionEnd completion published written, ⟨rfl, rfl, rfl⟩, ?_⟩
    cases parked : s.part.lsq.parked with
    | none =>
      have ended : s.part.endCompletion k = s.part.completed := by simp only [Part.endCompletion_eq, parked]
      rw [ended]
      refine ⟨Part.keepsBut_commit fun r hr => ?_, by simp [Part.completed], by simp [Part.completed],
        by simp [Part.completed], by simp [Part.completed], fun r ref none => by simp at none,
        fun _ => Part.filed_commit (by simp [Part.completed]) s.part⟩
      cases r <;> simp [Region.same, Part.completed] at hr ⊢
    | some r =>
      obtain ⟨q, hq⟩ : ∃ q, q = s.part.endCompletion k := ⟨_, rfl⟩
      have ended : q = s.part.completed.endParked (parkedResult r k.snapshot) := by
        simp only [hq, Part.endCompletion_eq, parked]
      obtain ⟨sa, rqx⟩ := s.part.completed.endParked_spec (parkedResult r k.snapshot)
      have others : q.dt = s.part.dt ∧ q.lcu = s.part.lcu ∧ q.mc = s.part.mc ∧ q.rsc = s.part.rsc ∧ q.ps = s.part.ps ∧
          q.gbt = s.part.gbt ∧ q.jw = s.part.jw ∧ q.attn = s.part.attn ∧ q.cfg = s.part.cfg ∧ q.lct = s.part.lct ∧
          q.draws = s.part.draws := by simp [ended, Part.completed]
      have lsq : q.lsq = { s.part.lsq with completion := none, parked := none } := by simp [ended, Part.completed]
      rw [← hq]
      rw [← ended] at sa rqx
      clear hq ended
      refine ⟨Part.keepsBut_commit fun r hr => ?_, by simp [lsq], by simp [rqx, Part.completed],
        by simp [sa, Part.completed], by simp [sa, Part.completed], fun r' ref same held => ⟨by simp [rqx], ?_⟩,
        fun free => ?_⟩
      · cases r <;> simp [Region.same, others] at hr ⊢
      · obtain rfl := Option.some.inj same
        refine Part.filed_commit ?_ s.part
        rw [sa]
        cases kind : r.kind <;> simp [Part.completed, held, parkedResult, parkedFields, extensionFields, kind]
      · refine Part.filed_commit ?_ s.part
        rw [sa]
        simp_all [Part.completed]

end Sys2Proof.Machine
end

section
/-! The items of the dwell that are still DEFERRED (R10), and RESUME (R145). -/

namespace Sys2Proof.Machine

/-! ## The items that no operation completes -/

section
variable (p : Part)

@[simp] theorem Part.writeEntry_items (k : Nat) (m : Meter) (f : Reading → Reading) :
    (p.writeEntry k m f).dt.items = p.dt.items := rfl

@[simp] theorem Part.readingClaim_items (k : Nat) (m : Meter) (n : Nat) (s : ReadingStatus) (d : Option Int) :
    (p.readingClaim k m n s d).dt.items = p.dt.items := by
  simp only [Part.readingClaim]
  (repeat' split) <;> simp [Part.countLot]

@[simp] theorem Part.serialClaim_items (k : Nat) (m : Meter) (n : Nat) :
    (p.serialClaim k m n).dt.items = p.dt.items := rfl

@[simp] theorem Part.noTakeClaim_items (k : Nat) (m : Meter) (s : ReadingStatus) :
    (p.noTakeClaim k m s).dt.items = p.dt.items := by
  unfold Part.noTakeClaim
  (repeat' split) <;> simp

@[simp] theorem Part.sendTake_items (m : Meter) (x : TakeKind) (k d : Nat) :
    (p.sendTake m x k d).dt.items = p.dt.items := by
  unfold Part.sendTake
  split <;> simp [Part.setPocket]

@[simp] theorem Part.issueTake_items (m : Meter) (x : TakeKind) (k d : Nat) :
    (p.issueTake m x k d).dt.items = p.dt.items := by
  unfold Part.issueTake
  split <;> simp

@[simp] theorem Part.decidePocket_items (k : Nat) : (p.decidePocket k).dt.items = p.dt.items := by
  unfold Part.decidePocket
  dsimp only
  (repeat' split) <;> simp [Part.setPocket]

@[simp] theorem Part.reroute_items (n k : Nat) : (p.reroute n k).dt.items = p.dt.items := by
  unfold Part.reroute
  split <;> simp [Part.setPocket]

@[simp] theorem Part.reserve_items (k : Nat) : (p.reserve k).dt.items = p.dt.items := rfl

@[simp] theorem Part.settlePart_items (k : Nat) (x : PartRecord) (r : Routing) (d : Disposition) (c : Option Nat) :
    (p.settlePart k x r d c).dt.items = p.dt.items := by
  simp [Part.settlePart, Part.setPocket]

@[simp] theorem Part.settleCarried_items (k : Nat) (x : PartRecord) (b : Bool) (c : Option Nat) :
    (p.settleCarried k x b c).dt.items = p.dt.items := by
  simp [Part.settleCarried]

@[simp] theorem Part.settleClear_items (k : Nat) (b : Bool) : (p.settleClear k b).dt.items = p.dt.items := by
  unfold Part.settleClear
  (repeat' split) <;> simp [Part.setPocket]

end

/-! ## The items that are DEFERRED -/

/-- The item is DEFERRED. -/
def Item.isDue (i : Item) : Bool := i.state == .deferred

theorem Item.isDue_complete (k : ItemKind) (i : Item) : (Item.complete k i).isDue = i.isDue := by
  unfold Item.complete
  split
  · next started => simp [Item.isDue, started]
  · rfl

theorem Item.complete_of_isDue {k : ItemKind} {i : Item} (h : i.isDue = true) : Item.complete k i = i := by
  have deferred : i.state = .deferred := by simpa [Item.isDue] using h
  simp [Item.complete, deferred]

/-- An owner's report completes no DEFERRED item. -/
@[simp] theorem Item.filter_isDue_complete (k : ItemKind) (l : List Item) :
    (l.map (Item.complete k)).filter Item.isDue = l.filter Item.isDue := by
  induction l with
  | nil => rfl
  | cons i rest ih =>
    rw [List.map_cons]
    cases due : i.isDue with
    | false => rw [List.filter_cons_of_neg (by simp [Item.isDue_complete, due]), List.filter_cons_of_neg (by simp [due]), ih]
    | true =>
      rw [Item.complete_of_isDue due, List.filter_cons_of_pos due, List.filter_cons_of_pos due, ih]

section
variable (p : Part)

@[simp] theorem Part.completeItem_due (k : ItemKind) (d : Nat) :
    (p.completeItem k d).dt.items.filter Item.isDue = p.dt.items.filter Item.isDue := by
  unfold Part.completeItem
  split <;> simp

@[simp] theorem Part.startLoadItem_due (k : Nat) :
    (p.startLoadItem k).dt.items.filter Item.isDue = p.dt.items.filter Item.isDue := by
  simp only [Part.startLoadItem, Part.workLoad, Part.offer]
  (repeat' split) <;> simp [Part.passUnoffered, Part.countLot, Part.setPocket]

@[simp] theorem Part.startTakeItem_due (m : Meter) (k : Nat) :
    (p.startTakeItem m k).dt.items.filter Item.isDue = p.dt.items.filter Item.isDue := by
  unfold Part.startTakeItem
  dsimp only
  (repeat' split) <;> simp

@[simp] theorem Part.startDecisionItem_due (k : Nat) :
    (p.startDecisionItem k).dt.items.filter Item.isDue = p.dt.items.filter Item.isDue := by
  simp [Part.startDecisionItem]

@[simp] theorem Part.firingClaim_due (n k t d : Nat) (b : Bool) :
    (p.firingClaim n k t d b).dt.items.filter Item.isDue = p.dt.items.filter Item.isDue := by
  simp only [Part.firingClaim]
  (repeat' split) <;> simp [Part.setPocket]

@[simp] theorem Part.endPulse_due (n : Nat) :
    (p.endPulse n).dt.items.filter Item.isDue = p.dt.items.filter Item.isDue := by
  unfold Part.endPulse
  split <;> simp

@[simp] theorem Part.startFireItem_due (n k : Nat) :
    (p.startFireItem n k).dt.items.filter Item.isDue = p.dt.items.filter Item.isDue := by
  unfold Part.startFireItem Part.fireGate
  dsimp only
  (repeat' split) <;> simp

@[simp] theorem Part.tryCompleteClear_due (d : Nat) :
    (p.tryCompleteClear d).dt.items.filter Item.isDue = p.dt.items.filter Item.isDue := by
  unfold Part.tryCompleteClear
  dsimp only
  (repeat' split) <;> simp

@[simp] theorem Part.startClearItem_due (k : Nat) :
    (p.startClearItem k).dt.items.filter Item.isDue = p.dt.items.filter Item.isDue := by
  simp only [Part.startClearItem, Part.fireCatch, Part.endCatch]
  (repeat' split) <;> simp

/-- An item that starts leaves every DEFERRED item of the dwell as it is. -/
@[simp] theorem Part.startItem_due (i : Item) :
    (p.startItem i).dt.items.filter Item.isDue = p.dt.items.filter Item.isDue := by
  unfold Part.startItem
  split <;> simp

end

/-- No item of the dwell is DEFERRED. -/
theorem filter_isDue_eq_nil {l : List Item} : l.filter Item.isDue = [] ↔ ∀ i ∈ l, i.state ≠ .deferred := by
  simp [List.filter_eq_nil_iff, Item.isDue]

/-- The items that start leave no item of the dwell DEFERRED where none was. -/
theorem Part.foldl_startItem_due (l : List Item) (p : Part) :
    (l.foldl Part.startItem p).dt.items.filter Item.isDue = p.dt.items.filter Item.isDue :=
  Part.foldl_same (fun q => q.dt.items.filter Item.isDue) Part.startItem (fun q i => Part.startItem_due q i) l p

theorem Item.start_state (i : Item) : i.start.state ≠ .deferred := by
  unfold Item.start
  split
  · simp
  · next started => exact started

/-- Where the DEFERRED items have started, none is left. -/
theorem Part.startDeferred_started (p : Part) : ∀ i ∈ p.startDeferred.dt.items, i.state ≠ .deferred := by
  rw [← filter_isDue_eq_nil]
  refine (Part.foldl_startItem_due _ _).trans (filter_isDue_eq_nil.mpr fun i hi => ?_)
  obtain ⟨j, -, rfl⟩ := List.mem_map.mp hi
  exact j.start_state

/-- With no item DEFERRED none starts. -/
theorem Part.startDeferred_of_none {p : Part} (h : ∀ i ∈ p.dt.items, i.state ≠ .deferred) : p.startDeferred = p := by
  have due : p.dt.items.filter (fun i => i.state == .deferred) = [] := by
    simpa [List.filter_eq_nil_iff] using h
  have started : p.dt.items.map Item.start = p.dt.items := by
    conv_rhs => rw [← List.map_id p.dt.items]
    exact List.map_congr_left fun i hi => if_neg (h i hi)
  unfold Part.startDeferred
  rw [due, started]
  rfl

/-! ## RESUME (R145) -/

theorem HoldCauses.isEmpty_iff (h : HoldCauses) : h.isEmpty = true ↔ h = HoldCauses.none := by
  obtain ⟨r, d, a, m⟩ := h
  cases r <;> cases d <;> cases a <;> cases m <;> decide

theorem exec_resume {s : State} (h : s.part.executes 8) :
    exec .resume s = .next { s with part := Part.commit s.part s.part.resume } :=
  State.onRequest_of_executes Part.resume h

theorem Part.records_event (p : Part) (e : Event) : (p.event e).records (.event e) := p.records_handOff _

theorem Part.enterEngine_lct (p : Part) (e : EngineState) :
    (p.enterEngine e).lct = { p.lct with timers := { p.lct.timers with starvation := p.starvationOn e } } := by
  have lines : (p.enterEngine e).lct.lines = p.lct.lines := by simp
  have chain : (p.enterEngine e).lct.chain = p.lct.chain := by simp
  rw [← p.enterEngine_timers e]
  exact congr (congrArg (fun l c => Lct.mk l c (p.enterEngine e).lct.timers) lines) chain

/-- The engine is entered with no hold cause left. -/
def Part.resumed (p : Part) (e : EngineState) : Part :=
  (p.setLsq { p.lsq with holds := HoldCauses.none }).enterEngine e

theorem Part.resumed_lsq (p : Part) (e : EngineState) :
    (p.resumed e).lsq = { p.lsq with holds := HoldCauses.none, engine := e, portLatch := p.lsq.latchOn e } := by
  rw [Part.resumed, Part.enterEngine_lsq]
  rfl

theorem Part.resumed_lct (p : Part) (e : EngineState) :
    (p.resumed e).lct = { p.lct with timers := { p.lct.timers with starvation := p.starvationOn e } } := by
  rw [Part.resumed, Part.enterEngine_lct]
  rfl

theorem Part.resumed_same (p : Part) (e : EngineState) :
    { p.resumed e with lsq := p.lsq, lct := p.lct, changed := p.changed } = p := by
  simp [Part.resumed]

theorem Part.entered_resumed (p : Part) (e : EngineState) : Part.entered p (p.resumed e) e :=
  ⟨by rw [p.resumed_lsq], by rw [p.resumed_lsq], by rw [p.resumed_lct]⟩

theorem Part.resume_partial {p : Part} (hold : p.lsq.engine = .hold) (left : p.remainingCauses ≠ HoldCauses.none) :
    p.resume =
      ((p.setLsq { p.lsq with holds := p.remainingCauses }).event
        (.resumed (p.lsq.holds.without p.remainingCauses) p.remainingCauses p.dt.offset)).endRequest
          { code := .partialHold, word := p.remainingCauses.code } := by
  have some : p.remainingCauses.isEmpty = false := by
    rwa [← Bool.not_eq_true, HoldCauses.isEmpty_iff]
  simp [Part.resume, hold, some]

theorem Part.resume_entered {p : Part} {e : EngineState} (hold : p.lsq.engine = .hold)
    (left : p.remainingCauses = HoldCauses.none)
    (mode : (e = .run ∧ p.lsq.lotMode = .run) ∨ (e = .drain ∧ p.lsq.lotMode = .drain)) :
    p.resume =
      ((p.resumed e).startDeferred.event
        (.resumed (p.lsq.holds.without HoldCauses.none) HoldCauses.none p.dt.offset)).endRequest { code := .ok } := by
  have empty : HoldCauses.none.isEmpty = true := rfl
  have entered : ∀ l : Lsq, l = { p.lsq with holds := HoldCauses.none } →
      (p.setLsq l).enterLotMode = (p.resumed e).startDeferred := by
    rintro l rfl
    rcases mode with ⟨rfl, run⟩ | ⟨rfl, drain⟩
    · simp only [Part.enterLotMode, Part.setLsq_lsq, run, Part.resumed]
    · simp only [Part.enterLotMode, Part.setLsq_lsq, drain, Part.resumed]
  have offset : (p.resumed e).startDeferred.dt.offset = p.dt.offset := by simp [Part.resumed]
  have start := entered _ rfl
  simp only [Part.resume, left, empty, hold, if_true, ne_eq, not_true_eq_false, if_false] at start ⊢
  rw [start, offset]

/-- Settles O42. -/
theorem resumeRemovesTheAbsentCauses : Obligations.ResumeRemovesTheAbsentCauses := by
  intro s hx h left gone
  have remaining : s.part.remainingCauses = left := rfl
  have without : s.part.lsq.holds.without left = gone := by
    simp [HoldCauses.without, gone, left, h]
  refine ⟨_, exec_resume hx, ⟨rfl, rfl, rfl⟩, fun other => ?_, fun hold some => ?_, fun hold none e mode => ?_⟩
  · rw [Part.resume, if_pos other]
    exact Part.endedAlone_commit s.part _
  · rw [Part.resume_partial hold (remaining ▸ some), remaining, without]
    have handed : Part.handed s.part ((s.part.setLsq { s.part.lsq with holds := left }).event
        (.resumed gone left s.part.dt.offset)) [.event (.resumed gone left s.part.dt.offset)] :=
      Part.handed_of_left (by simp) (Part.handed_event _ _)
    refine ⟨Part.ended_endRequest s.part _ (by simp) (by simp), Part.keepsBut_commit fun r hr => ?_, by simp,
      Part.handed_commit s.part (Part.handed_of_right handed (by simp) (by simp [Part.indexCount]))⟩
    cases r <;> simp [Region.same] at hr ⊢
  · rw [none] at without remaining
    have resumed := Part.resume_entered hold remaining mode
    rw [without, ← none] at resumed
    rw [resumed]
    obtain ⟨q, hq⟩ : ∃ q, q = s.part.resumed e := ⟨_, rfl⟩
    have lsq : q.lsq = _ := hq ▸ s.part.resumed_lsq e
    have lct : q.lct = _ := hq ▸ s.part.resumed_lct e
    have same : { q with lsq := s.part.lsq, lct := s.part.lct, changed := s.part.changed } = s.part :=
      hq ▸ s.part.resumed_same e
    have entered : Part.entered s.part q e := hq ▸ s.part.entered_resumed e
    have rqx : q.rqx = s.part.rqx := by simp [hq, Part.resumed]
    have sa : q.sa = s.part.sa := by simp [hq, Part.resumed]
    have dt : q.dt = s.part.dt := by simp [hq, Part.resumed]
    have cfg : q.cfg = s.part.cfg := by simp [hq, Part.resumed]
    have others : q.lcu = s.part.lcu ∧ q.mc = s.part.mc ∧ q.rsc = s.part.rsc ∧ q.ps = s.part.ps ∧
        q.gbt = s.part.gbt ∧ q.attn = s.part.attn ∧ q.draws = s.part.draws ∧ q.jw = s.part.jw := by
      simp [hq, Part.resumed]
    rw [← hq]
    refine ⟨Part.ended_endRequest s.part _ (by simp [rqx]) (by simp [sa]), ?lsq, ?started, ?keys, by simp [dt],
      by simp [dt], Part.records_commit s.part ?records, ?kept, ?core, fun idle => ?idle⟩
    case lsq => simp [lsq]
    case started => simpa using q.startDeferred_started
    case keys =>
      have keys : q.startDeferred.dt.items.map Item.key = q.dt.items.map Item.key := by simp
      rw [dt] at keys
      simp only [Part.commit_fields, Part.endRequest_keeps, Part.event_keeps]
      exact keys
    case records =>
      have record := q.startDeferred.records_event (.resumed gone left s.part.dt.offset)
      simpa [Part.records] using record
    case kept =>
      refine fun r hr => Region.same_trans ?_ (Part.commit_keeps _ _ [r] r (by simp))
      simp only [List.mem_cons, List.not_mem_nil, or_false] at hr
      rcases hr with rfl | rfl <;> simp [Region.same, cfg, lct]
    case core =>
      intro entry items started
      have begun : entry = q := hq.symm
      clear_value entry
      subst begun
      refine ⟨entered, by simp, lct, same, ?_⟩
      have items : entry.dt.items = s.part.dt.items := by rw [dt]
      have same : entry.startDeferred = started := by
        rw [Part.startDeferred, items]
        rfl
      rw [same]
    case idle =>
      have none : q.startDeferred = q := Part.startDeferred_of_none (by rw [dt]; exact idle)
      rw [none]
      have handed : Part.handed s.part (q.event (.resumed gone left s.part.dt.offset))
          [.event (.resumed gone left s.part.dt.offset)] :=
        Part.handed_of_left others.2.2.2.2.2.2.2 (Part.handed_event _ _)
      refine ⟨Part.keepsBut_commit fun r hr => ?_, ?_, Part.handed_commit s.part (Part.handed_of_right handed (by simp)
        (by simp [Part.indexCount]))⟩
      · cases r <;> simp [Region.same, others, dt, cfg, lct] at hr ⊢
      · refine ⟨?_, ?_, ?_⟩
        · simp [lsq]
        · simp [lsq]
        · rw [Part.commit_timers_eq]
          simp [lct]

end Sys2Proof.Machine
end

section
/-! ABORT LOT (R138), and a LOAD item that works its pocket where loading is not allowed (R21). -/

namespace Sys2Proof.Machine

/-! ## A LOAD item while nothing may be loaded (R21) -/

theorem Part.loadingAllowed_of_not_run {p : Part} (h : p.lsq.engine ≠ .run) : p.loadingAllowed = false := by
  simp [Part.loadingAllowed, h]

@[simp] theorem Part.completeItem_pockets (p : Part) (k : ItemKind) (d : Nat) :
    (p.completeItem k d).dt.pockets = p.dt.pockets := by
  unfold Part.completeItem
  split <;> rfl

/-- Outside RUN no pocket is offered: the rest but the LCU's counters and the pocket is as it was. -/
theorem Part.workLoad_of_not_run {p : Part} (h : p.lsq.engine ≠ .run) (k : Nat) :
    (p.workLoad k).lcu.feed = p.lcu.feed ∧ (p.workLoad k).rsc = p.rsc ∧ (p.workLoad k).lct = p.lct ∧
      ∀ j, j ≠ k → (p.workLoad k).pocket j = p.pocket j := by
  have disallowed := Part.loadingAllowed_of_not_run h
  have passed : ∀ q : Part, ∀ j, (q.passUnoffered.completeItem .load p.dt.dwell).pocket j = q.pocket j := by
    intro q j
    simp only [Part.pocket, Part.completeItem_pockets]
    rfl
  unfold Part.workLoad
  split
  · exact ⟨by simp [Part.passUnoffered], by simp, by simp, fun j _ => passed p j⟩
  · split
    · refine ⟨by simp [Part.passUnoffered, Part.countLot], by simp, by simp, fun j hj => ?_⟩
      rw [passed]
      have stray := Part.pocket_setPocket p k j .stray
      exact stray.trans (if_neg fun hk => hj hk.1)
    · exact ⟨by simp [Part.passUnoffered], by simp, by simp, fun j _ => passed p j⟩

/-- With the feed IDLE the LOAD item that waits works its pocket. -/
theorem Part.proceedLoad_of_idle {p : Part} (h : p.lcu.feed = .idle) :
    p.proceedLoad =
      match p.waitingLoad with
      | none => p
      | some k => p.startItem { kind := .load, pocket := k, state := .started } := by
  unfold Part.proceedLoad
  rw [h]
  cases waiting : p.waitingLoad with
  | none => rfl
  | some k => exact (if_pos h).symm

theorem Part.startItem_load_of_idle {p : Part} (h : p.lcu.feed = .idle) (k : Nat) (st : ItemState) :
    p.startItem { kind := .load, pocket := k, state := st } = p.workLoad k := if_pos h

/-- A feed withdrawn leaves no LOAD item that did not wait before. -/
theorem find_load_complete {l : List Item} :
    (l.map (Item.complete .load)).find? (fun i => i.kind == .load && i.state == .started) = none := by
  refine List.find?_eq_none.mpr fun i hi => ?_
  obtain ⟨j, -, rfl⟩ := List.mem_map.mp hi
  unfold Item.complete
  split
  · simp
  · next other => simpa using other

/-! ## ABORT LOT (R138) -/

theorem exec_abortLot {s : State} (h : s.part.executes 3) :
    exec .abortLot s = .next { s with part := Part.commit s.part s.part.abortLot } :=
  State.onRequest_of_executes Part.abortLot h

theorem Part.abortParked_iff (p : Part) :
    p.abortParked = true ↔ p.lsq.parked.map Parked.kind = some .abortLot := by
  unfold Part.abortParked
  cases p.lsq.parked with
  | none => simp
  | some k => simp

/-- ABORT LOT is parked, a parked END LOT having ended. -/
def Part.abortHeld (p : Part) : Part :=
  let q := (p.endParked { code := .superseded }).parkCurrent
  q.setLsq { q.lsq with parked := some { kind := .abortLot, routed := 0 } }

/-- The parts are routed to CATCH and the lot drains, before a LOAD item that waited on the feed proceeds. -/
def Part.aborted (p : Part) : Part :=
  let a := p.abortHeld.catchAll .aborted
  let q := (a.1.setLsq { a.1.lsq with parked := some { kind := .abortLot, routed := a.2 } }).withdrawFeed.drain
  q.event (.lotAborted q.lotNumber a.2 q.dt.offset)

theorem Part.abortLot_taken {p : Part} (inLot : p.lsq.engine.inLot = true) (free : p.abortParked = false) :
    p.abortLot = p.aborted.proceedLoad := by
  simp only [Part.abortLot, inLot, free, Bool.true_eq_false, Bool.false_eq_true, if_false]
  rfl

/-- What the abort works on, once the parts are routed and the request is parked. -/
theorem Part.abortHeld_spec (p : Part) :
    p.abortHeld.sa =
        { p.sa with
          request := p.sa.request ++ p.rqx.parkedRef.toList.flatMap
            (fun r => Result.writes { code := .superseded } r.address r.notify .plain) } ∧
      p.abortHeld.rqx.base = p.rqx.base ∧
      (∀ c, p.rqx.current = some c → p.abortHeld.rqx.current = none ∧
        p.abortHeld.rqx.parkedRef = some { address := c.address, notify := c.notify }) ∧
      p.abortHeld.lsq = { p.lsq with parked := some { kind := .abortLot, routed := 0 } } := by
  obtain ⟨sa, rqx⟩ := p.endParked_spec { code := .superseded }
  obtain ⟨base, current⟩ := (p.endParked { code := .superseded }).parkCurrent_rqx
  rw [rqx] at base current
  exact ⟨by simp [Part.abortHeld, sa], by simp [Part.abortHeld, base],
    fun c h => by simpa [Part.abortHeld] using current c h, by simp [Part.abortHeld]⟩

@[simp] theorem Part.abortHeld_keeps (p : Part) :
    p.abortHeld.dt = p.dt ∧ p.abortHeld.lcu = p.lcu ∧ p.abortHeld.mc = p.mc ∧ p.abortHeld.rsc = p.rsc ∧
      p.abortHeld.ps = p.ps ∧ p.abortHeld.gbt = p.gbt ∧ p.abortHeld.jw = p.jw ∧ p.abortHeld.attn = p.attn ∧
      p.abortHeld.cfg = p.cfg ∧ p.abortHeld.lct = p.lct ∧ p.abortHeld.draws = p.draws := by
  simp [Part.abortHeld]

@[simp] theorem Part.aborted_keeps (p : Part) :
    p.aborted.mc = p.mc ∧ p.aborted.rsc = p.rsc ∧ p.aborted.ps = p.ps ∧ p.aborted.rqx = p.abortHeld.rqx ∧
      p.aborted.sa = p.abortHeld.sa ∧ p.aborted.attn = p.attn ∧ p.aborted.cfg = p.cfg ∧ p.aborted.draws = p.draws ∧
      p.aborted.lct.lines = p.lct.lines ∧ p.aborted.lct.chain = p.lct.chain := by
  simp [Part.aborted]

theorem Part.aborted_lsq (p : Part) :
    p.aborted.lsq =
      { p.lsq with
        parked := some { kind := .abortLot, routed := (p.dt.pockets.filter Pocket.catchable).length }
        lotMode := .drain
        engine := if p.lsq.engine = .run then .drain else p.lsq.engine
        portLatch := if p.lsq.engine = .run then p.lsq.latchOn .drain else p.lsq.portLatch } := by
  obtain ⟨-, -, -, lsq⟩ := p.abortHeld_spec
  obtain ⟨-, -, count⟩ := p.abortHeld.catchAll_spec .aborted
  have pockets : p.abortHeld.dt.pockets = p.dt.pockets := by simp
  rw [pockets] at count
  simp only [Part.aborted, Part.event_keeps, Part.drain_lsq, Part.withdrawFeed_keeps, Part.setLsq_lsq,
    Part.catchAll_keeps, lsq, count]
  rfl

theorem Part.aborted_blocks (p : Part) :
    p.aborted.dt = { p.dt with pockets := p.dt.pockets.map (fun k => k.toCatch .aborted), items := p.itemsUnfed } ∧
      p.aborted.lcu = { p.lcu with feed := .idle } ∧ Part.releases p p.aborted p.dt.pockets ∧
      p.aborted.lct.timers =
        { p.lct.timers with
          feed := if p.lcu.feed = .idle then p.lct.timers.feed else .stopped
          starvation := if p.lsq.engine = .run then .stopped else p.lct.timers.starvation } ∧
      Part.handed p p.aborted
        [.event (.lotAborted p.lotNumber (p.dt.pockets.filter Pocket.catchable).length p.dt.offset)] := by
  obtain ⟨-, -, -, lsq⟩ := p.abortHeld_spec
  obtain ⟨dt, releases, count⟩ := p.abortHeld.catchAll_spec .aborted
  obtain ⟨hdt, hlcu, -, -, -, hgbt, -, -, -, hlct, -⟩ := p.abortHeld_keeps
  rw [hdt] at dt releases count
  obtain ⟨a, ha⟩ : ∃ a, a = p.abortHeld.catchAll .aborted := ⟨_, rfl⟩
  have lcu : a.1.lcu = p.lcu := by simp [ha]
  have lct : a.1.lct = p.lct := by simp [ha]
  have jw : a.1.jw = p.jw := by simp [ha]
  have alsq : a.1.lsq = p.abortHeld.lsq := by simp [ha]
  obtain ⟨w, hw⟩ : ∃ w, w = a.1.setLsq { a.1.lsq with parked := some { kind := .abortLot, routed := a.2 } } := ⟨_, rfl⟩
  have aborted : p.aborted =
      w.withdrawFeed.drain.event (.lotAborted w.withdrawFeed.drain.lotNumber a.2 w.withdrawFeed.drain.dt.offset) := by
    rw [hw, ha]
    rfl
  rw [← ha] at dt releases count
  obtain ⟨wlcu, wdt, wtimers⟩ := w.withdrawFeed_spec
  have wa : w.dt = a.1.dt ∧ w.lcu = a.1.lcu ∧ w.gbt = a.1.gbt ∧ w.lct = a.1.lct ∧ w.jw = a.1.jw := by simp [hw]
  obtain ⟨adt, alcu, agbt, alct, ajw⟩ := wa
  have engine : w.lsq.engine = p.lsq.engine := by simp [hw, alsq, lsq]
  have number : w.withdrawFeed.drain.lotNumber = p.lotNumber := by
    simp [Part.lotNumber, Part.drain_lsq, hw, alsq, lsq]
  have offset : w.withdrawFeed.drain.dt.offset = p.dt.offset := by simp [wdt, adt, dt]
  rw [aborted, number, offset, count]
  refine ⟨?_, ?_, ?_, ?_, ?_⟩
  · simp [wdt, adt, dt, Part.itemsUnfed, alcu, lcu]
  · simp [wlcu, alcu, lcu]
  · obtain ⟨pulses, items, bins⟩ := releases
    refine Part.releases_congr (q := a.1) ⟨by rw [pulses, hgbt], by rw [items, hgbt], fun n => ?_⟩ (by simp [agbt])
    rw [bins, Part.bin, Part.bin, hgbt]
  · simp [Part.drain_timers, wtimers, alct, lct, alcu, lcu, engine]
  · exact Part.handed_of_left (by simp [ajw, jw]) (Part.handed_event _ _)

/-- From `p` to `q` the lot has been aborted, whatever a LOAD item that waited on the feed did. -/
def Part.abortedTo (p q : Part) : Prop :=
  q.dt.offset = p.dt.offset ∧ q.dt.dwell = p.dt.dwell ∧ Part.releases p q p.dt.pockets ∧ q.lcu.feed = .idle ∧
    q.rqx.current = none ∧ q.rqx.base = p.rqx.base ∧
    q.rqx.parkedRef = p.rqx.current.map (fun c => { address := c.address, notify := c.notify }) ∧
    Part.filed p q
      (p.rqx.parkedRef.toList.flatMap (fun r => Result.writes { code := .superseded } r.address r.notify .plain)) ∧
    q.lsq =
      { p.lsq with
        parked := some { kind := .abortLot, routed := (p.dt.pockets.filter Pocket.catchable).length }
        lotMode := .drain
        engine := if p.lsq.engine = .run then .drain else p.lsq.engine
        portLatch := if p.lsq.engine = .run then p.lsq.latchOn .drain else p.lsq.portLatch } ∧
    q.lct.timers =
      { p.lct.timers with
        jam := q.lct.timers.jam
        feed := if p.lcu.feed = .idle then p.lct.timers.feed else .stopped
        starvation := if p.lsq.engine = .run then .stopped else p.lct.timers.starvation } ∧
    Part.handed p q
      [.event (.lotAborted p.lotNumber (p.dt.pockets.filter Pocket.catchable).length p.dt.offset)]

theorem Part.abortedTo_aborted {p : Part} {c : CurrentRequest} (current : p.rqx.current = some c) :
    Part.abortedTo p p.aborted := by
  obtain ⟨sa, base, rqx, -⟩ := p.abortHeld_spec
  obtain ⟨free, ref⟩ := rqx c current
  obtain ⟨dt, lcu, releases, timers, handed⟩ := p.aborted_blocks
  refine ⟨by simp [dt], by simp [dt], releases, by simp [lcu], by simp [free], by simp [base], by simp [ref, current],
    ?_, p.aborted_lsq, by rw [timers], handed⟩
  rw [Part.filed, ← sa, p.aborted_keeps.2.2.2.2.1]
  exact Sa.follows_refl _

/-- What follows the abort keeps it: a LOAD item that works its pocket, and what follows the command. -/
theorem Part.abortedTo_congr {p q t : Part} (h : Part.abortedTo p q) (offset : t.dt.offset = q.dt.offset)
    (dwell : t.dt.dwell = q.dt.dwell) (gbt : t.gbt = q.gbt) (feed : t.lcu.feed = q.lcu.feed) (lsq : t.lsq = q.lsq)
    (requests : Region.same q t .requests) (sa : q.sa.follows t.sa) (timers : Region.same q t .timers)
    (jw : t.jw = q.jw) (index : t.indexCount = q.indexCount) : Part.abortedTo p t := by
  obtain ⟨offset', dwell', releases, feed', current, base, ref, filed, lsq', timers', handed⟩ := h
  obtain ⟨current', base', ref'⟩ := requests
  simp only [Region.same] at timers
  refine ⟨offset.trans offset', dwell.trans dwell', Part.releases_congr releases gbt, feed.trans feed',
    current'.trans current, base'.trans base, ref'.trans ref, Sa.follows_trans filed sa, lsq.trans lsq', ?_,
    Part.handed_of_right handed jw index⟩
  have others := congrArg (fun x : Timers => { x with jam := t.lct.timers.jam }) timers
  exact others.trans (congrArg (fun x : Timers => { x with jam := t.lct.timers.jam }) timers')

theorem Part.abortedTo_commit {p q : Part} (b : Part) (h : Part.abortedTo p q) : Part.abortedTo p (Part.commit b q) :=
  Part.abortedTo_congr h (by simp) (by simp) (by simp) (by simp) (by simp)
    (Part.commit_keeps b q [.requests] .requests (by simp)) (Part.commit_follows b q)
    (Part.commit_keeps b q [.timers] .timers (by simp)) (by simp) (by simp)

theorem Part.abortedTo_workLoad {p q : Part} (h : Part.abortedTo p q) (stopped : q.lsq.engine ≠ .run) (k : Nat) :
    Part.abortedTo p (q.workLoad k) := by
  obtain ⟨feed, -, lct, -⟩ := Part.workLoad_of_not_run stopped k
  refine Part.abortedTo_congr h (by simp) (by simp) (by simp) feed (by simp) (by simp [Region.same]) ?_
    (by simp [Region.same, lct]) (by simp) (by simp [Part.indexCount])
  rw [(q.workLoad_keeps k).2.2.2.2.2.2.1]
  exact Sa.follows_refl _

/-- The regions an abort may change. -/
def abortRegions : List Region := [.dial, .loading, .bins, .lots, .requests, .journal, .queues, .timers]

theorem Part.keepsBut_aborted (p : Part) : Part.keepsBut (.own :: abortRegions) p p.aborted := by
  intro r hr
  cases r <;> simp [Region.same, abortRegions] at hr ⊢

theorem Part.pocket_aborted (p : Part) (k : Nat) : p.aborted.pocket k = (p.pocket k).toCatch .aborted := by
  obtain ⟨dt, -⟩ := p.aborted_blocks
  simp only [Part.pocket, dt]
  exact List.getD_map p.dt.pockets .vacant fun x => x.toCatch .aborted

/-- The load that waits once the feed is withdrawn waited before. -/
theorem Part.waitingLoad_aborted {p : Part} {k : Nat} (h : p.aborted.waitingLoad = some k) : p.waitingLoad = some k := by
  obtain ⟨dt, -⟩ := p.aborted_blocks
  have items : p.aborted.dt.items = p.itemsUnfed := by rw [dt]
  unfold Part.waitingLoad at h ⊢
  rw [items] at h
  unfold Part.itemsUnfed at h
  cases feed : p.lcu.feed with
  | idle => simpa [feed] using h
  | feeding j d =>
    by_cases current : d = p.dt.dwell
    · simp only [feed, current, if_true, find_load_complete] at h
      cases h
    · simpa [feed, current] using h

/-- Settles O39. -/
theorem abortLotRoutesEveryPartToCatch : Obligations.AbortLotRoutesEveryPartToCatch := by
  intro s hx e
  refine ⟨_, exec_abortLot hx, ⟨rfl, rfl, rfl⟩, fun refused => ?_, fun inLot parked => ?_, fun inLot other => ?_⟩
  · rw [Part.abortLot, if_pos refused]
    exact Part.endedAlone_commit s.part _
  · have busy : s.part.abortLot = s.part.endRequest { code := .busy } := by
      have held := s.part.abortParked_iff.mpr parked
      have into : s.part.lsq.engine.inLot = true := inLot
      simp [Part.abortLot, into, held]
    rw [busy]
    exact Part.endedAlone_commit s.part _
  · have free : s.part.abortParked = false := by
      rwa [← Bool.not_eq_true, s.part.abortParked_iff]
    obtain ⟨c, current, -⟩ := hx
    obtain ⟨dt, lcu, -⟩ := s.part.aborted_blocks
    have idle : s.part.aborted.lcu.feed = .idle := by rw [lcu]
    have stopped : s.part.aborted.lsq.engine ≠ .run := by
      rw [Part.aborted_lsq]
      by_cases run : s.part.lsq.engine = .run <;> simp [run]
    have taken := Part.abortLot_taken inLot free
    rw [Part.proceedLoad_of_idle idle] at taken
    have begun := Part.abortedTo_aborted current
    intro count abortedP items changed
    cases waits : s.part.aborted.waitingLoad with
    | none =>
      have result : s.part.abortLot = s.part.aborted := by rw [taken, waits]
      rw [result]
      refine ⟨Part.keepsBut_commit fun r hr => ?kept, Part.abortedTo_commit s.part begun, fun k _ => ?pockets,
        s.part.aborted, begun, s.part.keepsBut_aborted, by simp, dt, lcu, fun _ => rfl, fun k h => ?none⟩
      case kept => cases r <;> simp [Region.same, changed] at hr ⊢
      case pockets =>
        rw [(Part.commit_reads s.part s.part.aborted).1]
        exact s.part.pocket_aborted k
      case none => rw [waits] at h; cases h
    | some j =>
      have result : s.part.abortLot = s.part.aborted.workLoad j := by
        rw [taken, waits]
        exact Part.startItem_load_of_idle idle j .started
      obtain ⟨-, rsc, lct, others⟩ := Part.workLoad_of_not_run stopped j
      rw [result]
      refine ⟨Part.keepsBut_commit fun r hr => ?kept', Part.abortedTo_commit s.part (Part.abortedTo_workLoad begun stopped j),
        fun k free => ?pockets', s.part.aborted, begun, s.part.keepsBut_aborted, by simp, dt, lcu, fun h => ?none',
        fun k h => ?some'⟩
      case kept' => cases r <;> simp [Region.same, changed, rsc, lct] at hr ⊢
      case pockets' =>
        rw [(Part.commit_reads s.part (s.part.aborted.workLoad j)).1, others k fun same => ?same]
        · exact s.part.pocket_aborted k
        case same => exact free (same ▸ Part.waitingLoad_aborted waits)
      case none' => rw [waits] at h; cases h
      case some' =>
        obtain rfl : j = k := Option.some.inj (waits.symm.trans h)
        rw [Part.startItem_load_of_idle idle]

end Sys2Proof.Machine
end

section
/-! The requests of the Plan Store (R78, R79, R84), BIN CONTROL (R125 to R128), SET THINNING (R24), PORT WRITE (R149)
and a request of no kind (R158). -/

namespace Sys2Proof.Machine

theorem Part.beginWork_rqx (p : Part) :
    p.beginWork.rqx = { p.rqx with current := p.rqx.current.map (fun c => { c with executing := true }) } := by
  unfold Part.beginWork
  cases current : p.rqx.current with
  | none =>
    have same : p.rqx = { p.rqx with current := none } := by rw [← current]
    exact same
  | some c => rfl

/-! ## STAGE PLAN (R78, R79) -/

theorem exec_stagePlan {s : State} (h : s.part.executes 4) :
    exec .stagePlan s = .next { s with part := Part.commit s.part s.part.stagePlan } :=
  State.onRequest_of_executes Part.stagePlan h

/-- The slot is loading, and the header's reads are filed. -/
def Part.stageBegun (p : Part) (x : SlotId) : Part :=
  let q := p.beginWork.setSlot x { p.ps.slot x with state := .loading, plan := none }
  { q with ps := { q.ps with staging := some { slot := x, address := p.arg 8 4, data := [] } } }.fileBulk
    (readRequests (p.arg 8 4) 32 .plan)

theorem Part.stagePlan_refused {p : Part} {r : Result} (h : p.stageTests = .error r) : p.stagePlan = p.endRequest r := by
  simp only [Part.stagePlan, h]

theorem Part.stagePlan_begun {p : Part} {x : SlotId} (h : p.stageTests = .ok x) : p.stagePlan = p.stageBegun x := by
  simp only [Part.stagePlan, h]
  rfl

theorem Part.stageTests_unconfigured {p : Part} (h : p.lsq.engine = .unconfigured) :
    p.stageTests = .error { code := .refusedState } := if_pos h

theorem Part.stageTests_bad {p : Part} (h : p.lsq.engine ≠ .unconfigured)
    (bad : slotOfCode (p.arg 4 1) = none ∨ p.arg 8 4 % 8 ≠ 0 ∨ 0x1FFFE0 < p.arg 8 4) :
    p.stageTests = .error { code := .refusedArgument } := by
  unfold Part.stageTests
  rw [if_neg h]
  cases slot : slotOfCode (p.arg 4 1) with
  | none => rfl
  | some x =>
    have outside : ¬ (p.arg 8 4 % 8 = 0 ∧ p.arg 8 4 ≤ lastHeaderAddress) := by
      rw [slot] at bad
      simp only [lastHeaderAddress]
      rcases bad with none | odd | far
      · cases none
      · exact fun within => odd within.1
      · omega
    exact if_neg outside

theorem Part.stageTests_slot {p : Part} {x : SlotId} (h : p.lsq.engine ≠ .unconfigured)
    (good : ¬ (slotOfCode (p.arg 4 1) = none ∨ p.arg 8 4 % 8 ≠ 0 ∨ 0x1FFFE0 < p.arg 8 4))
    (slot : slotOfCode (p.arg 4 1) = some x) :
    p.stageTests =
      if p.ps.inUseBits x = 0 then .ok x
      else .error { code := .inUse, word := p.ps.inUseBits x + 256 * ((p.ps.slot x).refs % 256) } := by
  push Not at good
  obtain ⟨-, even, within⟩ := good
  unfold Part.stageTests
  rw [if_neg h, slot]
  exact if_pos ⟨even, within⟩

theorem Ps.inUseBits_eq (ps : Ps) (x : SlotId) :
    ps.inUseBits x =
      (ps.loadSlot == some x).toNat + 2 * (ps.pendingSwitch.map PendingSwitch.slot == some x).toNat +
        (if (ps.slot x).refs = 0 then 0 else 4) := by
  have load : (if ps.loadSlot = some x then 1 else 0) = (ps.loadSlot == some x).toNat := by
    rw [Bool.toNat, Bool.cond_eq_ite]
    simp
  have target : (if ps.pendingSwitch.map PendingSwitch.slot = some x then 2 else 0) =
      2 * (ps.pendingSwitch.map PendingSwitch.slot == some x).toNat := by
    rw [Bool.toNat, Bool.cond_eq_ite]
    simp
  rw [Ps.inUseBits, load, target]

theorem Ps.inUseBits_eq_zero {ps : Ps} {x : SlotId} :
    ps.inUseBits x = 0 ↔ (ps.loadSlot == some x) = false ∧
      (ps.pendingSwitch.map PendingSwitch.slot == some x) = false ∧ (ps.slot x).refs = 0 := by
  rw [Ps.inUseBits_eq]
  cases (ps.loadSlot == some x) <;> cases (ps.pendingSwitch.map PendingSwitch.slot == some x) <;>
    by_cases refs : (ps.slot x).refs = 0 <;> simp [refs]

theorem Ps.setSlot_others (ps : Ps) (x : SlotId) (y : PlanSlot) :
    (ps.setSlot x y).loadSlot = ps.loadSlot ∧ (ps.setSlot x y).pendingSwitch = ps.pendingSwitch ∧
      (ps.setSlot x y).staging = ps.staging := by
  cases x <;> exact ⟨rfl, rfl, rfl⟩

theorem Part.stageBegun_ps (p : Part) (x : SlotId) :
    (p.stageBegun x).ps =
      { p.ps.setSlot x { p.ps.slot x with state := .loading, plan := none } with
        staging := some { slot := x, address := p.arg 8 4, data := [] } } := by
  simp [Part.stageBegun, Part.fileBulk]

theorem Ps.slot_staging (ps : Ps) (w : Option Staging) (x : SlotId) :
    ({ ps with staging := w } : Ps).slot x = ps.slot x := by
  cases x <;> rfl

/-- Settles O44. -/
theorem stagePlanLoadsTheSlot : Obligations.StagePlanLoadsTheSlot := by
  intro s hx a bad
  refine ⟨_, exec_stagePlan hx, ⟨rfl, rfl, rfl⟩, fun refused => ?_, fun configured refused => ?_,
    fun configured good x slot => ?_⟩
  · rw [Part.stagePlan_refused (Part.stageTests_unconfigured refused)]
    exact Part.endedAlone_commit s.part _
  · rw [Part.stagePlan_refused (Part.stageTests_bad configured refused)]
    exact Part.endedAlone_commit s.part _
  · intro load target refs
    have tests := Part.stageTests_slot configured good slot
    have bits := s.part.ps.inUseBits_eq x
    have zero := s.part.ps.inUseBits_eq_zero (x := x)
    refine ⟨fun used => ?_, fun noLoad noTarget noRefs => ?_⟩
    · have inUse : s.part.ps.inUseBits x ≠ 0 := fun none => by
        obtain ⟨noLoad, noTarget, noRefs⟩ := zero.mp none
        rcases used with h | h | h
        · exact absurd (noLoad.symm.trans h) (by simp)
        · exact absurd (noTarget.symm.trans h) (by simp)
        · exact h noRefs
      rw [if_neg inUse, bits] at tests
      rw [Part.stagePlan_refused tests]
      exact Part.endedAlone_commit s.part _
    · rw [if_pos (zero.mpr ⟨noLoad, noTarget, noRefs⟩)] at tests
      rw [Part.stagePlan_begun tests]
      refine ⟨Part.keepsBut_commit fun r hr => ?kept, ?current, ?slot, fun y hy => ?other, ?load, ?switch, ?staging,
        ?queues⟩
      case kept => cases r <;> simp [Region.same, Part.stageBegun, Part.setSlot, Part.fileBulk] at hr ⊢
      case current => simp [Part.stageBegun, Part.setSlot, Part.fileBulk, Part.beginWork_rqx]
      case slot => simp [Part.stageBegun_ps, Ps.slot_staging, noRefs, refs]
      case other => simp [Part.stageBegun_ps, Ps.slot_staging, Ps.slot_setSlot_ne _ _ hy]
      case load => simp [Part.stageBegun_ps, Ps.setSlot_others]
      case switch => simp [Part.stageBegun_ps, Ps.setSlot_others]
      case staging => simp [Part.stageBegun_ps, a]
      case queues =>
        have filed : (s.part.stageBegun x).sa = { s.part.sa with bulk := s.part.sa.bulk ++ readRequests a 32 .plan } := by
          simp [Part.stageBegun, Part.setSlot, Part.fileBulk, a]
        rw [← filed]
        exact Part.commit_follows s.part _

/-! ## SWITCH PLAN (R84) -/

theorem exec_switchPlan {s : State} (h : s.part.executes 5) :
    exec .switchPlan s = .next { s with part := Part.commit s.part s.part.switchPlan } :=
  State.onRequest_of_executes Part.switchPlan h

theorem Part.switchPlan_refused {p : Part} (h : p.lsq.engine = .unconfigured ∨ p.lsq.engine = .idle) :
    p.switchPlan = p.refuseSwitch .refusedState := if_pos h

theorem Part.switchPlan_bad {p : Part} (h : ¬ (p.lsq.engine = .unconfigured ∨ p.lsq.engine = .idle))
    (bad : slotOfCode (p.arg 4 1) = none ∨ p.arg 8 4 = 0) : p.switchPlan = p.refuseSwitch .refusedArgument := by
  simp only [Part.switchPlan, if_neg h]
  cases slot : slotOfCode (p.arg 4 1) with
  | none => rfl
  | some x => exact if_pos (bad.resolve_left (by simp [slot]))

theorem Part.switchPlan_slot {p : Part} {x : SlotId} (h : ¬ (p.lsq.engine = .unconfigured ∨ p.lsq.engine = .idle))
    (slot : slotOfCode (p.arg 4 1) = some x) (sequence : p.arg 8 4 ≠ 0) :
    p.switchPlan =
      if (p.ps.slot x).state ≠ .staged then p.refuseSwitch .refusedState
      else
        (p.setPs
          { p.ps with
            pendingSwitch := if p.ps.loadSlot = some x then none else some { slot := x, sequence := p.arg 8 4 }
          }).endRequest (switchResult .ok p.ps.pendingSwitch) := by
  simp only [Part.switchPlan, if_neg h, slot, if_neg sequence]

/-- The result of SWITCH PLAN, its extension being four bytes. -/
theorem switchResult_eq (code : ResultCode) (before : Option PendingSwitch) :
    switchResult code before =
      { code
        word := (before.map (fun x => match x.slot with | .a => 1 | .b => 2)).getD 0
        extension := some (leBytes 4 ((before.map PendingSwitch.sequence).getD 0)) } := by
  have word : SlotId.code (before.map PendingSwitch.slot) =
      (before.map (fun x => match x.slot with | .a => 1 | .b => 2)).getD 0 := by
    rcases before with _ | ⟨slot, sequence⟩
    · rfl
    · cases slot <;> rfl
  rw [switchResult, word, extensionFields, List.flatMap_singleton]

theorem switchResult_none (code : ResultCode) :
    switchResult code none = { code, word := 0, extension := some [0, 0, 0, 0] } := by
  rw [switchResult_eq]
  rfl

/-- Settles O46. -/
theorem switchPlanSetsThePendingSwitch : Obligations.SwitchPlanSetsThePendingSwitch := by
  intro s hx a e bad refused before sequence
  refine ⟨_, exec_switchPlan hx, ⟨rfl, rfl, rfl⟩, fun closed => ?_, fun configured lot wrong => ?_,
    fun configured lot good x slot => ⟨fun empty => ?_, fun staged => ?_⟩⟩
  · rw [Part.switchPlan_refused closed, Part.refuseSwitch, switchResult_none]
    exact Part.endedAlone_commit s.part _
  · rw [Part.switchPlan_bad (not_or.mpr ⟨configured, lot⟩) wrong, Part.refuseSwitch, switchResult_none]
    exact Part.endedAlone_commit s.part _
  · have next : a 8 4 ≠ 0 := fun none => good (Or.inr none)
    rw [Part.switchPlan_slot (not_or.mpr ⟨configured, lot⟩) slot next, if_pos empty, Part.refuseSwitch, switchResult_none]
    exact Part.endedAlone_commit s.part _
  · have next : a 8 4 ≠ 0 := fun none => good (Or.inr none)
    rw [Part.switchPlan_slot (not_or.mpr ⟨configured, lot⟩) slot next, if_neg (not_not_intro staged), switchResult_eq]
    refine ⟨Part.ended_endRequest s.part _ (by simp) (by simp), Part.keepsBut_commit fun r hr => ?_, by simp [a]⟩
    cases r <;> simp [Region.same] at hr ⊢

/-! ## BIN CONTROL (R125 to R128) -/

theorem exec_binControl {s : State} {i : Instr} {action : Nat}
    (row : (i, action) ∈ [(Instr.binControlClose, 0), (.binControlOpen, 1), (.binControlCapacity, 2)])
    (h : s.part.executes 6) (own : s.part.arg 5 1 = action ∨ 2 < s.part.arg 5 1) :
    exec i s = .next { s with part := Part.commit s.part (s.part.binControl (s.part.arg 5 1)) } := by
  have occasion : s.part.binOccasion action = true := by
    obtain ⟨c, current, kind, executing⟩ := h
    simpa [Part.binOccasion, Part.requestOfKind, current, kind, executing] using own
  simp only [List.mem_cons, Prod.mk.injEq, List.not_mem_nil, or_false] at row
  rcases row with ⟨rfl, rfl⟩ | ⟨rfl, rfl⟩ | ⟨rfl, rfl⟩ <;>
    exact State.onOccasion_of (fun p => p.binControl (p.arg 5 1)) occasion

/-- The result that carries a bin (12.4). -/
def BinEntry.result (b : BinEntry) (code : ResultCode) : Result :=
  { code, word := b.fired + 65536 * b.pending,
    extension := some (byte b.availability.code ++ byte 0 ++ leBytes 2 b.capacity) }

theorem Part.binControl_unconfigured {p : Part} (h : p.lsq.engine = .unconfigured) (action : Nat) :
    p.binControl action = p.endRequest { code := .refusedState, extension := some [] } := by
  simp only [Part.binControl, Part.binRefused, if_pos h]

theorem Part.binControl_beyond {p : Part} (h : p.lsq.engine ≠ .unconfigured) (beyond : p.gateCount ≤ p.arg 4 1)
    (action : Nat) : p.binControl action = p.endRequest { code := .refusedArgument, extension := some [] } := by
  simp only [Part.binControl, Part.binRefused, if_neg h, if_neg (Nat.not_lt.mpr beyond)]

theorem Part.binControl_bin {p : Part} (h : p.lsq.engine ≠ .unconfigured) (gate : p.arg 4 1 < p.gateCount)
    (inside : p.arg 4 1 < p.gbt.bins.length) (action : Nat) :
    p.binControl action =
      (p.setBin (p.arg 4 1) (binAction action (p.arg 6 2) (p.bin (p.arg 4 1))).1).endRequest
        (BinEntry.result (binAction action (p.arg 6 2) (p.bin (p.arg 4 1))).1
          (binAction action (p.arg 6 2) (p.bin (p.arg 4 1))).2) := by
  have becomes : ∀ b, (p.setBin (p.arg 4 1) b).bin (p.arg 4 1) = b := fun b =>
    (p.bin_setBin (p.arg 4 1) (p.arg 4 1) b).trans (if_pos ⟨rfl, inside⟩)
  simp only [Part.binControl, Part.binRefused, if_neg h, if_pos gate, Part.binResult, becomes]
  rfl

/-- A bin written back as it is changes nothing, and notes no change. -/
theorem Part.setBin_bin {p : Part} {n : Nat} (h : n < p.gbt.bins.length) : p.setBin n (p.bin n) = p := by
  have bins : p.gbt.bins.set n (p.bin n) = p.gbt.bins := by
    simp [Part.bin, List.getElem?_eq_getElem h]
  have same : ({ p with gbt := { p.gbt with bins := p.gbt.bins.set n (p.bin n) } } : Part) = p := by rw [bins]
  rw [Part.setBin, same]
  simp [Part.noteChanges]

theorem Part.bin_endRequest (p : Part) (r : Result) (n : Nat) : (p.endRequest r).bin n = p.bin n := by
  simp [Part.bin]

/-- BIN CONTROL with a named bin that leaves it as it is. -/
theorem Part.binControl_same {p : Part} {action : Nat} {code : ResultCode} (h : p.lsq.engine ≠ .unconfigured)
    (gate : p.arg 4 1 < p.gateCount) (inside : p.arg 4 1 < p.gbt.bins.length)
    (same : binAction action (p.arg 6 2) (p.bin (p.arg 4 1)) = (p.bin (p.arg 4 1), code)) :
    p.binControl action = p.endRequest ((p.bin (p.arg 4 1)).result code) := by
  rw [Part.binControl_bin h gate inside, same, Part.setBin_bin inside]

/-- The bin under a new capacity that holds its parts (R128). -/
theorem BinEntry.setCapacity_eq {b : BinEntry} {v : Nat} (room : b.fired + b.pending ≤ v) :
    b.setCapacity v =
      { b with
        capacity := v
        full := if b.full = .sensor then .sensor else if b.fired = v then .count else .clear } := by
  unfold BinEntry.setCapacity
  cases full : b.full with
  | count =>
    have fired : b.fired < v ↔ b.fired ≠ v := by omega
    simp [fired]
  | clear => simp
  | sensor => simp

/-- Settles O47. -/
theorem binControlChangesTheBin : Obligations.BinControlChangesTheBin := by
  intro s i action row hx own tables n v b ok result becomes
  obtain ⟨bins, -, -, gates⟩ := tables
  have alone : ok → ∀ code, binAction (s.part.arg 5 1) v b = (b, code) →
      Part.endedAlone s.part (Part.commit s.part (s.part.binControl (s.part.arg 5 1))) (result code b) := by
    intro ⟨configured, gate⟩ code same
    have inside : n < s.part.gbt.bins.length := by omega
    rw [Part.binControl_same configured gate inside same]
    exact Part.endedAlone_commit s.part _
  have changed : ok → ∀ x, binAction (s.part.arg 5 1) v b = (x, .ok) →
      becomes { s with part := Part.commit s.part (s.part.binControl (s.part.arg 5 1)) } x := by
    intro ⟨configured, gate⟩ x same
    have inside : n < s.part.gbt.bins.length := by omega
    have control := Part.binControl_bin configured gate inside (s.part.arg 5 1)
    rw [show binAction (s.part.arg 5 1) (s.part.arg 6 2) (s.part.bin (s.part.arg 4 1)) = (x, .ok) from same] at control
    simp only [becomes]
    rw [control]
    have bin : ∀ m, (Part.commit s.part ((s.part.setBin n x).endRequest (result .ok x))).bin m =
        if m = n ∧ n < s.part.gbt.bins.length then x else s.part.bin m := fun m => by
      rw [(Part.commit_reads _ _).2.1, Part.bin_endRequest, Part.bin_setBin]
    refine ⟨Part.ended_endRequest s.part _ (by simp) (by simp), Part.keepsBut_commit fun r hr => ?_,
      (bin n).trans (if_pos ⟨rfl, inside⟩), fun m hm => (bin m).trans (if_neg fun h => hm h.1), by simp, by simp⟩
    cases r <;> simp [Region.same] at hr ⊢
  refine ⟨_, exec_binControl row hx own, ⟨rfl, rfl, rfl⟩, fun refused => ?unconfigured, fun configured beyond => ?beyond,
    fun h unnamed => alone h _ ?unnamed, fun h close => changed h _ ?close, fun h opens => changed h _ ?opens,
    fun h capacity none => alone h _ ?none, fun h capacity some low => alone h _ ?low,
    fun h capacity some room => changed h _ ?capacity⟩
  case unconfigured =>
    rw [Part.binControl_unconfigured refused]
    exact Part.endedAlone_commit s.part _
  case beyond =>
    rw [Part.binControl_beyond configured beyond]
    exact Part.endedAlone_commit s.part _
  case unnamed =>
    obtain ⟨k, hk⟩ : ∃ k, s.part.arg 5 1 = k + 3 := ⟨s.part.arg 5 1 - 3, by omega⟩
    rw [hk]
    rfl
  case close => rw [close]; rfl
  case opens => rw [opens]; rfl
  case none => rw [capacity]; exact if_pos none
  case low => rw [capacity]; exact (if_neg some).trans (if_pos low)
  case capacity =>
    rw [capacity]
    refine (if_neg some).trans ((if_neg (Nat.not_lt.mpr room)).trans ?_)
    rw [BinEntry.setCapacity_eq room]

/-! ## SET THINNING, PORT WRITE and a request of no kind (R24, R149, R158) -/

theorem exec_setThinning {s : State} (h : s.part.executes 11) :
    exec .setThinning s = .next { s with part := Part.commit s.part s.part.setThinning } :=
  State.onRequest_of_executes Part.setThinning h

theorem exec_portWrite {s : State} (h : s.part.executes 12) :
    exec .portWrite s = .next { s with part := Part.commit s.part s.part.portWrite } :=
  State.onRequest_of_executes Part.portWrite h

theorem exec_unknown {s : State} {c : CurrentRequest} (current : s.part.rqx.current = some c)
    (executing : c.executing = false) (kind : c.kind = 0 ∨ 12 < c.kind) :
    exec .unknown s = .next { s with part := Part.commit s.part s.part.unknownRequest } :=
  State.onOccasion_of Part.unknownRequest (by simpa [Part.unknownCurrent, current, executing] using kind)

/-- PORT WRITE's result code. -/
def Part.portCode (p : Part) : ResultCode :=
  if p.lsq.engine = .unconfigured then .refusedState else if p.arg 4 2 ≤ 0xFF then .ok else .refusedArgument

/-- The port latch after PORT WRITE. -/
def Part.portWritten (p : Part) : Byte :=
  if p.lsq.engine ≠ .unconfigured ∧ p.arg 4 2 ≤ 0xFF then BitVec.ofNat 8 (p.arg 4 2) else p.lsq.portLatch

theorem Part.portWrite_spec (p : Part) :
    ∃ q : Part, p.portWrite = q.endPortWrite p.portCode ∧ q.lsq = { p.lsq with portLatch := p.portWritten } ∧
      { q with lsq := p.lsq, changed := p.changed } = p := by
  unfold Part.portWrite Part.portCode Part.portWritten
  by_cases unconfigured : p.lsq.engine = .unconfigured
  · exact ⟨p, by simp [unconfigured], by rw [if_neg fun h => h.1 unconfigured], rfl⟩
  · by_cases fits : p.arg 4 2 ≤ 0xFF
    · refine ⟨p.setLsq { p.lsq with portLatch := BitVec.ofNat 8 (p.arg 4 2) }, ?_, ?_, rfl⟩
      · simp [unconfigured, Nat.not_lt.mpr fits, fits]
      · simp [unconfigured, fits]
    · exact ⟨p, by simp [unconfigured, Nat.lt_of_not_le fits, fits], by simp [fits], rfl⟩

/-- Settles O49. -/
theorem thinningPortAndUnknownRequests : Obligations.ThinningPortAndUnknownRequests := by
  refine ⟨fun s hx => ?thinning, fun s hx => ?port, fun s c current executing kind => ?unknown⟩
  case thinning =>
    intro r good
    refine ⟨_, exec_setThinning hx, ⟨rfl, rfl, rfl⟩, fun refused => ?_, fun configured bad => ?_, fun configured fits => ?_⟩
    · rw [show s.part.setThinning = s.part.endRequest { code := .refusedState } from if_pos refused]
      exact Part.endedAlone_commit s.part _
    · rw [show s.part.setThinning = s.part.endRequest { code := .refusedArgument } from
        (if_neg configured).trans (if_neg bad)]
      exact Part.endedAlone_commit s.part _
    · rw [show s.part.setThinning =
          ({ s.part with lcu := { s.part.lcu with forcedRatio := r } } : Part).endRequest { code := .ok } from
        (if_neg configured).trans (if_pos fits)]
      refine ⟨Part.ended_endRequest s.part _ rfl rfl, Part.keepsBut_commit fun r hr => ?_, by simp⟩
      cases r <;> simp [Region.same] at hr ⊢
  case port =>
    intro v
    obtain ⟨q, write, lsq, same⟩ := s.part.portWrite_spec
    have rqx : q.rqx = s.part.rqx := by rw [← same]
    have sa : q.sa = s.part.sa := by rw [← same]
    refine ⟨_, exec_portWrite hx, ⟨rfl, rfl, rfl⟩, ?_⟩
    obtain ⟨c, current, -⟩ := hx
    have held : q.rqx.current = some c := by rw [rqx, current]
    have ended : q.endPortWrite s.part.portCode =
        { q.fileRequest (Result.writes { code := s.part.portCode, word := q.lsq.portLatch.toNat } c.address c.notify
            (.portResult c.address)) with rqx := { q.rqx with current := none } } := by
      simp only [Part.endPortWrite, Part.endRequestAs, held]
    rw [write, ended]
    refine ⟨Part.keepsBut_commit fun r hr => ?_, by simp, by simp [rqx], by simp [rqx], ?_, fun d found => ?_⟩
    · have others : q.dt = s.part.dt ∧ q.lcu = s.part.lcu ∧ q.mc = s.part.mc ∧ q.rsc = s.part.rsc ∧
          q.ps = s.part.ps ∧ q.gbt = s.part.gbt ∧ q.jw = s.part.jw ∧ q.attn = s.part.attn ∧ q.cfg = s.part.cfg ∧
          q.lct = s.part.lct ∧ q.draws = s.part.draws := by
        rw [← same]
        exact ⟨rfl, rfl, rfl, rfl, rfl, rfl, rfl, rfl, rfl, rfl, rfl⟩
      cases r <;> simp [Region.same, Part.fileRequest, others] at hr ⊢
    · simp only [Part.commit_blocks]
      exact lsq
    · obtain rfl := Option.some.inj (current.symm.trans found)
      refine Part.filed_commit ?_ s.part
      simp [Part.fileRequest, sa, Part.portCode, v]
  case unknown =>
    exact ⟨_, exec_unknown current executing kind, ⟨rfl, rfl, rfl⟩, Part.endedAlone_commit s.part _⟩

end Sys2Proof.Machine
end

section
/-! The decision (R92 to R105). -/

namespace Sys2Proof.Machine

/-! ## The base reading (R94) -/

theorem entryHas_iff {e : Option Reading} {v : ReadingStatus} : entryHas e v = true ↔ ∃ r, e = some r ∧ r.status = v := by
  cases e with
  | none => simp [entryHas]
  | some r => simp [entryHas]

theorem entryDeviation_eq (e : Option Reading) : entryDeviation e = (e.bind Reading.deviation).getD 0 := by
  cases e <;> rfl

theorem baseReading_spec (primary backup : Option Reading) :
    (entryHas primary .good = true → baseReading primary backup = .measured (entryDeviation primary)) ∧
      (¬ entryHas primary .good = true → entryHas backup .good = true →
        baseReading primary backup = .measured (entryDeviation backup)) ∧
      (¬ entryHas primary .good = true → ¬ entryHas backup .good = true →
        (entryHas primary .over = true ∨ entryHas backup .over = true) → baseReading primary backup = .overRange) ∧
      (¬ entryHas primary .good = true → ¬ entryHas backup .good = true → ¬ entryHas primary .over = true →
        ¬ entryHas backup .over = true → baseReading primary backup = .none) := by
  unfold baseReading
  refine ⟨fun good => if_pos good, fun bad good => (if_neg bad).trans (if_pos good), fun bad worse out => ?_,
    fun bad worse a b => ?_⟩
  · rw [if_neg bad, if_neg worse]
    rcases out with out | out <;> simp [out]
  · rw [if_neg bad, if_neg worse, if_neg a, if_neg b]

/-! ## The row walk (R99) -/

theorem PlanRow.contains_iff (r : PlanRow) (d : Int) : r.contains d = true ↔ r.low ≤ d ∧ d ≤ r.high := by
  simp [PlanRow.contains]

theorem wantedRow_eq_none_iff (d : Int) (rows : List PlanRow) (i : Nat) :
    wantedRow d rows i = none ↔ ∀ r ∈ rows, ¬ (r.low ≤ d ∧ d ≤ r.high) := by
  induction rows generalizing i with
  | nil => simp [wantedRow]
  | cons r rest ih =>
    rw [wantedRow, List.forall_mem_cons, ← PlanRow.contains_iff]
    by_cases held : r.contains d = true
    · simp [held]
    · rw [if_neg held, ih]
      exact (and_iff_right held).symm

theorem wantedRow_some {d : Int} {rows : List PlanRow} {i n : Nat} {r : PlanRow} (h : wantedRow d rows i = some (n, r)) :
    i ≤ n ∧ rows[n - i]? = some r ∧ r.low ≤ d ∧ d ≤ r.high ∧
      ∀ j x, j < n - i → rows[j]? = some x → ¬ (x.low ≤ d ∧ d ≤ x.high) := by
  induction rows generalizing i with
  | nil => cases h
  | cons first rest ih =>
    rw [wantedRow] at h
    by_cases held : first.contains d = true
    · rw [if_pos held] at h
      obtain ⟨rfl, rfl⟩ := Prod.mk.inj (Option.some.inj h)
      obtain ⟨low, high⟩ := (PlanRow.contains_iff _ _).mp held
      exact ⟨le_refl _, by simp, low, high, fun j x hj => absurd hj (by simp)⟩
    · rw [if_neg held] at h
      obtain ⟨below, found, low, high, earlier⟩ := ih h
      obtain ⟨k, rfl⟩ : ∃ k, n = i + 1 + k := ⟨n - (i + 1), by omega⟩
      have place : i + 1 + k - i = k + 1 := by omega
      have place' : i + 1 + k - (i + 1) = k := by omega
      rw [place'] at found earlier
      rw [place]
      refine ⟨by omega, by simpa using found, low, high, fun j x hj hx => ?_⟩
      cases j with
      | zero =>
        obtain rfl := Option.some.inj hx
        rwa [← PlanRow.contains_iff]
      | succ j => exact earlier j x (by omega) (by simpa using hx)

/-! ## Route claims (R101, R102) -/

theorem BinEntry.opened_iff (b : BinEntry) :
    b.availability = .opened ↔ b.tube = true ∧ b.closed = .none ∧ b.full = .clear := by
  unfold BinEntry.availability
  by_cases tube : b.tube = false
  · simp [tube]
  · by_cases closed : b.closed = .none
    · by_cases full : b.full = .clear <;> simp [tube, closed, full]
    · simp [tube, closed]

theorem BinEntry.canTake_iff (b : BinEntry) :
    b.canTake = true ↔ b.tube = true ∧ b.closed = .none ∧ b.full = .clear ∧ b.fired + b.pending < b.capacity := by
  rw [BinEntry.canTake, Bool.and_eq_true, decide_eq_true_eq, beq_iff_eq, BinEntry.opened_iff]
  constructor
  · exact fun ⟨⟨tube, closed, full⟩, room⟩ => ⟨tube, closed, full, room⟩
  · exact fun ⟨tube, closed, full, room⟩ => ⟨⟨tube, closed, full⟩, room⟩

theorem Part.firstTaking_eq_none {p : Part} {candidates : List Nat} (h : ∀ n ∈ candidates, ¬ (p.bin n).canTake = true)
    (i : Nat) : p.firstTaking candidates i = none := by
  induction candidates generalizing i with
  | nil => rfl
  | cons n rest ih =>
    obtain ⟨first, others⟩ := List.forall_mem_cons.mp h
    rw [Part.firstTaking, if_neg first, ih others]

theorem Part.firstTaking_append {p : Part} {a b : List Nat} {n : Nat} (refused : ∀ x ∈ a, ¬ (p.bin x).canTake = true)
    (taken : (p.bin n).canTake = true) (i : Nat) : p.firstTaking (a ++ n :: b) i = some (i + a.length, n) := by
  induction a generalizing i with
  | nil => exact if_pos taken
  | cons x rest ih =>
    obtain ⟨first, others⟩ := List.forall_mem_cons.mp refused
    rw [List.cons_append, Part.firstTaking, if_neg first, ih others, List.length_cons]
    congr 2
    omega

/-! ## Decisions (R95 to R104) -/

theorem optionList_eq (b : Option Nat) : optionList b = b.toList := by cases b <;> rfl

/-- A decision ended by a special bin. -/
theorem Part.specialRoute_eq (p : Part) (b : Option Nat) (reason : Reason) :
    p.specialRoute b reason =
      ((p.routeClaim b.toList).1,
        { row := none
          route := match (p.routeClaim b.toList).2 with | none => .toCatch | some (_, b) => .gate b
          reason }) := by
  rw [← optionList_eq]
  rfl

/-- A decision with a wanted row. -/
theorem Part.rowRoute_eq (p : Part) (plan : Plan) (n : Nat) (r : PlanRow) :
    let claim := p.routeClaim (r.target :: (r.alternates ++ plan.overflow.toList))
    p.rowRoute plan n r =
      (claim.1,
        { row := some n
          route := match claim.2 with | none => .toCatch | some (_, b) => .gate b
          reason :=
            match claim.2 with
            | none => .noroom
            | some (0, _) => .sorted
            | some (i + 1, _) => if i < r.alternates.length then .alternate else .overflow }) := by
  rw [← optionList_eq]
  intro claim
  have reason : rowReason r claim.2 =
      (match claim.2 with
       | none => .noroom
       | some (0, _) => .sorted
       | some (i + 1, _) => if i < r.alternates.length then .alternate else .overflow) := by
    rcases claim.2 with _ | ⟨i, b⟩
    · rfl
    · cases i with
      | zero => rfl
      | succ i => simp [rowReason]
  rw [← reason]
  rfl

/-- The geometry held has a SECOND station. -/
def Part.hasSecond (p : Part) : Bool :=
  match p.dt.geometry with
  | none => false
  | some g => (g.withRole .second).isSome

theorem Part.hasSecond_iff (p : Part) :
    p.hasSecond = true ↔ ∃ g, p.dt.geometry = some g ∧ g.withRole .second ≠ none := by
  unfold Part.hasSecond
  cases p.dt.geometry with
  | none => simp
  | some g => simp [Option.isSome_iff_ne_none]

section
variable {p : Part} {plan : Plan} {rs : List Reading} {d : Int}

theorem Part.decision_of_none (base : baseReading (p.entryOfRole rs .primary) (p.entryOfRole rs .backup) = .none) :
    p.decision plan rs = p.specialRoute plan.fail .fail := by
  simp only [Part.decision, base]

theorem Part.decision_of_overRange
    (base : baseReading (p.entryOfRole rs .primary) (p.entryOfRole rs .backup) = .overRange) :
    p.decision plan rs = p.specialRoute plan.reject .reject := by
  simp only [Part.decision, base]

theorem Part.decision_of_measured
    (base : baseReading (p.entryOfRole rs .primary) (p.entryOfRole rs .backup) = .measured d) :
    p.decision plan rs =
      match spreadCheck plan p.hasSecond (p.entryOfRole rs .second) d with
      | .failSecond => p.specialRoute plan.fail .fail
      | .failSpread => p.specialRoute plan.spread .spread
      | .pass =>
        match wantedRow d plan.rows 0 with
        | none => p.specialRoute plan.reject .reject
        | some (n, r) => p.rowRoute plan n r := by
  simp only [Part.decision, base]
  rfl

end

section
variable {plan : Plan} {hasSecond : Bool} {second : Option Reading} {d : Int}

theorem spreadCheck_of_not_applied (h : ¬ (plan.spreadCheck = true ∧ hasSecond = true)) :
    spreadCheck plan hasSecond second d = .pass := if_neg (by simpa using h)

theorem spreadCheck_applied (h : plan.spreadCheck = true ∧ hasSecond = true) :
    spreadCheck plan hasSecond second d =
      if entryHas second .good then
        if (((second.bind Reading.deviation).getD 0) - d).natAbs ≤ plan.spreadLimit then .pass else .failSpread
      else .failSecond := by
  rw [← entryDeviation_eq]
  exact if_pos (by simpa using h)

end

theorem Part.decidePocket_of_carry {p : Part} {k : Nat} {x : PartRecord} {plan : Plan} (carry : p.pocket k = .carry x)
    (named : p.planOf x.slot = some plan) :
    p.decidePocket k = (p.decision plan x.readings).1.setPocket k (.routed x (p.decision plan x.readings).2) := by
  simp only [Part.decidePocket, carry, named]

theorem Part.decidePocket_of_not_carry {p : Part} {k : Nat} (h : (p.pocket k).isCarry = false) : p.decidePocket k = p := by
  unfold Part.decidePocket
  cases pocket : p.pocket k with
  | carry x => simp [pocket, Pocket.isCarry] at h
  | _ => rfl

/-- The dial that a decision leaves is that of the part. -/
theorem Part.decidePocket_eq {p : Part} {k : Nat} {x : PartRecord} {plan : Plan} (carry : p.pocket k = .carry x)
    (named : p.planOf x.slot = some plan) :
    p.decidePocket k =
      { (p.decision plan x.readings).1 with
        dt := { p.dt with pockets := p.dt.pockets.set k (.routed x (p.decision plan x.readings).2) } } := by
  have dt : (p.decision plan x.readings).1.dt = p.dt := by simp
  rw [Part.decidePocket_of_carry carry named, Part.setPocket, dt]

/-- Settles O59. -/
theorem decisionReadsWalksAndClaims : Obligations.DecisionReadsWalksAndClaims := by
  refine ⟨fun primary backup => ?base, fun d rows => ⟨wantedRow_eq_none_iff d rows 0, fun n r h => ?row⟩,
    fun p candidates => ?claim, fun p plan rs d n r base spread row => ?wanted, fun p k x plan carry named => ?pocket,
    fun p plan rs => ?decision, fun p k dwell st => ?item⟩
  case base =>
    intro has value
    have values : ∀ e, value e = .measured (entryDeviation e) := fun e => by rw [entryDeviation_eq]
    simp only [has, values, ← entryHas_iff]
    exact baseReading_spec primary backup
  case row =>
    obtain ⟨-, found, low, high, earlier⟩ := wantedRow_some h
    exact ⟨found, low, high, earlier⟩
  case claim =>
    intro takes
    simp only [takes, ← BinEntry.canTake_iff]
    refine ⟨fun none => ?_, fun a n b same refused taken => ?_⟩
    · simp only [Part.routeClaim, Part.firstTaking_eq_none none]
    · have first := Part.firstTaking_append (b := b) refused taken 0
      simp only [Part.routeClaim, same, first, Nat.zero_add]
      rfl
  case wanted =>
    have pass : spreadCheck plan p.hasSecond (p.entryOfRole rs .second) d = .pass := by
      by_cases applied : plan.spreadCheck = true ∧ p.hasSecond = true
      · obtain ⟨g, geometry, role⟩ := p.hasSecond_iff.mp applied.2
        obtain ⟨e, entry, good, within⟩ := spread applied.1 g geometry role
        rw [spreadCheck_applied applied, if_pos (entryHas_iff.mpr ⟨e, entry, good⟩), entry]
        exact if_pos within
      · exact spreadCheck_of_not_applied applied
    have decided : p.decision plan rs = p.rowRoute plan n r := by rw [Part.decision_of_measured base, pass, row]
    intro claim
    rw [decided, p.rowRoute_eq plan n r]
    exact ⟨rfl, rfl, rfl⟩
  case pocket =>
    have inside : k < p.dt.pockets.length := Part.pocket_lt (by simp [carry])
    rw [Part.decidePocket_of_carry carry named, Part.pocket_setPocket]
    exact if_pos ⟨rfl, by simpa using inside⟩
  case decision =>
    intro base applied second good spread ends
    have special : ∀ bin reason, p.decision plan rs = p.specialRoute bin reason → ends bin reason := fun bin reason h => by
      simp only [ends, h]
      exact p.specialRoute_eq bin reason
    have isApplied : applied ↔ plan.spreadCheck = true ∧ p.hasSecond = true := by rw [p.hasSecond_iff]
    have isGood : good ↔ entryHas second .good = true := entryHas_iff.symm
    refine ⟨fun none => special _ _ (Part.decision_of_none none),
      fun out => special _ _ (Part.decision_of_overRange out), fun d measured => ?_⟩
    have decided := Part.decision_of_measured (plan := plan) measured
    refine ⟨fun a bad => special _ _ ?_, fun a well wide => special _ _ ?_, fun pass => ?_⟩
    · rw [decided, spreadCheck_applied (isApplied.mp a), if_neg (isGood.not.mp bad)]
    · rw [decided, spreadCheck_applied (isApplied.mp a), if_pos (isGood.mp well), if_neg (Nat.not_le.mpr wide)]
    · have passes : spreadCheck plan p.hasSecond (p.entryOfRole rs .second) d = .pass := by
        by_cases a : applied
        · obtain ⟨well, narrow⟩ := pass.resolve_left (not_not_intro a)
          rw [spreadCheck_applied (isApplied.mp a), if_pos (isGood.mp well), if_pos narrow]
        · exact spreadCheck_of_not_applied (isApplied.not.mp a)
      rw [passes] at decided
      refine ⟨fun none => special _ _ ?_, fun n r row => ?_⟩
      · rw [decided, none]
      · intro claim
        rw [decided, row]
        exact p.rowRoute_eq plan n r
  case item =>
    intro i done
    refine ⟨fun other => ⟨?_, Part.decidePocket_of_not_carry other⟩, fun x plan carry named => ?_⟩
    · change (p.decidePocket k).completeItem .decision p.dt.dwell = _
      rw [Part.decidePocket_of_not_carry other]
      exact if_pos rfl
    · intro d decided
      refine ⟨?_, Part.decidePocket_eq carry named⟩
      change (p.decidePocket k).completeItem .decision p.dt.dwell = _
      rw [Part.decidePocket_eq carry named]
      exact if_pos rfl

end Sys2Proof.Machine
end

section
/-! The checks of a plan image (R80), and the end of a staging. -/

namespace Sys2Proof.Machine

/-! ## The first check that fails -/

theorem firstFailing_append {a l : List (Nat × Bool)} (h : ∀ x ∈ a, x.2 = true) :
    firstFailing (a ++ l) = firstFailing l := by
  induction a with
  | nil => rfl
  | cons x rest ih =>
    obtain ⟨first, others⟩ := List.forall_mem_cons.mp h
    rw [List.cons_append, firstFailing, if_pos first, ih others]

theorem firstFailing_eq_none_iff {l : List (Nat × Bool)} : firstFailing l = none ↔ ∀ x ∈ l, x.2 = true := by
  induction l with
  | nil => simp [firstFailing]
  | cons x rest ih =>
    rw [firstFailing, List.forall_mem_cons]
    cases ok : x.2 with
    | false => simp
    | true => rw [if_pos rfl, ih, and_iff_right rfl]

theorem firstFailing_of_fails {l : List (Nat × Bool)} (a : List (Nat × Bool)) (code : Nat) (rest : List (Nat × Bool))
    (same : l = a ++ (code, false) :: rest) (passes : ∀ x ∈ a, x.2 = true) : firstFailing l = some code := by
  rw [same, firstFailing_append passes]
  rfl

/-! ## The checks of one row (R80, checks 6 to 11) -/

namespace Image

/-- Alternate `i` of row `r`. -/
def alternate (b : List Byte) (r i : Nat) : Nat := fieldAt b (42 + i + 16 * r) 1

/-- Check 6: both bounds of the window lie in the deviation range. -/
def rangeOk (b : List Byte) (r : Nat) : Prop :=
  (signedAt b (32 + 16 * r)).natAbs ≤ 9999999 ∧ (signedAt b (36 + 16 * r)).natAbs ≤ 9999999

/-- Check 7: the window is not empty. -/
def orderOk (b : List Byte) (r : Nat) : Prop := signedAt b (32 + 16 * r) ≤ signedAt b (36 + 16 * r)

/-- Check 10: every alternate names a bin. -/
def alternatesOk (gates : Nat) (b : List Byte) (r : Nat) : Prop :=
  ∀ i, i < alternateCount b r → alternate b r i < gates

/-- Check 11: the target and the alternates are distinct. -/
def distinctOk (b : List Byte) (r : Nat) : Prop :=
  (∀ i, i < alternateCount b r → alternate b r i ≠ target b r) ∧
    (alternateCount b r = 2 → alternate b r 0 ≠ alternate b r 1)

/-- The row passes every check. -/
def rowOk (gates : Nat) (b : List Byte) (r : Nat) : Prop :=
  rangeOk b r ∧ orderOk b r ∧ target b r < gates ∧ alternateCount b r ≤ 2 ∧ alternatesOk gates b r ∧ distinctOk b r

theorem alternates_eq (b : List Byte) (r : Nat) :
    alternates b r = [alternate b r 0, alternate b r 1].take (alternateCount b r) := rfl

theorem alternates_length_le (b : List Byte) (r : Nat) : (alternates b r).length ≤ 2 := by
  rw [alternates_eq, List.length_take]
  exact Nat.min_le_right _ _

theorem forall_alternates {b : List Byte} {r : Nat} (few : alternateCount b r ≤ 2) (f : Nat → Prop) :
    (∀ n ∈ alternates b r, f n) ↔ ∀ i, i < alternateCount b r → f (alternate b r i) := by
  rw [alternates_eq]
  obtain none | one | two : alternateCount b r = 0 ∨ alternateCount b r = 1 ∨ alternateCount b r = 2 := by omega
  · simp [none]
  · simp [one]
  · rw [two]
    constructor
    · intro each i hi
      obtain rfl | rfl : i = 0 ∨ i = 1 := by omega
      · exact each _ (by simp)
      · exact each _ (by simp)
    · intro each n hn
      obtain rfl | rfl : n = alternate b r 0 ∨ n = alternate b r 1 := by simpa using hn
      · exact each 0 (by omega)
      · exact each 1 (by omega)

theorem nodup_alternates_iff {b : List Byte} {r : Nat} (few : alternateCount b r ≤ 2) :
    (alternates b r).Nodup ↔ (alternateCount b r = 2 → alternate b r 0 ≠ alternate b r 1) := by
  rw [alternates_eq]
  obtain none | one | two : alternateCount b r = 0 ∨ alternateCount b r = 1 ∨ alternateCount b r = 2 := by omega
  · simp [none]
  · simp [one]
  · simp [two]

end Image

section
variable (gates : Nat) (b : List Byte) (r : Nat)

/-- The checks of a row with their codes (R80). -/
def rowChecks : List (Nat × Bool) :=
  [(6, windowBoundOk (Image.low b r) && windowBoundOk (Image.high b r)),
   (7, decide (Image.low b r ≤ Image.high b r)),
   (8, decide (Image.target b r < gates)),
   (9, decide (Image.alternateCount b r ≤ 2)),
   (10, (Image.alternates b r).all (fun n => n < gates)),
   (11, !(Image.alternates b r).contains (Image.target b r) && decide (Image.alternates b r).Nodup)]

theorem rowCheck_eq : rowCheck gates b r = firstFailing (rowChecks gates b r) := rfl

theorem windowBoundsOk_iff :
    (windowBoundOk (Image.low b r) && windowBoundOk (Image.high b r)) = true ↔ Image.rangeOk b r := by
  rw [Bool.and_eq_true, windowBoundOk, windowBoundOk, decide_eq_true_iff, decide_eq_true_iff]
  rfl

variable {gates b r}

theorem alternatesBelow_iff (few : Image.alternateCount b r ≤ 2) :
    (Image.alternates b r).all (fun n => n < gates) = true ↔ Image.alternatesOk gates b r := by
  simp only [List.all_eq_true, decide_eq_true_eq]
  exact Image.forall_alternates few _

theorem alternatesDistinct_iff (few : Image.alternateCount b r ≤ 2) :
    (!(Image.alternates b r).contains (Image.target b r) && decide (Image.alternates b r).Nodup) = true ↔
      Image.distinctOk b r := by
  have apart : (!(Image.alternates b r).contains (Image.target b r)) = true ↔
      ∀ n ∈ Image.alternates b r, n ≠ Image.target b r := by
    simp only [Bool.not_eq_true', List.contains_eq_mem, decide_eq_false_iff_not]
    exact ⟨fun h n hn same => h (same ▸ hn), fun h hn => h _ hn rfl⟩
  rw [Bool.and_eq_true, apart, decide_eq_true_iff, Image.forall_alternates few, Image.nodup_alternates_iff few]
  rfl

theorem rowCheck_eq_none_iff : rowCheck gates b r = none ↔ Image.rowOk gates b r := by
  simp only [rowCheck_eq, firstFailing_eq_none_iff, rowChecks, List.forall_mem_cons, windowBoundsOk_iff,
    decide_eq_true_iff, List.not_mem_nil, false_implies, implies_true, and_true]
  unfold Image.rowOk
  refine and_congr_right' (and_congr_right' (and_congr_right' (and_congr_right fun few => ?_)))
  rw [alternatesBelow_iff few, alternatesDistinct_iff few]

/-- The code of the first check of a row that fails. -/
theorem rowCheck_of_fails :
    (¬ Image.rangeOk b r → rowCheck gates b r = some 6) ∧
      (Image.rangeOk b r → ¬ Image.orderOk b r → rowCheck gates b r = some 7) ∧
      (Image.rangeOk b r → Image.orderOk b r → ¬ Image.target b r < gates → rowCheck gates b r = some 8) ∧
      (Image.rangeOk b r → Image.orderOk b r → Image.target b r < gates → 2 < Image.alternateCount b r →
        rowCheck gates b r = some 9) ∧
      (Image.rangeOk b r → Image.orderOk b r → Image.target b r < gates → Image.alternateCount b r ≤ 2 →
        ¬ Image.alternatesOk gates b r → rowCheck gates b r = some 10) ∧
      (Image.rangeOk b r → Image.orderOk b r → Image.target b r < gates → Image.alternateCount b r ≤ 2 →
        Image.alternatesOk gates b r → ¬ Image.distinctOk b r → rowCheck gates b r = some 11) := by
  have order : decide (Image.low b r ≤ Image.high b r) = true ↔ Image.orderOk b r := decide_eq_true_iff
  have failed : ∀ {x : Bool} {P : Prop}, (x = true ↔ P) → ¬ P → x = false := fun same h =>
    Bool.not_eq_true _ ▸ same.not.mpr h
  rw [rowCheck_eq, rowChecks]
  refine ⟨fun range => ?_, fun range bad => ?_, fun range ordered bad => ?_, fun range ordered target many => ?_,
    fun range ordered target few bad => ?_, fun range ordered target few alternates bad => ?_⟩
  · rw [failed (windowBoundsOk_iff b r) range]
    rfl
  all_goals rw [(windowBoundsOk_iff b r).mpr range]
  · rw [failed order bad]
    rfl
  all_goals rw [order.mpr ordered]
  · rw [decide_eq_false bad]
    rfl
  all_goals rw [decide_eq_true target]
  · rw [decide_eq_false (Nat.not_le.mpr many)]
    rfl
  all_goals rw [decide_eq_true few]
  · rw [failed (alternatesBelow_iff few) bad]
    rfl
  · rw [(alternatesBelow_iff few).mpr alternates, failed (alternatesDistinct_iff few) bad]
    rfl

/-! ## The rows in order -/

theorem firstFailingRow_eq_none_iff {n : Nat} :
    firstFailingRow gates b n r = none ↔ ∀ x, x < n → Image.rowOk gates b (r + x) := by
  induction n generalizing r with
  | zero => simp [firstFailingRow]
  | succ n ih =>
    rw [firstFailingRow]
    cases first : rowCheck gates b r with
    | some code =>
      refine iff_of_false (by simp) fun each => ?_
      have row : Image.rowOk gates b r := each 0 (by omega)
      rw [rowCheck_eq_none_iff.mpr row] at first
      cases first
    | none =>
      rw [ih]
      constructor
      · intro each x hx
        cases x with
        | zero => exact rowCheck_eq_none_iff.mp first
        | succ x => simpa [Nat.add_assoc, Nat.add_comm 1 x] using each x (by omega)
      · intro each x hx
        simpa [Nat.add_assoc, Nat.add_comm 1 x] using each (x + 1) (by omega)

theorem firstFailingRow_of_fails {n x code : Nat} (inside : x < n) (earlier : ∀ y, y < x → Image.rowOk gates b (r + y))
    (fails : rowCheck gates b (r + x) = some code) : firstFailingRow gates b n r = some (r + x, code) := by
  induction n generalizing r x with
  | zero => omega
  | succ n ih =>
    rw [firstFailingRow]
    cases x with
    | zero => simp only [Nat.add_zero] at fails ⊢; rw [fails]
    | succ x =>
      have row : Image.rowOk gates b r := earlier 0 (by omega)
      rw [rowCheck_eq_none_iff.mpr row]
      have next : r + (x + 1) = r + 1 + x := by omega
      rw [next] at fails ⊢
      refine ih (by omega) (fun y hy => ?_) fails
      have later := earlier (y + 1) (by omega)
      rwa [show r + (y + 1) = r + 1 + y by omega] at later

end

/-! ## The checks of the header (R80, checks 1 to 5) -/

/-- The gates that a geometry holds; none without one. -/
def gatesOf (geometry : Option Geometry) : Nat := (geometry.map (fun g => g.gates.length)).getD 0

namespace Image

/-- A special bin field names a bin, or none. -/
def specialOk (gates n : Nat) : Prop := n = 255 ∨ n < gates

def countOk (b : List Byte) : Prop := 1 ≤ rowCount b ∧ rowCount b ≤ 48

def extentOk (address : Nat) (b : List Byte) : Prop := address + 32 + 16 * rowCount b ≤ 0x200000

def specialsOk (gates : Nat) (b : List Byte) : Prop :=
  specialOk gates (fieldAt b 5 1) ∧ specialOk gates (fieldAt b 6 1) ∧ specialOk gates (fieldAt b 7 1) ∧
    specialOk gates (fieldAt b 8 1)

def spreadOk (b : List Byte) : Prop := fieldAt b 9 1 % 2 = 1 → 1 ≤ fieldAt b 12 4 ∧ fieldAt b 12 4 ≤ 9999999

end Image

/-- The checks of the header with their codes (R80). -/
def headerChecks (geometry : Option Geometry) (address : Nat) (b : List Byte) : List (Nat × Bool) :=
  let gates := gatesOf geometry
  [(1, imageCountOk b), (2, imageExtentOk address b), (3, geometry.isSome),
   (4, binFieldOk gates (Image.reject b) && binFieldOk gates (Image.fail b) && binFieldOk gates (Image.spread b) &&
     binFieldOk gates (Image.overflow b)),
   (5, !Image.spreadCheck b || decide (1 ≤ Image.spreadLimit b ∧ Image.spreadLimit b ≤ maxDeviation))]

theorem imageFailure_eq (geometry : Option Geometry) (address : Nat) (b : List Byte) :
    imageFailure geometry address b =
      match firstFailing (headerChecks geometry address b) with
      | some code => some (255, code)
      | none => firstFailingRow (gatesOf geometry) b (Image.rowCount b) 0 := by
  cases geometry <;> rfl

theorem binFieldOk_binOfCode {gates n : Nat} : binFieldOk gates (Image.binOfCode n) = true ↔ Image.specialOk gates n := by
  unfold Image.binOfCode Image.specialOk
  split
  · next absent => simp [binFieldOk, absent]
  · next named => simp [binFieldOk, named]

theorem specialsOk_iff {gates : Nat} {b : List Byte} :
    (binFieldOk gates (Image.reject b) && binFieldOk gates (Image.fail b) && binFieldOk gates (Image.spread b) &&
      binFieldOk gates (Image.overflow b)) = true ↔ Image.specialsOk gates b := by
  simp only [Bool.and_eq_true, Image.reject, Image.fail, Image.spread, Image.overflow, binFieldOk_binOfCode, and_assoc]
  rfl

theorem spreadOk_iff {b : List Byte} :
    (!Image.spreadCheck b || decide (1 ≤ Image.spreadLimit b ∧ Image.spreadLimit b ≤ maxDeviation)) = true ↔
      Image.spreadOk b := by
  rw [Bool.or_eq_true, decide_eq_true_iff, Bool.not_eq_true', ← Bool.not_eq_true, ← imp_iff_not_or]
  simp only [Image.spreadCheck, beq_iff_eq]
  rfl

theorem imageCountOk_iff {b : List Byte} : imageCountOk b = true ↔ Image.countOk b := decide_eq_true_iff

theorem imageExtentOk_iff {address : Nat} {b : List Byte} :
    imageExtentOk address b = true ↔ Image.extentOk address b := by
  rw [imageExtentOk, decide_eq_true_iff, Image.extentOk, Image.length, Nat.add_assoc]

/-- The header passes every check. -/
def Image.headerOk (geometry : Option Geometry) (address : Nat) (b : List Byte) : Prop :=
  Image.countOk b ∧ Image.extentOk address b ∧ geometry ≠ none ∧ Image.specialsOk (gatesOf geometry) b ∧ Image.spreadOk b

section
variable {geometry : Option Geometry} {address : Nat} {b : List Byte}

theorem headerChecks_pass : firstFailing (headerChecks geometry address b) = none ↔ Image.headerOk geometry address b := by
  simp only [firstFailing_eq_none_iff, headerChecks, List.forall_mem_cons, imageCountOk_iff, imageExtentOk_iff,
    specialsOk_iff, spreadOk_iff, Option.isSome_iff_ne_none, List.not_mem_nil, false_implies, implies_true, and_true]
  rfl

/-- The code of the first check of the header that fails. -/
theorem imageFailure_of_header :
    (¬ Image.countOk b → imageFailure geometry address b = some (255, 1)) ∧
      (Image.countOk b → ¬ Image.extentOk address b → imageFailure geometry address b = some (255, 2)) ∧
      (Image.countOk b → Image.extentOk address b → geometry = none → imageFailure geometry address b = some (255, 3)) ∧
      (Image.countOk b → Image.extentOk address b → geometry ≠ none → ¬ Image.specialsOk (gatesOf geometry) b →
        imageFailure geometry address b = some (255, 4)) ∧
      (Image.countOk b → Image.extentOk address b → geometry ≠ none → Image.specialsOk (gatesOf geometry) b →
        ¬ Image.spreadOk b → imageFailure geometry address b = some (255, 5)) := by
  have failed : ∀ {x : Bool} {P : Prop}, (x = true ↔ P) → ¬ P → x = false := fun same h =>
    Bool.not_eq_true _ ▸ same.not.mpr h
  rw [imageFailure_eq, headerChecks]
  refine ⟨fun bad => ?_, fun count bad => ?_, fun count extent bad => ?_, fun count extent held bad => ?_,
    fun count extent held specials bad => ?_⟩
  · rw [failed imageCountOk_iff bad]
    rfl
  all_goals rw [imageCountOk_iff.mpr count]
  · rw [failed imageExtentOk_iff bad]
    rfl
  all_goals rw [imageExtentOk_iff.mpr extent]
  · rw [bad]
    rfl
  all_goals rw [Option.isSome_iff_ne_none.mpr held]
  · rw [failed specialsOk_iff bad]
    rfl
  · rw [specialsOk_iff.mpr specials, failed spreadOk_iff bad]
    rfl

theorem imageFailure_of_headerOk (h : Image.headerOk geometry address b) :
    imageFailure geometry address b = firstFailingRow (gatesOf geometry) b (Image.rowCount b) 0 := by
  rw [imageFailure_eq, headerChecks_pass.mpr h]

/-- An image passes exactly where its header and every row do. -/
theorem imageFailure_eq_none_iff :
    imageFailure geometry address b = none ↔
      Image.headerOk geometry address b ∧ ∀ r, r < Image.rowCount b → Image.rowOk (gatesOf geometry) b r := by
  by_cases header : Image.headerOk geometry address b
  · rw [imageFailure_of_headerOk header, firstFailingRow_eq_none_iff, and_iff_right header]
    simp only [Nat.zero_add]
  · refine iff_of_false ?_ fun h => header h.1
    rw [imageFailure_eq]
    cases fails : firstFailing (headerChecks geometry address b) with
    | none => exact absurd (headerChecks_pass.mp fails) header
    | some code => simp

theorem imageFailure_of_row (header : Image.headerOk geometry address b) {r code : Nat} (inside : r < Image.rowCount b)
    (earlier : ∀ x, x < r → Image.rowOk (gatesOf geometry) b x) (fails : rowCheck (gatesOf geometry) b r = some code) :
    imageFailure geometry address b = some (r, code) := by
  have row := firstFailingRow_of_fails (r := 0) inside (by simpa using earlier) (by simpa using fails)
  rw [imageFailure_of_headerOk header, row, Nat.zero_add]

end

/-! ## The end of a staging (R80) -/

theorem exec_planStagingEnd {s : State} {w : Staging} (staging : s.part.ps.staging = some w)
    (whole : w.data.length =
      if 1 ≤ fieldAt w.data 4 1 ∧ fieldAt w.data 4 1 ≤ 48 ∧ w.address + 32 + 16 * fieldAt w.data 4 1 ≤ 0x200000 then
        32 + 16 * fieldAt w.data 4 1
      else 32) :
    exec .planStagingEnd s = .next { s with part := Part.commit s.part (s.part.endStaging w) } := by
  have complete : w.complete = true := by
    simp only [Staging.complete, imageRowsRead_iff]
    split at whole
    · next read => rw [if_pos read, whole]; exact beq_self_eq_true _
    · next header => rw [if_neg header, whole]; rfl
  have granted : s.part.stagingComplete = some w := by
    simp only [Part.stagingComplete, staging, complete, if_true]
  simp only [exec, execPlanStagingEnd, granted]
  rfl

/-- The slot holds what the staging has made of it, and the EVENT is handed on. -/
def Part.staged (p : Part) (w : Staging) (state : SlotState) (plan : Option Plan) (e : Event) : Part :=
  let q : Part := { p with ps := { p.ps with staging := none } }
  (q.setSlot w.slot { q.ps.slot w.slot with state, plan }).event e

theorem Part.endStaging_passes {p : Part} {w : Staging} (passes : imageFailure p.dt.geometry w.address w.data = none) :
    p.endStaging w =
      (p.staged w .staged (some (Image.plan w.data))
        (.planStaged w.slot .ok (fieldAt w.data 0 4) (fieldAt w.data 4 1) 0 0)).endRequest
          { code := .ok, word := fieldAt w.data 0 4 } := by
  simp only [Part.endStaging, passes]
  rfl

theorem Part.endStaging_fails {p : Part} {w : Staging} {location code : Nat}
    (fails : imageFailure p.dt.geometry w.address w.data = some (location, code)) :
    p.endStaging w =
      (p.staged w .empty none
        (.planStaged w.slot .planInvalid (fieldAt w.data 0 4) (fieldAt w.data 4 1) location code)).endRequest
          { code := .planInvalid, word := location + 256 * code } := by
  simp only [Part.endStaging, fails]
  rfl

theorem Part.staged_ps (p : Part) (w : Staging) (state : SlotState) (plan : Option Plan) (e : Event) :
    (p.staged w state plan e).ps =
      ({ p.ps with staging := none } : Ps).setSlot w.slot { p.ps.slot w.slot with state, plan } := by
  simp [Part.staged, Ps.slot_staging]

theorem Part.handed_staged (p : Part) (w : Staging) (state : SlotState) (plan : Option Plan) (e : Event) :
    Part.handed p (p.staged w state plan e) [.event e] :=
  Part.handed_of_left (by simp) (Part.handed_event _ _)

section
variable (p : Part) (w : Staging) (state : SlotState) (plan : Option Plan) (e : Event) (r : Result)

/-- What every end of a staging leaves. -/
theorem Part.commit_staged :
    Part.keepsBut [.plans, .requests, .journal, .queues] p (Part.commit p ((p.staged w state plan e).endRequest r)) ∧
      (∀ y, y ≠ w.slot → (Part.commit p ((p.staged w state plan e).endRequest r)).ps.slot y = p.ps.slot y) ∧
      (Part.commit p ((p.staged w state plan e).endRequest r)).ps.loadSlot = p.ps.loadSlot ∧
      (Part.commit p ((p.staged w state plan e).endRequest r)).ps.pendingSwitch = p.ps.pendingSwitch ∧
      (Part.commit p ((p.staged w state plan e).endRequest r)).ps.staging = none ∧
      (Part.commit p ((p.staged w state plan e).endRequest r)).ps.slot w.slot =
        { p.ps.slot w.slot with state, plan } ∧
      Part.ended p (Part.commit p ((p.staged w state plan e).endRequest r)) r ∧
      Part.handed p (Part.commit p ((p.staged w state plan e).endRequest r)) [.event e] := by
  have ps : (Part.commit p ((p.staged w state plan e).endRequest r)).ps =
      ({ p.ps with staging := none } : Ps).setSlot w.slot { p.ps.slot w.slot with state, plan } := by
    simp only [Part.commit_blocks, Part.endRequest_keeps, Part.staged_ps]
  rw [ps]
  obtain ⟨load, switch, staging⟩ := Ps.setSlot_others { p.ps with staging := none } w.slot
    { p.ps.slot w.slot with state, plan }
  refine ⟨Part.keepsBut_commit fun x hx => ?_,
    fun y hy => (Ps.slot_setSlot_ne _ _ hy).trans (Ps.slot_staging _ _ _), load, switch, staging,
    Ps.slot_setSlot_self _ _ _, Part.ended_endRequest p r (by simp [Part.staged]) (by simp [Part.staged]),
    Part.handed_commit p (Part.handed_of_right (p.handed_staged w state plan e) (by simp) (by simp [Part.indexCount]))⟩
  cases x <;> simp [Region.same, Part.staged] at hx ⊢

end

/-- Settles O45. -/
theorem stagingEndsWithTheChecks : Obligations.StagingEndsWithTheChecks := by
  refine ⟨fun s w staging whole => ?staging, fun geometry a b => ?failure, fun g a b passes => ?passes, fun a b => ?none⟩
  case staging =>
    intro id rows
    refine ⟨_, exec_planStagingEnd staging whole, ⟨rfl, rfl, rfl⟩, ?_⟩
    cases failure : imageFailure s.part.dt.geometry w.address w.data with
    | none =>
      rw [Part.endStaging_passes failure]
      obtain ⟨kept, others, load, switch, staged, slot, ended, handed⟩ :=
        s.part.commit_staged w .staged (some (Image.plan w.data))
          (.planStaged w.slot .ok (fieldAt w.data 0 4) (fieldAt w.data 4 1) 0 0)
          { code := .ok, word := fieldAt w.data 0 4 }
      refine ⟨kept, others, load, switch, staged, by rw [slot], fun _ => ⟨by rw [slot], by rw [slot], ended, handed⟩,
        fun location code h => ?_⟩
      cases h
    | some found =>
      obtain ⟨location, code⟩ := found
      rw [Part.endStaging_fails failure]
      obtain ⟨kept, others, load, switch, staged, slot, ended, handed⟩ :=
        s.part.commit_staged w .empty none
          (.planStaged w.slot .planInvalid (fieldAt w.data 0 4) (fieldAt w.data 4 1) location code)
          { code := .planInvalid, word := location + 256 * code }
      refine ⟨kept, others, load, switch, staged, by rw [slot], fun h => ?_, fun location' code' h => ?_⟩
      · cases h
      · obtain ⟨rfl, rfl⟩ := Prod.mk.inj (Option.some.inj h)
        exact ⟨by rw [slot], by rw [slot], ended, handed⟩
  case failure =>
    intro failure rows bin special countOk extentOk specialOk spreadOk headerOk range order target count alternate
      alternatesOk distinct rowOk
    obtain ⟨badCount, badExtent, noGeometry, badSpecial, badSpread⟩ :=
      imageFailure_of_header (geometry := geometry) (address := a) (b := b)
    refine ⟨imageFailure_eq_none_iff, badCount, badExtent, noGeometry, badSpecial, badSpread,
      fun header r inside earlier => ?_⟩
    obtain ⟨f6, f7, f8, f9, f10, f11⟩ := rowCheck_of_fails (gates := gatesOf geometry) (b := b) (r := r)
    have fails : ∀ code, rowCheck (gatesOf geometry) b r = some code → failure = some (r, code) := fun code h =>
      imageFailure_of_row header inside earlier h
    exact ⟨fun bad => fails 6 (f6 bad), fun h bad => fails 7 (f7 h bad), fun h o bad => fails 8 (f8 h o bad),
      fun h o t bad => fails 9 (f9 h o t bad), fun h o t c bad => fails 10 (f10 h o t c bad),
      fun h o t c x bad => fails 11 (f11 h o t c x bad)⟩
  case passes =>
    intro bin special
    obtain ⟨⟨⟨low, high⟩, extent, -, ⟨reject, fail, spread, overflow⟩, limit⟩, rows⟩ := imageFailure_eq_none_iff.mp passes
    refine ⟨low, high, extent, reject, fail, spread, overflow, limit, fun r inside => ?_⟩
    intro row
    obtain ⟨⟨lowIn, highIn⟩, order, target, few, alternates, apart, distinct⟩ := rows r inside
    refine ⟨lowIn, highIn, order, target, Image.alternates_length_le b r, ?_, (Image.nodup_alternates_iff few).mpr distinct⟩
    exact (Image.forall_alternates few _).mpr fun i hi => ⟨alternates i hi, apart i hi⟩
  case none =>
    intro passes
    obtain ⟨⟨-, -, held, -⟩, -⟩ := imageFailure_eq_none_iff.mp passes
    exact held rfl

end Sys2Proof.Machine
end

section
/-! The direct lines (R185 to R187). -/

namespace Sys2Proof.Machine

theorem Lines.get_set_self (x : Lines) (l : LineId) (v : Line) : (x.set l v).get l = v := by cases l <;> rfl

theorem Lines.set_set (x : Lines) (l : LineId) (v w : Line) : (x.set l v).set l w = x.set l w := by cases l <;> rfl

theorem Part.setLine_setLine (p : Part) (l : LineId) (v w : Line) : (p.setLine l v).setLine l w = p.setLine l w := by
  simp only [Part.setLine, Lines.set_set]

theorem Part.setLine_same (p : Part) (l : LineId) (v : Line) :
    { p.setLine l v with lct := { (p.setLine l v).lct with lines := p.lct.lines } } = p := rfl

/-- A line's stable value changes from that of `v`, and the change is handed on. -/
def Part.turnLine (p : Part) (l : LineId) (v : Line) : Part :=
  (p.setLine l { v with stable := !v.stable, debounce := .settled }).handLine l (!v.stable)

theorem Part.changeStable_eq (p : Part) (l : LineId) : p.changeStable l = p.turnLine l (p.lct.lines.get l) := rfl

section
variable {p : Part} {l : LineId} {v : Line}

theorem Part.turnLine_of_stable (h : v.stable = true ∨ l = .loadEye ∨ l = .clearEye) :
    p.turnLine l v = p.setLine l { v with stable := !v.stable, debounce := .settled } := by
  rcases h with stable | rfl | rfl
  · cases l <;> simp [Part.turnLine, Part.handLine, stable]
  · rfl
  · rfl

theorem Part.turnLine_index (h : v.stable = false) :
    p.turnLine .index v = (p.setLine .index { v with stable := !v.stable, debounce := .settled }).index := by
  simp [Part.turnLine, Part.handLine, h]

theorem Part.turnLine_placed (h : v.stable = false) :
    p.turnLine .placed v = (p.setLine .placed { v with stable := !v.stable, debounce := .settled }).placed := by
  simp [Part.turnLine, Part.handLine, h]

theorem Part.turnLine_cause (h : v.stable = false) (line : l = .door ∨ l = .air) :
    p.turnLine l v =
      (p.setLine l { v with stable := !v.stable, debounce := .settled }).raiseHold
        (if l = .door then .door else .air) := by
  rcases line with rfl | rfl <;> simp [Part.turnLine, Part.handLine, h]

@[simp] theorem Part.turnLine_lines :
    (p.turnLine l v).lct.lines = (p.setLine l { v with stable := !v.stable, debounce := .settled }).lct.lines ∧
      (p.turnLine l v).lct.chain = p.lct.chain := by
  cases l <;> cases stable : v.stable <;> simp [Part.turnLine, Part.handLine, stable]

end

theorem Part.keepsBut_setLine (p : Part) (l : LineId) (v : Line) :
    Part.keepsBut [.lines] p (Part.commit p (p.setLine l v)) := by
  refine Part.keepsBut_commit fun r hr => ?_
  cases r <;> simp [Region.same, Part.setLine, Sa.follows_refl] at hr ⊢

/-- What a change of a line's stable value brings, by the line (R187). -/
theorem Part.commit_turnLine (p : Part) (l : LineId) (v : Line) :
    let q := p.setLine l { v with stable := !v.stable, debounce := .settled }
    let t := Part.commit p (p.turnLine l v)
    t.lct.lines = q.lct.lines ∧ t.lct.chain = p.lct.chain ∧
      (v.stable = true ∨ l = .loadEye ∨ l = .clearEye → Part.keepsBut [.lines] p t) ∧
      (v.stable = false → l = .index → t = Part.commit p q.index) ∧
      (v.stable = false → l = .placed → t = Part.commit p q.placed) ∧
      (v.stable = false → l = .door ∨ l = .air →
        let c : HoldCause := if l = .door then .door else .air
        (p.lsq.engine.inLot = false → Part.keepsBut [.lines] p t) ∧
          (p.lsq.engine.inLot = true →
            t.lsq = p.lsq.raised c ∧
              t.lct.timers = { p.lct.timers with jam := t.lct.timers.jam, starvation := p.starvationOn .hold } ∧
              Part.handed p t (p.holdBodies c) ∧ Part.keepsBut [.lots, .journal, .lines, .timers] p t)) := by
  intro q t
  refine ⟨by simp [t, q], by simp [t], fun h => ?_, fun h line => ?_, fun h line => ?_, fun h line => ?_⟩
  · simp only [t, Part.turnLine_of_stable h]
    exact p.keepsBut_setLine l _
  · subst line
    simp only [t, Part.turnLine_index h, q]
  · subst line
    simp only [t, Part.turnLine_placed h, q]
  · intro c
    have turned : t = Part.commit p (q.raiseHold c) := by simp only [t, Part.turnLine_cause h line, q, c]
    rw [turned]
    refine ⟨fun noLot => ?_, fun inLot => ⟨?_, ?_, ?_, Part.keepsBut_commit fun r hr => ?_⟩⟩
    · have none : q.raiseHold c = q := Part.raiseHold_of_noLot c noLot
      rw [none]
      exact p.keepsBut_setLine l _
    · simp only [Part.commit_blocks, Part.raiseHold_lsq]
      rfl
    · rw [Part.commit_timers_eq, Part.raiseHold_timers, Part.starvationOn_hold]
      rfl
    · exact Part.handed_commit p (Part.handed_of_left (p := p) (q := q) rfl (q.handed_raiseHold c))
    · cases r <;> simp [Region.same, q, Part.setLine, Sa.follows_refl] at hr ⊢

theorem exec_directLineChange {s : State} {l : LineId} {high : Bool} (h : (s.part.lct.lines.get l).pin ≠ high) :
    exec (.directLineChange l high) s = .next { s with part := Part.commit s.part (s.part.pinChanged l high) } :=
  State.onOccasion_of (fun p => p.pinChanged l high) (by simpa using h)

theorem exec_debounceElapsed {s : State} {l : LineId} {n : Nat} (h : (s.part.lct.lines.get l).debounce = .counting n) :
    exec (.debounceElapsed l) s =
      .next { s with part := Part.commit s.part (s.part.turnLine l (s.part.lct.lines.get l)) } :=
  State.onOccasion_of (fun p => p.changeStable l) (by simp [Line.isCounting, h])

/-- The pin's new level, by the state of the line's debounce (R186). -/
theorem Part.pinChanged_eq (p : Part) (l : LineId) (high : Bool) :
    p.pinChanged l high =
      let v := { p.lct.lines.get l with pin := high }
      if v.raw = v.stable then p.setLine l { v with debounce := .settled }
      else
        match v.debounce with
        | .counting _ => p.setLine l v
        | .settled => if v.debounceMs = 0 then p.turnLine l v else p.setLine l { v with debounce := .counting 0 } := by
  simp only [Part.pinChanged, Part.changeStable_eq, Part.turnLine, Part.setLine_setLine, Part.setLine_lct,
    Lines.get_set_self] <;>
    rfl

/-- Settles O50. -/
theorem directLinesAreDebounced : Obligations.DirectLinesAreDebounced := by
  unfold Obligations.DirectLinesAreDebounced
  intro changes
  refine ⟨fun l high s h => ?pin, fun l n s h => ⟨_, exec_debounceElapsed h, ⟨rfl, rfl, rfl⟩,
    s.part.commit_turnLine l _⟩⟩
  intro v
  have pin := s.part.pinChanged_eq l high
  refine ⟨_, exec_directLineChange h, ⟨rfl, rfl, rfl⟩, fun same => ?_, fun n differs counting => ?_,
    fun differs settled waits => ?_, fun differs settled none => ?_⟩
  · rw [pin, if_pos same]
    exact ⟨s.part.keepsBut_setLine l _, by simp, by simp [v]⟩
  · have held : s.part.pinChanged l high = s.part.setLine l v := by
      rw [pin, if_neg differs, show ({ s.part.lct.lines.get l with pin := high } : Line).debounce = .counting n from counting]
    rw [held]
    exact ⟨s.part.keepsBut_setLine l _, by simp, by simp⟩
  · have begun : s.part.pinChanged l high = s.part.setLine l { v with debounce := .counting 0 } := by
      rw [pin, if_neg differs, show ({ s.part.lct.lines.get l with pin := high } : Line).debounce = .settled from settled]
      exact if_neg waits
    rw [begun]
    exact ⟨s.part.keepsBut_setLine l _, by simp, by simp⟩
  · have turned : s.part.pinChanged l high = s.part.turnLine l v := by
      rw [pin, if_neg differs, show ({ s.part.lct.lines.get l with pin := high } : Line).debounce = .settled from settled]
      exact if_pos none
    simp only [changes]
    rw [turned]
    exact s.part.commit_turnLine l v

end Sys2Proof.Machine
end

section
/-! The sensor chain (R188), and what its changes do to the bins (R119 to R121). -/

namespace Sys2Proof.Machine

/-! ## The chain after a scan (R188) -/

theorem Chain.scanInput_eq (c : Chain) (bits : BitVec 64) (i : Nat) :
    c.scanInput bits i =
      (let run := c.runs.getD i 0 + 1
       let differs := bits.getLsbD i != c.stable.getLsbD i
       let changes := differs && decide (c.scanCount < run)
       (if differs && !changes then run else 0, changes)) := by
  unfold Chain.scanInput
  by_cases same : bits.getLsbD i = c.stable.getLsbD i
  · simp [same]
  · by_cases long : c.scanCount + 1 ≤ c.runs.getD i 0 + 1
    · have past : c.scanCount < c.runs.getD i 0 + 1 := long
      simp only [if_neg same, if_pos long, bne_iff_ne.mpr same, decide_eq_true past]
      rfl
    · have short : ¬ c.scanCount < c.runs.getD i 0 + 1 := long
      simp only [if_neg same, if_neg long, bne_iff_ne.mpr same, decide_eq_false short]
      rfl

/-- Inverting a list of distinct bits of a word. -/
theorem getLsbD_invert {l : List Nat} (distinct : l.Nodup) (v : BitVec 64) {j : Nat} (inside : j < 64) :
    (l.foldl (fun v i => v ^^^ (1#64 <<< i)) v).getLsbD j = (v.getLsbD j ^^ decide (j ∈ l)) := by
  induction l generalizing v with
  | nil => simp
  | cons i rest ih =>
    obtain ⟨fresh, distinct⟩ := List.nodup_cons.mp distinct
    have bit : (1#64 <<< i).getLsbD j = decide (j = i) := by
      by_cases same : j = i
      · simp [same, same ▸ inside]
      · have one : (1#64).getLsbD (j - i) = decide (j - i = 0) := by
          simp
        by_cases below : j < i
        · simp [below, same]
        · have apart : j - i ≠ 0 := by omega
          simp [same, apart]
    rw [List.foldl_cons, ih distinct, BitVec.getLsbD_xor, bit, Bool.xor_assoc]
    congr 1
    by_cases same : j = i
    · simp [same, fresh]
    · simp [same]

theorem Chain.scan_bits (c : Chain) (bits : BitVec 64) {i : Nat} (inside : i < 64) :
    (c.scan bits).stable.getLsbD i =
        (if (c.scanInput bits i).2 then bits.getLsbD i else c.stable.getLsbD i) ∧
      (c.scan bits).runs.getD i 0 = (c.scanInput bits i).1 := by
  have distinct : (c.changed bits).Nodup := List.nodup_range.filter _
  refine ⟨?_, by simp [Chain.scan, inside]⟩
  change (List.foldl _ c.stable (c.changed bits)).getLsbD i = _
  rw [getLsbD_invert distinct c.stable inside]
  have member : decide (i ∈ c.changed bits) = (c.scanInput bits i).2 := by simp [Chain.changed, inside]
  rw [member]
  have opposite : (c.scanInput bits i).2 = true → bits.getLsbD i = !c.stable.getLsbD i := by
    rw [Chain.scanInput_eq]
    intro changes
    have differs := (Bool.and_eq_true_iff.mp changes).1
    cases new : bits.getLsbD i <;> cases old : c.stable.getLsbD i <;> simp [new, old] at differs ⊢
  cases changes : (c.scanInput bits i).2 with
  | false => simp
  | true => simp [opposite changes]

/-! ## What one input does to a bin (R119 to R121) -/

/-- Bin `n` once the stable value of input `i` has changed. -/
def Part.binAfter (p : Part) (n : Nat) (b : BinEntry) (i : Nat) : BinEntry :=
  if i = n then
    if p.tubeInput n then
      { b with
        tube := true
        fired := 0
        tubeNumber := (b.tubeNumber + 1) % 65536
        full := if p.hasFullSensor n && p.fullInput n then .sensor else .clear }
    else { b with tube := false }
  else if i = 32 + n then (if p.fullInput n && p.hasFullSensor n then { b with full := .sensor } else b)
  else b

theorem Part.binAfter_other {p : Part} {n i : Nat} (tube : i ≠ n) (full : i ≠ 32 + n) (b : BinEntry) :
    p.binAfter n b i = b := by
  rw [Part.binAfter, if_neg tube, if_neg full]

theorem Part.binAfter_congr {p q : Part} (lct : q.lct = p.lct) (items : q.gbt.items = p.gbt.items) :
    q.binAfter = p.binAfter := by
  funext n b i
  simp only [Part.binAfter, Part.tubeInput, Part.fullInput, Part.hasFullSensor, lct, items] <;>
    rfl

/-- The bin of an input beyond the gates changes nothing. -/
theorem Part.chainInputChanged_of_beyond {p : Part} {i : Nat} (h : p.gateCount ≤ i % 32) : p.chainInputChanged i = p := by
  simp only [Part.chainInputChanged, if_neg (Nat.not_lt.mpr h)]

section
variable {p : Part} {i : Nat}

theorem Part.chainInputChanged_tube (h : i % 32 < p.gateCount) (tube : i < 32) :
    p.chainInputChanged i = if p.tubeInput i then p.tubeInserted i else p.tubeRemoved i := by
  have same : i % 32 = i := Nat.mod_eq_of_lt tube
  rw [same] at h
  simp only [Part.chainInputChanged, same, if_pos h, if_pos tube]
  rfl

theorem Part.chainInputChanged_full (h : i % 32 < p.gateCount) (full : ¬ i < 32) :
    p.chainInputChanged i = if p.lct.chain.stable.getLsbD i then p.fullRises (i % 32) else p := by
  simp only [Part.chainInputChanged, if_pos h, if_neg full]

end

/-- One input changes the bin that it belongs to, below the gate count, and no other. -/
theorem Part.chainInputChanged_bin {p : Part} {i : Nat} (inside : i < 64) (tables : p.gateCount ≤ p.gbt.bins.length)
    (gates : p.gateCount ≤ 32) (n : Nat) :
    (p.chainInputChanged i).bin n = if n < p.gateCount then p.binAfter n (p.bin n) i else p.bin n := by
  by_cases beyond : p.gateCount ≤ i % 32
  · rw [Part.chainInputChanged_of_beyond beyond]
    by_cases gate : n < p.gateCount
    · rw [if_pos gate, Part.binAfter_other (by omega) (by omega)]
    · rw [if_neg gate]
  · have held : i % 32 < p.gateCount := by omega
    have bin : ∀ b, (p.setBin (i % 32) b).bin n = if n = i % 32 then b else p.bin n := fun b =>
      (p.bin_setBin _ n b).trans (if_congr (and_iff_left (by omega)) rfl rfl)
    by_cases tube : i < 32
    · have same : i % 32 = i := Nat.mod_eq_of_lt tube
      have removed : (p.tubeRemoved i).bin n = (p.setBin i { p.bin i with tube := false }).bin n := by
        simp [Part.tubeRemoved, Part.bin]
      rw [Part.chainInputChanged_tube held tube]
      rw [same] at bin held
      by_cases own : n = i
      · subst own
        rw [if_pos held, Part.binAfter, if_pos rfl]
        split
        · rw [Part.tubeInserted, bin, if_pos rfl]
        · rw [removed, bin, if_pos rfl]
      · have other : p.binAfter n (p.bin n) i = p.bin n := Part.binAfter_other (Ne.symm own) (by omega) _
        rw [other, ite_self]
        split
        · rw [Part.tubeInserted, bin, if_neg own]
        · rw [removed, bin, if_neg own]
    · rw [Part.chainInputChanged_full held tube]
      by_cases own : n = i % 32
      · have gate : n < p.gateCount := own ▸ held
        have place : i = 32 + n := by omega
        have apart : i ≠ n := by omega
        rw [if_pos gate, Part.binAfter, if_neg apart, if_pos place, Part.fullInput, ← place]
        cases level : p.lct.chain.stable.getLsbD i with
        | false => simp
        | true =>
          simp only [if_true, Part.fullRises, Bool.true_and, ← own]
          split
          · rw [← own] at bin
            rw [bin, if_pos rfl]
          · rfl
      · have other : (if n < p.gateCount then p.binAfter n (p.bin n) i else p.bin n) = p.bin n := by
          split
          · exact Part.binAfter_other (by omega) (by omega) _
          · rfl
        rw [other]
        split
        · rw [Part.fullRises]
          split
          · rw [bin, if_neg own]
          · rfl
        · rfl

/-! ## The changes in order (R188) -/

@[simp] theorem Part.gateCount_chainInputChanged (p : Part) (i : Nat) : (p.chainInputChanged i).gateCount = p.gateCount := by
  simp [Part.gateCount]

theorem Part.binAfter_chainInputChanged (p : Part) (i : Nat) : (p.chainInputChanged i).binAfter = p.binAfter :=
  Part.binAfter_congr (by simp) (by simp)

/-- The bins after the changes of a list of inputs. -/
theorem Part.foldl_chainInputChanged_bin {l : List Nat} (inside : ∀ i ∈ l, i < 64) {p : Part}
    (tables : p.gateCount ≤ p.gbt.bins.length) (gates : p.gateCount ≤ 32) (n : Nat) :
    (l.foldl Part.chainInputChanged p).bin n =
      if n < p.gateCount then l.foldl (p.binAfter n) (p.bin n) else p.bin n := by
  induction l generalizing p with
  | nil => simp
  | cons i rest ih =>
    obtain ⟨first, others⟩ := List.forall_mem_cons.mp inside
    rw [List.foldl_cons, ih others (by simpa using tables) (by simpa using gates),
      Part.chainInputChanged_bin first tables gates, Part.binAfter_chainInputChanged, Part.gateCount_chainInputChanged]
    by_cases gate : n < p.gateCount <;> simp [gate]

theorem foldl_of_id {α β : Type} {f : β → α → β} {l : List α} (h : ∀ i ∈ l, ∀ b, f b i = b) (b : β) :
    l.foldl f b = b := by
  induction l generalizing b with
  | nil => rfl
  | cons i rest ih =>
    obtain ⟨first, others⟩ := List.forall_mem_cons.mp h
    rw [List.foldl_cons, first, ih others]

/-- Of the 64 inputs two concern bin `n`, its tube first. -/
theorem foldl_inputs {β : Type} {f : β → Nat → β} {n : Nat} (gate : n < 32)
    (others : ∀ b i, i ≠ n → i ≠ 32 + n → f b i = b) (b : β) :
    (List.range 64).foldl f b = f (f b n) (32 + n) := by
  have split : List.range 64 =
      List.range' 0 n ++ (n :: (List.range' (n + 1) 31 ++ (32 + n) :: List.range' (33 + n) (31 - n))) := by
    refine List.ext_getElem (by simp; omega) fun i h k => ?_
    simp only [List.getElem_range, List.getElem_append, List.getElem_cons, List.getElem_range', List.length_range']
    (repeat' split) <;> omega
  have before : ∀ i ∈ List.range' 0 n, ∀ b, f b i = b := fun i hi b =>
    others b i (by have := List.mem_range'_1.mp hi; omega) (by have := List.mem_range'_1.mp hi; omega)
  have between : ∀ i ∈ List.range' (n + 1) 31, ∀ b, f b i = b := fun i hi b =>
    others b i (by have := List.mem_range'_1.mp hi; omega) (by have := List.mem_range'_1.mp hi; omega)
  have after : ∀ i ∈ List.range' (33 + n) (31 - n), ∀ b, f b i = b := fun i hi b =>
    others b i (by have := List.mem_range'_1.mp hi; omega) (by have := List.mem_range'_1.mp hi; omega)
  rw [split, List.foldl_append, foldl_of_id before, List.foldl_cons, List.foldl_append, foldl_of_id between,
    List.foldl_cons, foldl_of_id after]

/-- Input `i` takes a tube from its bin. -/
def Part.removes (p : Part) (i : Nat) : Bool := decide (i < 32 ∧ i < p.gateCount) && !p.tubeInput i

/-- The TUBE record of bin `n` (R119). -/
def Part.tubeBody (p : Part) (n : Nat) : RecordBody := .tube n (p.bin n).tubeNumber (p.bin n).fired p.lotNumber

theorem Part.handed_chainInputChanged (p : Part) {i : Nat} (inside : i < 64) :
    Part.handed p (p.chainInputChanged i) (if p.removes i then [p.tubeBody i] else []) := by
  by_cases beyond : p.gateCount ≤ i % 32
  · have kept : p.removes i = false := by
      simp only [Part.removes, Bool.and_eq_false_iff, decide_eq_false_iff_not]
      exact Or.inl (by omega)
    rw [Part.chainInputChanged_of_beyond beyond, kept]
    exact p.handed_refl
  · have held : i % 32 < p.gateCount := by omega
    by_cases tube : i < 32
    · have gate : i < p.gateCount := by rwa [Nat.mod_eq_of_lt tube] at held
      rw [Part.chainInputChanged_tube held tube, Part.removes, decide_eq_true ⟨tube, gate⟩]
      cases p.tubeInput i with
      | true => exact Part.handed_same (by simp [Part.tubeInserted])
      | false => exact Part.handed_of_left (q := p.setBin i { p.bin i with tube := false }) rfl (Part.handed_handOff _ _)
    · have kept : p.removes i = false := by
        simp only [Part.removes, Bool.and_eq_false_iff, decide_eq_false_iff_not]
        exact Or.inl (by omega)
      rw [Part.chainInputChanged_full held tube, kept]
      refine Part.handed_same ?_
      split <;> simp

theorem Part.handed_foldl_chainInputChanged {l : List Nat} (inside : ∀ i ∈ l, i < 64) (sorted : l.Pairwise (· < ·))
    {p : Part} (tables : p.gateCount ≤ p.gbt.bins.length) (gates : p.gateCount ≤ 32) :
    Part.handed p (l.foldl Part.chainInputChanged p) ((l.filter p.removes).map p.tubeBody) := by
  induction l generalizing p with
  | nil => exact p.handed_refl
  | cons i rest ih =>
    obtain ⟨first, others⟩ := List.forall_mem_cons.mp inside
    obtain ⟨below, sorted⟩ := List.pairwise_cons.mp sorted
    have later := ih others sorted (p := p.chainInputChanged i) (by simpa using tables) (by simpa using gates)
    have removes : (p.chainInputChanged i).removes = p.removes := by
      funext j
      simp [Part.removes, Part.tubeInput]
    have bodies : (rest.filter p.removes).map (p.chainInputChanged i).tubeBody = (rest.filter p.removes).map p.tubeBody := by
      refine List.map_congr_left fun j hj => ?_
      obtain ⟨member, removed⟩ := List.mem_filter.mp hj
      have above := below j member
      have small : j < 32 := by
        simp only [Part.removes, Bool.and_eq_true, decide_eq_true_eq] at removed
        exact removed.1.1
      have bin : (p.chainInputChanged i).bin j = p.bin j := by
        rw [Part.chainInputChanged_bin first tables gates, Part.binAfter_other (by omega) (by omega), ite_self]
      simp [Part.tubeBody, bin, Part.lotNumber]
    rw [removes, bodies] at later
    have both := Part.handed_trans (p.handed_chainInputChanged first) later (by
      simp only [Part.indexCount]
      rw [Part.foldl_same Part.dt Part.chainInputChanged (by simp)])
    rw [List.foldl_cons, List.filter_cons]
    cases removed : p.removes i <;> simpa [removed] using both

/-- The scan before its changes are handed on. -/
def Part.chainScanned (p : Part) (bits : BitVec 64) : Part := { p with lct := { p.lct with chain := p.lct.chain.scan bits } }

theorem Part.scanned_eq (p : Part) (bits : BitVec 64) :
    p.scanned bits = (p.lct.chain.changed bits).foldl Part.chainInputChanged (p.chainScanned bits) := rfl

theorem exec_sensorScan (bits : BitVec 64) (s : State) :
    exec (.sensorScan bits) s = .next { s with part := Part.commit s.part (s.part.scanned bits) } := rfl

/-- A bin once its tube input has taken a level, where it changed, its full input standing at `full` where fitted. -/
def BinEntry.tubeTurned (b : BinEntry) (turned level full : Bool) : BinEntry :=
  if turned then
    if level then
      { b with tube := true, fired := 0, tubeNumber := (b.tubeNumber + 1) % 65536,
               full := if full then .sensor else .clear }
    else { b with tube := false }
  else b

/-- Both inputs of a bin, the tube first. -/
theorem BinEntry.tubeTurned_fullTurned (b : BinEntry) (turned level fitted full risen : Bool) :
    (if risen then
        if full && fitted then { b.tubeTurned turned level (fitted && full) with full := .sensor }
        else b.tubeTurned turned level (fitted && full)
      else b.tubeTurned turned level (fitted && full)) =
      { b with
        tube := if turned then level else b.tube
        fired := if turned && level then 0 else b.fired
        tubeNumber := if turned && level then (b.tubeNumber + 1) % 65536 else b.tubeNumber
        full :=
          if turned && level then (if fitted && full then .sensor else .clear)
          else if risen && full && fitted then .sensor else b.full } := by
  cases turned
  · cases risen <;> cases full <;> cases fitted <;> rfl
  · cases level <;> cases risen <;> cases full <;> cases fitted <;> rfl

@[simp] theorem Part.chainInputChanged_pulses (p : Part) (i : Nat) : (p.chainInputChanged i).gbt.pulses = p.gbt.pulses := by
  unfold Part.chainInputChanged Part.tubeInserted Part.tubeRemoved Part.fullRises
  dsimp only
  (repeat' split) <;> simp

/-- The numbers below a bound, among those below a greater one. -/
theorem filter_range_lt {g k : Nat} (h : g ≤ k) (f : Nat → Bool) :
    (List.range k).filter (fun i => decide (i < g) && f i) = (List.range g).filter f := by
  obtain ⟨d, rfl⟩ := Nat.exists_eq_add_of_le h
  have beyond : ((List.range d).map (g + ·)).filter (fun i => decide (i < g) && f i) = [] := by
    refine List.filter_eq_nil_iff.mpr fun i hi => ?_
    obtain ⟨j, -, rfl⟩ := List.mem_map.mp hi
    simp
  rw [List.range_add, List.filter_append, beyond, List.append_nil]
  exact List.filter_congr fun i hi => by simp [List.mem_range.mp hi]

/-- Settles O53. -/
theorem sensorScanMovesTheTubes : Obligations.SensorScanMovesTheTubes := by
  intro bits s tables c run differs changes
  obtain ⟨bins, -, -, gates⟩ := tables
  have changed : ∀ i, (c.scanInput bits i).2 = changes i := fun i => by rw [Chain.scanInput_eq]
  have runs : ∀ i, (c.scanInput bits i).1 = if differs i && !changes i then run i else 0 := fun i => by
    rw [Chain.scanInput_eq]
  have list : c.changed bits = (List.range 64).filter changes := by
    rw [Chain.changed]
    exact List.filter_congr fun i _ => changed i
  have inside : ∀ i ∈ c.changed bits, i < 64 := fun i hi => by
    rw [list] at hi
    exact List.mem_range.mp (List.mem_filter.mp hi).1
  have sorted : (c.changed bits).Pairwise (· < ·) := List.pairwise_lt_range.filter _
  obtain ⟨q, hq⟩ : ∃ q, q = s.part.chainScanned bits := ⟨_, rfl⟩
  have qgates : q.gateCount = s.part.gateCount := by rw [hq]; rfl
  have qbin : ∀ n, q.bin n = s.part.bin n := fun n => by rw [hq]; rfl
  have level : ∀ i, i < 64 → q.lct.chain.stable.getLsbD i = if changes i then bits.getLsbD i else c.stable.getLsbD i :=
    fun i hi => by
      rw [← changed i, ← (c.scan_bits bits hi).1, hq]
      rfl
  have scanned : s.part.scanned bits = (c.changed bits).foldl Part.chainInputChanged q := by
    rw [Part.scanned_eq, hq]
  have lct : (s.part.scanned bits).lct = q.lct := by
    rw [scanned]
    exact Part.foldl_same Part.lct Part.chainInputChanged (by simp) _ _
  have tables : q.gateCount ≤ q.gbt.bins.length := by
    have same : q.gbt = s.part.gbt := by rw [hq]; rfl
    rw [qgates, same]
    omega
  have bin := Part.foldl_chainInputChanged_bin inside tables (qgates ▸ gates)
  have handed := Part.handed_foldl_chainInputChanged inside sorted tables (qgates ▸ gates)
  rw [← scanned] at bin handed
  have chain : q.lct.chain = c.scan bits := by rw [hq]; rfl
  refine ⟨_, exec_sensorScan bits s, ⟨rfl, rfl, rfl⟩, Part.keepsBut_commit fun r hr => ?kept, by simp [lct, hq, Part.chainScanned],
    by simp [lct, chain, Chain.scan], by simp [lct, chain, Chain.scan, c], fun i hi => ⟨?stable, ?runs⟩, ?pulses, ?items,
    fun n beyond => ?beyond, fun n gate => ?gate, ?handed⟩
  case kept =>
    cases r <;> simp [Region.same, Sa.follows_refl] at hr ⊢
  case stable =>
    simp only [Part.commit_fields, lct]
    exact level i hi
  case runs =>
    simp only [Part.commit_fields, lct, chain]
    exact (c.scan_bits bits hi).2.trans (runs i)
  case pulses =>
    have pulses : (s.part.scanned bits).gbt.pulses = s.part.gbt.pulses := by
      rw [scanned, hq]
      exact Part.foldl_same (fun p => p.gbt.pulses) Part.chainInputChanged (fun p i => p.chainInputChanged_pulses i) _ _
    simp [pulses]
  case items => simp
  case beyond =>
    rw [(Part.commit_reads _ _).2.1, bin, if_neg (by omega), qbin]
  case gate =>
    intro b fitted full inserted
    have small : n < 32 := by omega
    have fits : q.hasFullSensor n = fitted := by rw [hq]; rfl
    have fullLevel : full = q.fullInput n := by
      simp only [full, Part.commit_fields, lct]
      rfl
    have both := foldl_inputs small (f := fun b i => if changes i then q.binAfter n b i else b)
      (fun b i tube full => by simp [Part.binAfter_other tube full]) b
    have tube : changes n = true → q.tubeInput n = bits.getLsbD n := fun h => by
      rw [Part.tubeInput, level n (by omega), if_pos h]
    rw [(Part.commit_reads _ _).2.1, bin, if_pos (qgates ▸ gate), qbin, list, List.foldl_filter, both, fullLevel]
    have apart : 32 + n ≠ n := by omega
    have first : (if changes n then q.binAfter n b n else b) =
        b.tubeTurned (changes n) (bits.getLsbD n) (fitted && q.fullInput n) := by
      cases turned : changes n with
      | false => rfl
      | true =>
        simp only [if_true, Part.binAfter, tube turned, fits]
        rfl
    rw [first]
    simp only [Part.binAfter, if_true, if_neg apart, fits, inserted]
    exact b.tubeTurned_fullTurned _ _ _ _ _
  case handed =>
    have bodies : q.tubeBody = fun n => .tube n (s.part.bin n).tubeNumber (s.part.bin n).fired s.part.lotNumber := by
      rw [hq]
      rfl
    have removals : (c.changed bits).filter q.removes =
        (List.range s.part.gateCount).filter (fun n => changes n && !bits.getLsbD n) := by
      rw [list, List.filter_filter, ← filter_range_lt (show s.part.gateCount ≤ 64 by omega)]
      refine List.filter_congr fun i hi => ?_
      have small := List.mem_range.mp hi
      cases turned : changes i with
      | false => simp
      | true =>
        simp only [Part.removes, Part.tubeInput, level i small, turned, qgates, if_true, Bool.true_and, Bool.and_true]
        congr 1
        exact decide_eq_decide.mpr ⟨fun h => h.2, fun h => ⟨by omega, h⟩⟩
    rw [removals, bodies] at handed
    exact Part.handed_commit s.part (Part.handed_of_left (p := s.part) (by rw [hq]; rfl) handed)

end Sys2Proof.Machine
end

section
/-! The load station: the LOAD item (R21 to R26) and a part put down (R26, R27, R85). -/

namespace Sys2Proof.Machine

/-! ## The LOAD item (R21 to R26) -/

theorem Part.completeItem_current (p : Part) (k : ItemKind) :
    p.completeItem k p.dt.dwell = { p with dt := { p.dt with items := p.dt.items.map (Item.complete k) } } := if_pos rfl

theorem Part.limitSuspension_iff (p : Part) :
    p.limitSuspension = true ↔
      ∃ m, (p.channel m).role ≠ .unused ∧ (p.rsc.get m).urgency = .limit ∧
        ((p.rsc.get m).cover = .placed ∨ (p.rsc.get m).cover = .issued) := by
  simp [Part.limitSuspension, mem_allMeters, Part.usedMeter, and_assoc]

theorem Part.loadingAllowed_iff (p : Part) :
    p.loadingAllowed = true ↔
      p.lsq.engine = .run ∧ max p.lcu.forcedRatio p.jw.level ≤ p.lcu.thinning + 1 ∧ p.lcu.nextSequence ≠ 0 ∧
        ¬ ∃ m, (p.channel m).role ≠ .unused ∧ (p.rsc.get m).urgency = .limit ∧
          ((p.rsc.get m).cover = .placed ∨ (p.rsc.get m).cover = .issued) := by
  rw [← p.limitSuspension_iff]
  have ratio : p.thinningRatio - 1 ≤ p.lcu.thinning ↔ max p.lcu.forcedRatio p.jw.level ≤ p.lcu.thinning + 1 := by
    rw [Part.thinningRatio]
    omega
  simp [Part.loadingAllowed, ratio, and_assoc]

theorem MeterSet.isEmpty_iff (s : MeterSet) : s.isEmpty = true ↔ ¬ ∃ m, s.get m = true := by
  have some : (s.m0 || s.m1 || s.m2 || s.m3) = true ↔ ∃ m : Meter, s.get m = true := by
    simp only [Bool.or_eq_true]
    constructor
    · rintro (((h | h) | h) | h)
      · exact ⟨0, h⟩
      · exact ⟨1, h⟩
      · exact ⟨2, h⟩
      · exact ⟨3, h⟩
    · rintro ⟨m, h⟩
      match m, h with
      | 0, h => exact Or.inl (Or.inl (Or.inl h))
      | 1, h => exact Or.inl (Or.inl (Or.inr h))
      | 2, h => exact Or.inl (Or.inr h)
      | 3, h => exact Or.inr h
  rw [MeterSet.isEmpty, ← some, Bool.not_eq_true', Bool.not_eq_true]

section
variable {p : Part} {k : Nat}

theorem Part.workLoad_of_taken (h : p.pocket k ≠ .vacant) :
    p.workLoad k = p.passUnoffered.completeItem .load p.dt.dwell := if_pos h

theorem Part.workLoad_of_eye (vacant : p.pocket k = .vacant) (eye : p.lct.lines.loadEye.stable = true) :
    p.workLoad k =
      (((p.setPocket k .stray).countLot (fun c => { c with stray := countUp c.stray })).passUnoffered).completeItem
        .load p.dt.dwell :=
  (if_neg (not_not_intro vacant)).trans (if_pos eye)

theorem Part.workLoad_of_disallowed (vacant : p.pocket k = .vacant) (eye : p.lct.lines.loadEye.stable = false)
    (disallowed : p.loadingAllowed = false) : p.workLoad k = p.passUnoffered.completeItem .load p.dt.dwell :=
  (if_neg (not_not_intro vacant)).trans ((if_neg (by simp [eye])).trans (if_pos disallowed))

theorem Part.workLoad_of_allowed (vacant : p.pocket k = .vacant) (eye : p.lct.lines.loadEye.stable = false)
    (allowed : p.loadingAllowed = true) : p.workLoad k = p.offer k :=
  (if_neg (not_not_intro vacant)).trans ((if_neg (by simp [eye])).trans (if_neg (by simp [allowed])))

end

/-- A pocket passed unoffered whose item completes. -/
theorem Part.passUnoffered_complete (p : Part) :
    p.passUnoffered.completeItem .load p.dt.dwell =
      { p with
        lcu := { p.lcu with thinning := if p.lcu.thinning < 7 then p.lcu.thinning + 1 else p.lcu.thinning }
        dt := { p.dt with items := p.dt.items.map (Item.complete .load) } } :=
  p.passUnoffered.completeItem_current .load

/-- The pocket that is fed. -/
theorem Part.feed_eq (p : Part) (k : Nat) :
    { p.feed k with lct := p.lct } = { p with lcu := { p.lcu with feed := .feeding k p.dt.dwell } } ∧
      ∀ i, p.lcu.intervals = some i →
        (p.feed k).lct =
          { p.lct with
            timers := { p.lct.timers with feed := .running i.feedTimeout (IntervalCode.units i.feedTimeout) } } := by
  unfold Part.feed
  cases intervals : p.lcu.intervals with
  | none => exact ⟨rfl, fun i h => by cases h⟩
  | some i => exact ⟨rfl, fun j h => by rw [← Option.some.inj h]; rfl⟩

/-- The pocket that becomes the reservation of the pending set. -/
theorem Part.reserve_complete (p : Part) (k : Nat) :
    { (p.reserve k).completeItem .load p.dt.dwell with rsc := p.rsc } =
        { p with
          lcu := { p.lcu with pendingSet := MeterSet.empty }
          dt := { p.dt with
            pockets := p.dt.pockets.set k (.reserved p.lcu.pendingSet)
            items := p.dt.items.map (Item.complete .load) } } ∧
      ∀ m, ((p.reserve k).completeItem .load p.dt.dwell).rsc.get m =
        { p.rsc.get m with
          cover :=
            if p.lcu.pendingSet.get m = true ∧ (p.rsc.get m).cover = .pending then .placed else (p.rsc.get m).cover } := by
  have completed := (p.reserve k).completeItem_current .load
  have dwell : (p.reserve k).dt.dwell = p.dt.dwell := rfl
  rw [dwell] at completed
  rw [completed]
  refine ⟨rfl, fun m => ?_⟩
  have get : (p.reserve k).rsc.get m =
      if p.lcu.pendingSet.get m = true ∧ (p.rsc.get m).cover = .pending then { p.rsc.get m with cover := .placed }
      else p.rsc.get m := by
    simp [Part.reserve, Part.coverPlaced]
  change (p.reserve k).rsc.get m = _
  rw [get]
  split <;> rfl

/-! ## A part put down (R26, R85) -/

theorem Part.records_of_handed {p q : Part} {xs : List RecordBody} {b : RecordBody} (h : Part.handed p q xs)
    (member : b ∈ xs) : q.records b := by
  obtain ⟨others, records⟩ := h
  intro held
  have area : p.jw.area = q.jw.area := by rw [← others]
  rw [area, if_pos held] at records
  refine ⟨{ body := b, indexCount := q.indexCount }, ?_, rfl⟩
  rw [records]
  exact List.mem_append_right _ (List.mem_map.mpr ⟨b, member, rfl⟩)

theorem Part.issueSequence_lcu (p : Part) :
    p.issueSequence.lcu =
      { p.lcu with nextSequence := if p.lcu.nextSequence = 4294967295 then 0 else p.lcu.nextSequence + 1 } := by
  unfold Part.issueSequence
  dsimp only
  split <;> simp [Part.setNextSequence]

theorem Part.handed_issueSequence (p : Part) :
    Part.handed p p.issueSequence
      (if p.lcu.nextSequence = 4294967295 then [.event (.sequenceExhausted p.lotNumber)] else []) := by
  unfold Part.issueSequence
  dsimp only
  split
  · exact Part.handed_of_left (q := p.setNextSequence 0) rfl (Part.handed_event _ _)
  · exact Part.handed_same rfl

/-- The Plan Store once number `n` has been issued: a pending switch whose sequence is reached is applied (R85). -/
def Ps.issued (ps : Ps) (n : Nat) : Ps :=
  match ps.pendingSwitch with
  | none => ps
  | some w => if w.sequence ≤ n then { ps with loadSlot := some w.slot, pendingSwitch := none } else ps

/-- The EVENT of that switch. -/
def Ps.switchBodies (ps : Ps) (n : Nat) : List RecordBody :=
  match ps.pendingSwitch with
  | none => []
  | some w =>
    if w.sequence ≤ n then
      [.event (.planSwitched ps.loadSlot (ps.idOf ps.loadSlot) w.slot (ps.idOf (some w.slot)) n)]
    else []

theorem Ps.issued_slot (ps : Ps) (n : Nat) (x : SlotId) : (ps.issued n).slot x = ps.slot x := by
  unfold Ps.issued
  (repeat' split) <;> cases x <;> rfl

theorem Ps.issued_loadSlot (ps : Ps) (n : Nat) :
    (ps.issued n).loadSlot.getD .a =
      match ps.pendingSwitch with
      | none => ps.loadSlot.getD .a
      | some w => if w.sequence ≤ n then w.slot else ps.loadSlot.getD .a := by
  unfold Ps.issued
  cases ps.pendingSwitch with
  | none => rfl
  | some w => by_cases reached : w.sequence ≤ n <;> simp [reached]

theorem Part.applySwitch_ps (p : Part) (n : Nat) : (p.applySwitch n).ps = p.ps.issued n := by
  unfold Part.applySwitch Ps.issued
  cases p.ps.pendingSwitch with
  | none => rfl
  | some w => by_cases reached : w.sequence ≤ n <;> simp [reached]

theorem Part.handed_applySwitch (p : Part) (n : Nat) : Part.handed p (p.applySwitch n) (p.ps.switchBodies n) := by
  unfold Part.applySwitch Ps.switchBodies
  cases p.ps.pendingSwitch with
  | none => exact p.handed_refl
  | some w =>
    by_cases reached : w.sequence ≤ n
    · simp only [if_pos reached]
      exact Part.handed_of_left (q := p.setPs { p.ps with loadSlot := some w.slot, pendingSwitch := none }) rfl
        (Part.handed_event _ _)
    · simp only [if_neg reached]
      exact p.handed_refl

theorem Part.reloadStarvation_lct (p : Part) :
    p.reloadStarvation.lct =
      { p.lct with
        timers :=
          { p.lct.timers with
            starvation :=
              match p.lcu.intervals with
              | none => p.lct.timers.starvation
              | some i =>
                if p.lsq.engine = .run ∧ IntervalCode.count i.starvation ≠ 0 then
                  .running i.starvation (IntervalCode.units i.starvation)
                else p.lct.timers.starvation } } := by
  unfold Part.reloadStarvation Part.startStarvation
  cases p.lcu.intervals with
  | none => simp
  | some i =>
    by_cases run : p.lsq.engine = .run
    · by_cases zero : IntervalCode.count i.starvation = 0
      · simp [run, zero]
      · simp [run, zero, Part.setStarvation, Part.setTimers, Timer.start]
    · simp [run]

/-- The number and the slot are issued, before the pocket takes the part. -/
def Part.numbered (p : Part) : Part := p.issueSequence.applySwitch p.lcu.nextSequence

/-- The plan slot that a part newly loaded takes. -/
def Part.loadingSlot (p : Part) : SlotId := (p.ps.issued p.lcu.nextSequence).loadSlot.getD .a

/-- The pocket of a part newly loaded. -/
def Part.newCarry (p : Part) : Pocket :=
  .carry { sequence := p.lcu.nextSequence, slot := p.loadingSlot, readings := p.newReadings }

/-- The slot is named by one part more. -/
def Ps.oneMore (ps : Ps) (x : SlotId) : Ps := ps.setSlot x { ps.slot x with refs := (ps.slot x).refs + 1 }

theorem Part.numbered_ps (p : Part) : p.numbered.ps = p.ps.issued p.lcu.nextSequence := by
  simp [Part.numbered, Part.applySwitch_ps]

/-- The pocket takes the part, and the counts follow. -/
theorem Part.loadPart_eq (p : Part) (k : Nat) :
    p.loadPart k =
      (((p.numbered.setPocket k p.newCarry).changeRefs p.loadingSlot (fun r => r + 1)).countLot
        (fun c => { c with loaded := countUp c.loaded })).reloadStarvation := by
  have dt : p.numbered.dt = p.dt := by simp [Part.numbered]
  have readings : p.numbered.newReadings = p.newReadings := by simp [Part.newReadings, dt]
  rw [Part.newCarry, Part.loadingSlot, ← p.numbered_ps, ← readings]
  rfl

theorem Part.loadPart_blocks (p : Part) (k : Nat) :
    (p.loadPart k).dt = { p.dt with pockets := p.dt.pockets.set k p.newCarry } ∧
      (p.loadPart k).lcu =
        { p.lcu with
          nextSequence := if p.lcu.nextSequence = 4294967295 then 0 else p.lcu.nextSequence + 1
          counters := { p.lcu.counters with loaded := countUp p.lcu.counters.loaded } } ∧
      (p.loadPart k).ps = (p.ps.issued p.lcu.nextSequence).oneMore p.loadingSlot := by
  have ps := p.numbered_ps
  have dt : p.numbered.dt = p.dt := by simp [Part.numbered]
  have lcu : p.numbered.lcu = p.issueSequence.lcu := by simp [Part.numbered]
  rw [Part.loadPart_eq]
  refine ⟨?_, ?_, ?_⟩
  · simp [Part.setPocket, Part.changeRefs, dt, Part.newCarry]
  · simp [Part.setPocket, Part.changeRefs, lcu, Part.issueSequence_lcu]
  · simp [Part.setPocket, Part.changeRefs, ps, Ps.oneMore]

/-- The starvation timer once a part has been loaded (R29). -/
def Part.starvationLoaded (p : Part) : Timer :=
  match p.lcu.intervals with
  | none => p.lct.timers.starvation
  | some i =>
    if p.lsq.engine = .run ∧ IntervalCode.count i.starvation ≠ 0 then
      .running i.starvation (IntervalCode.units i.starvation)
    else p.lct.timers.starvation

theorem Part.loadPart_lct (p : Part) (k : Nat) :
    (p.loadPart k).lct = { p.lct with timers := { p.lct.timers with starvation := p.starvationLoaded } } := by
  have lcu : p.numbered.lcu.intervals = p.lcu.intervals := by simp [Part.numbered, Part.issueSequence_lcu]
  have lct : p.numbered.lct = p.lct := by simp [Part.numbered]
  have lsq : p.numbered.lsq = p.lsq := by simp [Part.numbered]
  rw [Part.loadPart_eq, Part.reloadStarvation_lct]
  simp only [Part.countLot, Part.changeRefs, Part.setPocket, lcu, lct, lsq]
  rfl

theorem Part.handed_loadPart (p : Part) (k : Nat) :
    Part.handed p (p.loadPart k)
      ((if p.lcu.nextSequence = 4294967295 then [.event (.sequenceExhausted p.lotNumber)] else []) ++
        p.ps.switchBodies p.lcu.nextSequence) := by
  have switched := p.issueSequence.handed_applySwitch p.lcu.nextSequence
  rw [(Part.issueSequence_keeps p).2.2.2.1] at switched
  have numbered : Part.handed p p.numbered _ :=
    Part.handed_trans p.handed_issueSequence switched (by simp [Part.indexCount, Part.numbered])
  rw [Part.loadPart_eq]
  exact Part.handed_of_right numbered (by simp [Part.changeRefs, Part.setPocket])
    (by simp [Part.indexCount, Part.changeRefs, Part.setPocket, Part.numbered])

/-- The feed ends with the part at the load eye, or with none. -/
def Part.fed (p : Part) (k : Nat) : Part :=
  if p.lct.lines.loadEye.stable then p.loadPart k else p.countLot (fun c => { c with loadLoss := countUp c.loadLoss })

theorem Part.placed_of_feeding {p : Part} {k dwell : Nat} (h : p.lcu.feed = .feeding k dwell) :
    p.placed = ((p.fed k).dropFeed dwell).proceedLoad := by
  simp only [Part.placed, h, Part.fed]
  split <;> rfl

theorem Part.placed_of_idle {p : Part} (h : p.lcu.feed = .idle) : p.placed = p.event (.placedWithoutFeed p.dt.offset) := by
  simp only [Part.placed, h]

theorem Part.dropFeed_blocks (p : Part) (d : Nat) :
    (p.dropFeed d).lcu = { p.lcu with feed := .idle } ∧
      (p.dropFeed d).lct = { p.lct with timers := { p.lct.timers with feed := .stopped } } ∧
      (p.dropFeed d).dt =
        { p.dt with items := if d = p.dt.dwell then p.dt.items.map (Item.complete .load) else p.dt.items } := by
  by_cases current : d = p.dt.dwell <;> simp [Part.dropFeed, Part.completeItem, current]

theorem Part.dropFeed_pocket (p : Part) (d k : Nat) : (p.dropFeed d).pocket k = p.pocket k := by
  simp only [Part.pocket, (p.dropFeed_blocks d).2.2]

/-- An item that completes is no longer STARTED. -/
theorem Item.complete_not_started {k : ItemKind} {i : Item} (h : (Item.complete k i).kind = k) :
    (Item.complete k i).state ≠ .started := by
  unfold Item.complete at h ⊢
  split
  · simp
  · next other =>
    rw [if_neg other] at h
    exact fun started => other ⟨h, started⟩

/-- What the end of a feed leaves of a part put down, before a LOAD item that waited proceeds. -/
def Part.fedDown (p : Part) (k dwell : Nat) : Part := (p.fed k).dropFeed dwell

theorem Part.fed_keeps (p : Part) (k : Nat) :
    (p.fed k).mc = p.mc ∧ (p.fed k).rsc = p.rsc ∧ (p.fed k).gbt = p.gbt ∧ (p.fed k).lsq = p.lsq ∧ (p.fed k).rqx = p.rqx ∧
      (p.fed k).sa = p.sa ∧ (p.fed k).attn = p.attn ∧ (p.fed k).cfg = p.cfg := by
  unfold Part.fed
  split <;> simp

theorem Part.fed_of_part {p : Part} (h : p.lct.lines.loadEye.stable = true) (k : Nat) : p.fed k = p.loadPart k := if_pos h

theorem Part.fed_of_none {p : Part} (h : p.lct.lines.loadEye.stable = false) (k : Nat) :
    p.fed k = p.countLot (fun c => { c with loadLoss := countUp c.loadLoss }) := if_neg (by simp [h])

/-- Only the pockets of the dial change. -/
theorem Part.fed_dt (p : Part) (k : Nat) :
    (p.fed k).dt = { p.dt with pockets := (p.fed k).dt.pockets } := by
  cases eye : p.lct.lines.loadEye.stable with
  | true => rw [Part.fed_of_part eye, (p.loadPart_blocks k).1]
  | false => rw [Part.fed_of_none eye]; rfl

theorem Part.fed_pocket_ne (p : Part) {k x : Nat} (h : x ≠ k) : (p.fed k).pocket x = p.pocket x := by
  cases eye : p.lct.lines.loadEye.stable with
  | true =>
    rw [Part.fed_of_part eye, Part.pocket, (p.loadPart_blocks k).1]
    exact (p.pocket_setPocket k x p.newCarry).trans (if_neg fun same => h same.1)
  | false => rw [Part.fed_of_none eye]; rfl

theorem Part.loadPart_pocket (p : Part) {k : Nat} (h : k < p.dt.pockets.length) : (p.loadPart k).pocket k = p.newCarry := by
  rw [Part.pocket, (p.loadPart_blocks k).1]
  exact (p.pocket_setPocket k k p.newCarry).trans (if_pos ⟨rfl, h⟩)

theorem Part.newReadings_eq (p : Part) :
    p.newReadings =
      match p.dt.geometry with
      | none => []
      | some g =>
        (allMeters.filter g.used).map (fun m =>
          { station := m, serial := none, status := .pending, deviation := none, late := false }) := by
  unfold Part.newReadings
  cases p.dt.geometry <;> rfl

theorem SlotId.other_ne (x : SlotId) : x.other ≠ x := by cases x <;> decide

/-- With the feed IDLE again the load that waits, if any, starts. -/
theorem Part.placed_eq {p : Part} {k dwell : Nat} (h : p.lcu.feed = .feeding k dwell) :
    p.placed =
      match (p.fedDown k dwell).waitingLoad with
      | none => p.fedDown k dwell
      | some j => (p.fedDown k dwell).startItem { kind := .load, pocket := j, state := .started } := by
  rw [Part.placed_of_feeding h]
  exact Part.proceedLoad_of_idle (by rw [((p.fed k).dropFeed_blocks dwell).1])

/-- Settles O52. -/
theorem placedLoadsThePart : Obligations.PlacedLoadsThePart := by
  unfold Obligations.PlacedLoadsThePart
  intro loads
  have down : ∀ (p : Part) (k dwell : Nat), k < p.dt.pockets.length → loads p (p.fedDown k dwell) k := by
    intro p k dwell inside
    unfold loads
    intro n slot starvation
    obtain ⟨lcu, lct, dt⟩ := (p.fed k).dropFeed_blocks dwell
    obtain ⟨mc, rsc, gbt, lsq, rqx, sa, attn, cfg⟩ := p.fed_keeps k
    refine ⟨by rw [Part.fedDown, lcu], fun x hx => ?others, by simp [Part.fedDown, mc], by simp [Part.fedDown, rsc],
      by simp [Part.fedDown, gbt], by simp [Part.fedDown, lsq], by simp [Part.fedDown, rqx], by simp [Part.fedDown, sa],
      by simp [Part.fedDown, attn], by simp [Part.fedDown, cfg], fun eye => ?loaded, fun eye => ?lost⟩
    case others => exact ((p.fed k).dropFeed_pocket dwell x).trans (p.fed_pocket_ne hx)
    case loaded =>
      have fed := Part.fed_of_part eye k
      rw [fed] at lcu lct dt
      obtain ⟨ldt, llcu, lps⟩ := p.loadPart_blocks k
      have slotted : p.loadingSlot = slot := p.ps.issued_loadSlot n
      have ps : (p.fedDown k dwell).ps = (p.ps.issued n).oneMore slot := by
        rw [← slotted, ← lps]
        simp [Part.fedDown, fed]
      have handed : Part.handed p (p.fedDown k dwell) _ :=
        Part.handed_of_right (p.handed_loadPart k) (by simp [Part.fedDown, fed]) (by simp [Part.indexCount, Part.fedDown, fed])
      obtain ⟨load, switch, -⟩ := Ps.setSlot_others (p.ps.issued n) slot
        { (p.ps.issued n).slot slot with refs := ((p.ps.issued n).slot slot).refs + 1 }
      refine ⟨?_, ?_, ?_, ?_, ?_, fun last => ?_, fun w pending reached => ?_⟩
      · rw [Part.fedDown, fed, lct, p.loadPart_lct]
        rfl
      · rw [Part.fedDown, fed, Part.dropFeed_pocket, p.loadPart_pocket inside, Part.newCarry, slotted, p.newReadings_eq] <;>
          rfl
      · rw [Part.fedDown, fed, lcu, llcu]
      · rw [ps, Ps.oneMore, Ps.slot_setSlot_self, Ps.issued_slot]
      · rw [ps, Ps.oneMore, Ps.slot_setSlot_ne _ _ slot.other_ne, Ps.issued_slot]
      · exact Part.records_of_handed handed (by simp [show p.lcu.nextSequence = 4294967295 from last])
      · have issued : p.ps.issued n = { p.ps with loadSlot := some w.slot, pendingSwitch := none } := by
          simp only [Ps.issued, pending, if_pos reached]
        refine ⟨?_, ?_, Part.records_of_handed handed (List.mem_append_right _ ?_)⟩
        · rw [ps, Ps.oneMore, load, issued]
        · rw [ps, Ps.oneMore, switch, issued]
        · simp only [Ps.switchBodies, pending, if_pos (show w.sequence ≤ p.lcu.nextSequence from reached)]
          exact List.mem_singleton_self _
    case lost =>
      have fed := Part.fed_of_none eye k
      rw [fed] at lcu lct
      refine ⟨?_, ?_, ?_, ?_, ?_⟩
      · rw [Part.fedDown, fed, Part.dropFeed_pocket]
        rfl
      · simp [Part.fedDown, fed]
      · simp [Part.fedDown, fed]
      · rw [Part.fedDown, fed, lct]
        rfl
      · rw [Part.fedDown, fed, lcu]
        rfl
  refine ⟨fun p k feeding inside => ?current, fun p k dwell feeding other inside => ?earlier, fun p idle => ?unfed,
    fun p k st => ?item⟩
  case current =>
    have dt := ((p.fed k).dropFeed_blocks p.dt.dwell).2.2
    have dwell : (p.fed k).dt.dwell = p.dt.dwell := by rw [p.fed_dt]
    have items : (p.fedDown k p.dt.dwell).dt.items = (p.fed k).dt.items.map (Item.complete .load) := by
      rw [Part.fedDown, dt, if_pos dwell.symm]
    have none : (p.fedDown k p.dt.dwell).waitingLoad = none := by
      rw [Part.waitingLoad, items, find_load_complete]
    have placed : p.placed = p.fedDown k p.dt.dwell := by rw [Part.placed_eq feeding, none]
    rw [placed]
    refine ⟨down p k _ inside, fun i hi load => ?_⟩
    rw [items] at hi
    obtain ⟨j, -, rfl⟩ := List.mem_map.mp hi
    exact Item.complete_not_started load
  case earlier =>
    refine ⟨p.fedDown k dwell, down p k dwell inside, ?_, Part.placed_eq feeding⟩
    have dt := ((p.fed k).dropFeed_blocks dwell).2.2
    have current : (p.fed k).dt.dwell = p.dt.dwell := by rw [p.fed_dt]
    rw [if_neg (current ▸ other)] at dt
    rw [Part.fedDown, dt, p.fed_dt]
  case unfed =>
    rw [Part.placed_of_idle idle]
    refine ⟨fun r hr => ?_, Part.handed_event _ _⟩
    cases r <;> simp [Region.same, Sa.follows_refl] at hr ⊢
  case item =>
    intro q passed done suspended allowed owed
    have isAllowed : p.loadingAllowed = true ↔ allowed := p.loadingAllowed_iff
    refine ⟨fun fed => if_neg fed, fun idle taken => ?_, fun idle vacant eye => ?_, fun idle vacant eye refused => ?_,
      fun idle vacant eye free none => ?_, fun idle vacant eye free some => ?_, fun dwell => rfl⟩
    all_goals have works : q = p.workLoad k := Part.startItem_load_of_idle idle k st
    · rw [works, Part.workLoad_of_taken taken, Part.passUnoffered_complete]
    · rw [works, Part.workLoad_of_eye vacant eye]
      exact Part.completeItem_current _ .load
    · rw [works, Part.workLoad_of_disallowed vacant eye (Bool.not_eq_true _ ▸ isAllowed.not.mpr refused),
        Part.passUnoffered_complete]
    · have offered : p.workLoad k = ({ p with lcu := { p.lcu with thinning := 0 } } : Part).feed k := by
        rw [Part.workLoad_of_allowed vacant eye (isAllowed.mpr free)]
        exact if_pos ((MeterSet.isEmpty_iff _).mpr none)
      rw [works, offered]
      exact Part.feed_eq { p with lcu := { p.lcu with thinning := 0 } } k
    · have offered : p.workLoad k =
          (({ p with lcu := { p.lcu with thinning := 0 } } : Part).reserve k).completeItem .load p.dt.dwell := by
        rw [Part.workLoad_of_allowed vacant eye (isAllowed.mpr free)]
        exact if_neg ((MeterSet.isEmpty_iff _).not.mpr (not_not_intro some))
      rw [works, offered]
      exact Part.reserve_complete { p with lcu := { p.lcu with thinning := 0 } } k

end Sys2Proof.Machine
end

section
/-! What the items of a dwell leave of the dial's flags and of the jam timer (R9 to R17), and the index (R12). -/

namespace Sys2Proof.Machine

/-! ## The dial's flags and the jam timer -/

section
variable (p : Part)

/-- The dial but its pockets and items, and the jam timer. -/
def Part.flags (p : Part) : Bool × Bool × EngineState × Timer :=
  (p.dt.permit, p.dt.indexExpected, p.dt.openedIn, p.lct.timers.jam)

theorem Part.flags_congr {p q : Part} (dt : q.dt = p.dt) (jam : q.lct.timers.jam = p.lct.timers.jam) :
    q.flags = p.flags := by
  simp [Part.flags, dt, jam]

@[simp] theorem Part.setPocket_flags (k : Nat) (x : Pocket) : (p.setPocket k x).flags = p.flags := rfl

@[simp] theorem Part.completeItem_flags (k : ItemKind) (d : Nat) : (p.completeItem k d).flags = p.flags := by
  unfold Part.completeItem
  split <;> rfl

@[simp] theorem Part.noTakeClaim_flags (k : Nat) (m : Meter) (s : ReadingStatus) :
    (p.noTakeClaim k m s).flags = p.flags := by
  unfold Part.noTakeClaim
  (repeat' split) <;> rfl

@[simp] theorem Part.setChannel_flags (m : Meter) (c : Channel) : (p.setChannel m c).flags = p.flags := rfl

@[simp] theorem Part.setTakeTimer_flags (m : Meter) (t : Timer) : (p.setTakeTimer m t).flags = p.flags := rfl

@[simp] theorem Part.nameOwed_flags (m : Meter) : (p.nameOwed m).flags = p.flags :=
  Part.flags_congr (by simp) (by simp)

@[simp] theorem Part.sendTake_flags (m : Meter) (x : TakeKind) (k d : Nat) : (p.sendTake m x k d).flags = p.flags := by
  unfold Part.sendTake
  cases x with
  | take => exact (Part.nameOwed_flags _ m).trans rfl
  | refer => rfl

@[simp] theorem Part.startTakeTimer_flags (m : Meter) : (p.startTakeTimer m).flags = p.flags := by
  unfold Part.startTakeTimer
  split <;> rfl

@[simp] theorem Part.pendTake_flags (m : Meter) (x : TakeKind) (k d : Nat) : (p.pendTake m x k d).flags = p.flags := by
  unfold Part.pendTake
  split <;> simp

@[simp] theorem Part.issueTake_flags (m : Meter) (x : TakeKind) (k d : Nat) : (p.issueTake m x k d).flags = p.flags := by
  unfold Part.issueTake
  split <;> simp

@[simp] theorem Part.settleTakeTimer_flags (m : Meter) : (p.settleTakeTimer m).flags = p.flags := by
  unfold Part.settleTakeTimer
  split <;> simp

@[simp] theorem Part.startTakeItem_flags (m : Meter) (k : Nat) : (p.startTakeItem m k).flags = p.flags := by
  unfold Part.startTakeItem
  dsimp only
  (repeat' split) <;> simp

@[simp] theorem Part.skipTakeItem_flags (m : Meter) (d : Nat) : (p.skipTakeItem m d).flags = p.flags := by
  unfold Part.skipTakeItem
  (repeat' split) <;> simp

@[simp] theorem Part.decision_flags (pl : Plan) (rs : List Reading) : (p.decision pl rs).1.flags = p.flags :=
  Part.flags_congr (by simp) (by simp)

@[simp] theorem Part.decidePocket_flags (k : Nat) : (p.decidePocket k).flags = p.flags := by
  unfold Part.decidePocket
  dsimp only
  (repeat' split) <;> simp

@[simp] theorem Part.setBin_flags (n : Nat) (b : BinEntry) : (p.setBin n b).flags = p.flags := rfl

@[simp] theorem Part.releasePending_flags (n : Nat) : (p.releasePending n).flags = p.flags := rfl

@[simp] theorem Part.firingClaim_flags (n k t d : Nat) (b : Bool) : (p.firingClaim n k t d b).flags = p.flags := by
  simp only [Part.firingClaim]
  (repeat' split) <;> simp

@[simp] theorem Part.endPulse_flags (n : Nat) : (p.endPulse n).flags = p.flags := by
  unfold Part.endPulse
  split
  · rfl
  · exact (Part.firingClaim_flags _ _ _ _ _ _).trans rfl

@[simp] theorem Part.reroute_flags (n k : Nat) : (p.reroute n k).flags = p.flags := by
  unfold Part.reroute
  split
  · dsimp only
    rw [Part.setPocket_flags]
    exact (Part.flags_congr (by simp) (by simp)).trans rfl
  all_goals rfl

@[simp] theorem Part.startFireItem_flags (n k : Nat) : (p.startFireItem n k).flags = p.flags := by
  unfold Part.startFireItem Part.fireGate
  dsimp only
  split
  · split
    · split
      · exact (rfl : _ = (p.endPulse n).flags).trans (p.endPulse_flags n)
      · exact (rfl : _ = (p.endPulse n).flags).trans (p.endPulse_flags n)
    · simp
  · simp

@[simp] theorem Part.skipFireItem_flags (n k : Nat) : (p.skipFireItem n k).flags = p.flags := by
  unfold Part.skipFireItem
  split <;> simp

@[simp] theorem Part.passUnoffered_flags : p.passUnoffered.flags = p.flags := rfl

@[simp] theorem Part.countLot_flags (f : LotCounters → LotCounters) : (p.countLot f).flags = p.flags := rfl

theorem Part.lcu_flags (l : Lcu) : ({ p with lcu := l } : Part).flags = p.flags := rfl

@[simp] theorem Part.reserve_flags (k : Nat) : (p.reserve k).flags = p.flags := rfl

@[simp] theorem Part.feed_flags (k : Nat) : (p.feed k).flags = p.flags := by
  unfold Part.feed
  dsimp only
  split <;> rfl

@[simp] theorem Part.startLoadItem_flags (k : Nat) : (p.startLoadItem k).flags = p.flags := by
  simp only [Part.startLoadItem, Part.workLoad, Part.offer]
  (repeat' split) <;> simp [Part.lcu_flags]

@[simp] theorem Part.handOffFor_flags (b : RecordBody) (d : Option Nat) : (p.handOffFor b d).flags = p.flags :=
  Part.flags_congr (by simp) (by simp)

@[simp] theorem Part.event_flags (e : Event) : (p.event e).flags = p.flags := Part.flags_congr (by simp) (by simp)

@[simp] theorem Part.settlePart_flags (k : Nat) (x : PartRecord) (r : Routing) (d : Disposition) (c : Option Nat) :
    (p.settlePart k x r d c).flags = p.flags :=
  (rfl : _ = (p.handOffFor (.outcome k x (p.planId x.slot) r d) c).flags).trans (by simp)

@[simp] theorem Part.settleCarried_flags (k : Nat) (x : PartRecord) (b : Bool) (c : Option Nat) :
    (p.settleCarried k x b c).flags = p.flags :=
  (rfl : _ = (p.settlePart k x p.carryRouting (if b then .caught else .lost) c).flags).trans (by simp)

@[simp] theorem Part.missedClaim_flags (n t : Nat) : (p.missedClaim n t).flags = p.flags :=
  Part.flags_congr (by simp) (by simp)

@[simp] theorem Part.ejectedClaim_flags (n : Nat) : (p.ejectedClaim n).flags = p.flags := rfl

@[simp] theorem Part.releaseRoute_flags (r : Route) : (p.releaseRoute r).flags = p.flags :=
  Part.flags_congr (by simp) (by simp)

@[simp] theorem Part.rejoinPending_flags (s : MeterSet) : (p.rejoinPending s).flags = p.flags := rfl

@[simp] theorem Part.settleClear_flags (k : Nat) (b : Bool) : (p.settleClear k b).flags = p.flags := by
  unfold Part.settleClear
  dsimp only
  (repeat' split) <;> simp

@[simp] theorem Part.tryCompleteClear_flags (d : Nat) : (p.tryCompleteClear d).flags = p.flags := by
  unfold Part.tryCompleteClear
  dsimp only
  (repeat' split) <;> simp

@[simp] theorem Part.endCatch_flags : p.endCatch.flags = p.flags := by
  unfold Part.endCatch
  split
  · rfl
  · dsimp only
    split
    · exact (Part.tryCompleteClear_flags _ _).trans rfl
    · rfl

@[simp] theorem Part.fireCatch_flags : p.fireCatch.flags = p.flags := by
  unfold Part.fireCatch
  dsimp only
  split
  · exact (rfl : _ = p.endCatch.flags).trans p.endCatch_flags
  · exact (rfl : _ = p.endCatch.flags).trans p.endCatch_flags

@[simp] theorem Part.startClearItem_flags (k : Nat) : (p.startClearItem k).flags = p.flags := by
  unfold Part.startClearItem
  dsimp only
  split <;> simp

@[simp] theorem Part.skipClearItem_flags (k : Nat) : (p.skipClearItem k).flags = p.flags := by
  unfold Part.skipClearItem
  split <;> simp

/-- An item that starts leaves the dial's flags and the jam timer. -/
@[simp] theorem Part.startItem_flags (i : Item) : (p.startItem i).flags = p.flags := by
  unfold Part.startItem
  split
  case h_3 => exact (Part.completeItem_flags _ _ _).trans (p.decidePocket_flags _)
  all_goals simp

/-- An item that is skipped leaves them too. -/
@[simp] theorem Part.skipItem_flags (d : Nat) (i : Item) : (Part.skipItem d p i).flags = p.flags := by
  unfold Part.skipItem
  split
  · rfl
  all_goals simp

end

/-! ## The halt (R146) -/

theorem Part.raiseHalt_eq {p : Part} (h : p.lsq.engine = .run ∨ p.lsq.engine = .drain ∨ p.lsq.engine = .hold)
    (c : HaltCause) :
    p.raiseHalt c =
      ((Part.asOneChange p ((p.setLsq { p.lsq with haltCause := c }).enterEngine .halt)).latch .halt).event
        (.haltEntered c p.lsq.engine p.dt.offset p.dt.dwell) := by
  simp [Part.raiseHalt, h]

theorem Part.raiseHalt_lsq {p : Part} (h : p.lsq.engine = .run ∨ p.lsq.engine = .drain ∨ p.lsq.engine = .hold)
    (c : HaltCause) :
    (p.raiseHalt c).lsq = { p.lsq with engine := .halt, haltCause := c, portLatch := p.lsq.latchOn .halt } := by
  rw [Part.raiseHalt_eq h]
  simp [Part.asOneChange, Part.enterEngine_lsq, Lsq.latchOn]

theorem Part.raiseHalt_timers {p : Part} (h : p.lsq.engine = .run ∨ p.lsq.engine = .drain ∨ p.lsq.engine = .hold)
    (c : HaltCause) :
    (p.raiseHalt c).lct.timers = { p.lct.timers with starvation := p.starvationOn .halt } := by
  rw [Part.raiseHalt_eq h]
  rcases h with e | e | e <;> simp [Part.asOneChange, Part.enterEngine_timers, Part.starvationOn, e]

theorem Part.raiseHalt_attn {p : Part} (h : p.lsq.engine = .run ∨ p.lsq.engine = .drain ∨ p.lsq.engine = .hold)
    (c : HaltCause) : (p.raiseHalt c).attn = (p.latch .halt).attn := by
  rw [Part.raiseHalt_eq h, (Part.event_keeps _ _).2.2.2.2.2.2.2.2.2.1]
  exact Part.latch_attn_congr (by simp [Part.asOneChange]) .halt

theorem Part.handed_raiseHalt {p : Part} (h : p.lsq.engine = .run ∨ p.lsq.engine = .drain ∨ p.lsq.engine = .hold)
    (c : HaltCause) :
    Part.handed p (p.raiseHalt c) [.event (.haltEntered c p.lsq.engine p.dt.offset p.dt.dwell)] := by
  rw [Part.raiseHalt_eq h]
  exact Part.handed_of_left (by simp [Part.asOneChange]) (Part.handed_event _ _)

/-- The engine has entered HALT from a part that shares its Lot Sequencer, its intervals and its starvation timer. -/
theorem Part.entered_raiseHalt {p q : Part}
    (h : q.lsq.engine = .run ∨ q.lsq.engine = .drain ∨ q.lsq.engine = .hold) (c : HaltCause) (lsq : q.lsq = p.lsq)
    (starvation : q.lct.timers.starvation = p.lct.timers.starvation) : Part.entered p (q.raiseHalt c) .halt := by
  refine ⟨by rw [Part.raiseHalt_lsq h], by rw [Part.raiseHalt_lsq h, lsq], ?_⟩
  rw [Part.raiseHalt_timers h]
  simp [Part.starvationOn, lsq, starvation]

/-! ## The turn of the dial (R12, R13) -/

theorem Part.skipItem_starvation (d : Nat) (p : Part) (i : Item) :
    (Part.skipItem d p i).lct.timers.starvation = p.lct.timers.starvation := by
  unfold Part.skipItem Part.skipTakeItem Part.settleTakeTimer
  (repeat' split) <;> simp [Part.skipLoadItem]

/-- The dial has turned, the replaced dwell not yet closed. -/
def Part.turned (p : Part) (g : Geometry) : Part :=
  { p with
    dt :=
      { p.dt with
        offset := (p.dt.offset + 1) % g.pockets, dwell := (p.dt.dwell + 1) % 4294967296, permit := false
        indexExpected := false, items := [] }
    lct := { p.lct with timers := { p.lct.timers with jam := .stopped } } }

/-- The items of the replaced dwell that are skipped (R13). -/
def Part.skippedItems (p : Part) : List Item := p.dt.items.filter (p.itemSkipped p.dt.dwell)

/-- The replaced dwell is closed. -/
def Part.dwellClosed (p : Part) (g : Geometry) : Part :=
  if p.skippedItems = [] then p.turned g
  else
    (p.skippedItems.foldl (Part.skipItem p.dt.dwell) (p.turned g)).event
      (.dwellSkipped p.dt.dwell p.dt.offset p.skippedItems.length)

theorem Part.turnDial_eq (p : Part) (g : Geometry) : p.turnDial g = p.dwellClosed g := by
  have closed : p.turnDial g =
      if p.skippedItems.isEmpty then p.turned g
      else
        (p.skippedItems.foldl (Part.skipItem p.dt.dwell) (p.turned g)).event
          (.dwellSkipped p.dt.dwell p.dt.offset p.skippedItems.length) := rfl
  rw [closed, Part.dwellClosed]
  exact if_congr List.isEmpty_iff rfl rfl

/-- What a closed dwell keeps. -/
theorem Part.dwellClosed_keeps (p : Part) (g : Geometry) :
    (p.dwellClosed g).dt.geometry = p.dt.geometry ∧ (p.dwellClosed g).dt.offset = (p.dt.offset + 1) % g.pockets ∧
      (p.dwellClosed g).dt.dwell = (p.dt.dwell + 1) % 4294967296 ∧ (p.dwellClosed g).flags = (p.turned g).flags ∧
      (p.dwellClosed g).lsq = p.lsq ∧ (p.dwellClosed g).rqx = p.rqx ∧ (p.dwellClosed g).sa = p.sa ∧
      (p.dwellClosed g).cfg = p.cfg ∧ (p.dwellClosed g).lct.lines = p.lct.lines ∧
      (p.dwellClosed g).lct.chain = p.lct.chain ∧
      (p.dwellClosed g).lct.timers.starvation = p.lct.timers.starvation := by
  unfold Part.dwellClosed
  split
  · exact ⟨rfl, rfl, rfl, rfl, rfl, rfl, rfl, rfl, rfl, rfl, rfl⟩
  · have same := fun {β : Type} (view : Part → β) (h : ∀ q i, view (Part.skipItem p.dt.dwell q i) = view q) =>
      Part.foldl_same view (Part.skipItem p.dt.dwell) h p.skippedItems (p.turned g)
    refine ⟨?_, ?_, ?_, ?_, ?_, ?_, ?_, ?_, ?_, ?_, ?_⟩
    · simpa [Part.turned] using same (fun q => q.dt.geometry) (by simp)
    · simpa [Part.turned] using same (fun q => q.dt.offset) (by simp)
    · simpa [Part.turned] using same (fun q => q.dt.dwell) (by simp)
    · simpa using same Part.flags (by simp)
    · simpa [Part.turned] using same Part.lsq (by simp)
    · simpa [Part.turned] using same Part.rqx (by simp)
    · simpa [Part.turned] using same Part.sa (by simp)
    · simpa [Part.turned] using same Part.cfg (by simp)
    · simpa [Part.turned] using same (fun q => q.lct.lines) (by simp)
    · simpa [Part.turned] using same (fun q => q.lct.chain) (by simp)
    · simpa [Part.turned] using same (fun q => q.lct.timers.starvation) (Part.skipItem_starvation _)

/-- The new dwell has its items, DEFERRED, or none in IDLE (R9). -/
def Part.dwellOpened (p : Part) (g : Geometry) : Part :=
  { p.dwellClosed g with
    dt :=
      { (p.dwellClosed g).dt with
        items := if p.lsq.engine = .idle then [] else g.items ((p.dt.offset + 1) % g.pockets)
        openedIn := p.lsq.engine } }

theorem Part.openDwell_eq (p : Part) (g : Geometry) : (p.turnDial g).openDwell g = p.dwellOpened g := by
  obtain ⟨-, offset, -, -, lsq, -⟩ := p.dwellClosed_keeps g
  have engine : (p.dwellClosed g).lsq.engine = p.lsq.engine := by rw [lsq]
  rw [p.turnDial_eq g, Part.openDwell, engine, offset]
  rfl

/-- The index by the engine's state (R12, R15, R17). -/
theorem Part.index_eq {p : Part} {g : Geometry} (held : p.dt.geometry = some g) :
    p.index =
      match p.lsq.engine with
      | .unconfigured => p
      | .idle =>
        if p.dt.indexExpected then p.dwellOpened g
        else (p.dwellOpened g).event (.indexWhileIdle (p.dwellOpened g).dt.offset)
      | .run => if p.dt.indexExpected then (p.dwellOpened g).startDeferred else (p.dwellOpened g).raiseHalt .motion
      | .drain => if p.dt.indexExpected then (p.dwellOpened g).startDeferred else (p.dwellOpened g).raiseHalt .motion
      | .hold => if p.dt.indexExpected then p.dwellOpened g else (p.dwellOpened g).raiseHalt .motion
      | .halt =>
        if p.dt.indexExpected then p.dwellOpened g
        else (p.dwellOpened g).event (.motionInHalt (p.dwellOpened g).dt.offset (p.dwellOpened g).dt.dwell) := by
  rw [← p.openDwell_eq g]
  simp only [Part.index, held] <;>
    rfl

theorem Geometry.items_deferred (g : Geometry) (offset : Nat) : ∀ i ∈ g.items offset, i.state = .deferred := by
  intro i hi
  obtain ⟨x, -, rfl⟩ := List.mem_map.mp hi
  rfl

/-- What names the items of a dwell (R9). -/
theorem Geometry.items_keys (g : Geometry) (offset : Nat) :
    (g.items offset).map (fun i => (i.kind, i.pocket)) =
      ((ItemKind.load, 0) ::
        ((allMeters.filter g.used).map (fun m => (ItemKind.take m, (g.stations.get m).position)) ++
          (ItemKind.decision, g.decision) ::
            (g.gates.zipIdx.map (fun x => (ItemKind.fire x.2, x.1)) ++ [(ItemKind.clear, g.clear)]))).map
        (fun x => (x.1, g.pocketAt offset x.2)) := by
  rw [Geometry.items, List.map_map]
  rfl

/-- Every item of a dwell just opened starts. -/
theorem Part.startDeferred_of_all {p : Part} (h : ∀ i ∈ p.dt.items, i.state = .deferred) :
    p.startDeferred =
      p.dt.items.foldl Part.startItem
        { p with dt := { p.dt with items := p.dt.items.map (fun i => { i with state := .started }) } } := by
  have due : p.dt.items.filter (fun i => i.state == .deferred) = p.dt.items :=
    List.filter_eq_self.mpr fun i hi => by simp [h i hi]
  have started : p.dt.items.map Item.start = p.dt.items.map (fun i => { i with state := .started }) :=
    List.map_congr_left fun i hi => if_pos (h i hi)
  rw [Part.startDeferred, due, started]

/-- The items without output, in the statement's form. -/
theorem Part.itemSkipped_eq (p : Part) (i : Item) :
    p.itemSkipped p.dt.dwell i =
      (i.state == .deferred ||
        (i.state == .started &&
          !(match i.kind with
            | .load => (match p.lcu.feed with | .idle => false | .feeding _ d => d == p.dt.dwell)
            | .take m => (p.channel m).pendingTake.map PendingTake.dwell != some p.dt.dwell
            | .decision => false
            | .fire _ => true
            | .clear => true))) := by
  obtain ⟨kind, pocket, state⟩ := i
  cases state with
  | deferred => rfl
  | complete => rfl
  | started =>
    have other : (ItemState.started == ItemState.deferred) = false := rfl
    cases kind with
    | load => cases feed : p.lcu.feed <;> simp [Part.itemSkipped, feed, other, bne]
    | take m => cases waits : (p.channel m).pendingTake <;> simp [Part.itemSkipped, waits, other, bne]
    | decision => rfl
    | fire n => rfl
    | clear => rfl

/-- What the index leaves after the new dwell is open, whatever follows. -/
def Part.afterOpening (o q : Part) : Prop :=
  q.dt.geometry = o.dt.geometry ∧ q.dt.offset = o.dt.offset ∧ q.dt.dwell = o.dt.dwell ∧ q.flags = o.flags ∧
    q.lct.lines = o.lct.lines ∧ q.lct.chain = o.lct.chain ∧ q.cfg = o.cfg ∧ q.rqx = o.rqx ∧ q.sa = o.sa ∧
    q.dt.items.map Item.key = o.dt.items.map Item.key

theorem Part.afterOpening_refl (o : Part) : Part.afterOpening o o := ⟨rfl, rfl, rfl, rfl, rfl, rfl, rfl, rfl, rfl, rfl⟩

theorem Part.afterOpening_event (o : Part) (e : Event) : Part.afterOpening o (o.event e) := by
  simp [Part.afterOpening]

theorem Part.afterOpening_raiseHalt (o : Part) (c : HaltCause) : Part.afterOpening o (o.raiseHalt c) := by
  have jam : (o.raiseHalt c).lct.timers.jam = o.lct.timers.jam := by
    by_cases working : o.lsq.engine = .run ∨ o.lsq.engine = .drain ∨ o.lsq.engine = .hold
    · rw [Part.raiseHalt_timers working]
    · rw [Part.raiseHalt, if_neg working]
  exact ⟨by simp, by simp, by simp, Part.flags_congr (by simp) jam, by simp, by simp, by simp, by simp, by simp, by simp⟩

theorem Part.startDeferred_flags (o : Part) : o.startDeferred.flags = o.flags :=
  Part.foldl_same Part.flags Part.startItem (by simp) _ _

theorem Part.afterOpening_startDeferred (o : Part) : Part.afterOpening o o.startDeferred :=
  ⟨by simp, by simp, by simp, o.startDeferred_flags, by simp, by simp, by simp, by simp, by simp, by simp⟩

/-- Settles O51. -/
theorem indexTurnsTheDial : Obligations.IndexTurnsTheDial := by
  refine ⟨fun p none => by simp only [Part.index, none], fun p g held => ?_⟩
  intro q e taken
  have index := Part.index_eq held
  refine ⟨fun unconfigured => ?_, fun configured => ?_⟩
  · rw [show p.lsq.engine = .unconfigured from unconfigured] at index
    exact index
  · intro offset dwell
    obtain ⟨o, ho⟩ : ∃ o, o = p.dwellOpened g := ⟨_, rfl⟩
    rw [← ho] at index
    obtain ⟨cgeometry, coffset, cdwell, cflags, clsq, crqx, csa, ccfg, clines, cchain, cstarvation⟩ :=
      p.dwellClosed_keeps g
    have flags : o.flags = (false, false, e, .stopped) := by
      have both := Prod.mk.inj cflags
      obtain ⟨permit, rest⟩ := both
      obtain ⟨expected, rest⟩ := Prod.mk.inj rest
      obtain ⟨-, jam⟩ := Prod.mk.inj rest
      simp only [ho, Part.dwellOpened, Part.flags, permit, expected, jam]
      rfl
    have lsq : o.lsq = p.lsq := by rw [ho]; exact clsq
    have starvation : o.lct.timers.starvation = p.lct.timers.starvation := by rw [ho]; exact cstarvation
    have keys : o.dt.items.map Item.key =
        (if e = .idle then [] else (g.items offset).map (fun i => (i.kind, i.pocket))) := by
      rw [ho]
      change (if p.lsq.engine = .idle then [] else g.items offset).map Item.key = _
      rw [apply_ite (List.map Item.key)]
      rfl
    have deferred : ∀ i ∈ o.dt.items, i.state = .deferred := by
      rw [ho]
      change ∀ i ∈ (if p.lsq.engine = .idle then [] else g.items offset), i.state = .deferred
      split
      · simp
      · exact g.items_deferred offset
    have oOffset : o.dt.offset = offset := by rw [ho]; exact coffset
    have oDwell : o.dt.dwell = dwell := by rw [ho]; exact cdwell
    rw [oOffset, oDwell] at index
    have starts : e = .run ∨ e = .drain → taken = true → q = o.startDeferred := by
      rintro (h | h) t <;> simp only [e] at h <;> simpa [h, show p.dt.indexExpected = true from t] using index
    have stays : e = .idle ∨ e = .hold ∨ e = .halt → taken = true → q = o := by
      rintro (h | h | h) t <;> simp only [e] at h <;> simpa [h, show p.dt.indexExpected = true from t] using index
    have halts : e = .run ∨ e = .drain ∨ e = .hold → taken = false → q = o.raiseHalt .motion := by
      rintro (h | h | h) t <;> simp only [e] at h <;> simpa [h, show p.dt.indexExpected = false from t] using index
    have idles : e = .idle → taken = false → q = o.event (.indexWhileIdle offset) := by
      intro h t
      simp only [e] at h
      simpa [h, show p.dt.indexExpected = false from t] using index
    have moves : e = .halt → taken = false → q = o.event (.motionInHalt offset dwell) := by
      intro h t
      simp only [e] at h
      simpa [h, show p.dt.indexExpected = false from t] using index
    have after : Part.afterOpening o q := by
      cases t : taken with
      | true =>
        cases h : e with
        | unconfigured => exact absurd h configured
        | run => rw [starts (Or.inl h) t]; exact o.afterOpening_startDeferred
        | drain => rw [starts (Or.inr h) t]; exact o.afterOpening_startDeferred
        | idle => rw [stays (Or.inl h) t]; exact o.afterOpening_refl
        | hold => rw [stays (Or.inr (Or.inl h)) t]; exact o.afterOpening_refl
        | halt => rw [stays (Or.inr (Or.inr h)) t]; exact o.afterOpening_refl
      | false =>
        cases h : e with
        | unconfigured => exact absurd h configured
        | run => rw [halts (Or.inl h) t]; exact o.afterOpening_raiseHalt _
        | drain => rw [halts (Or.inr (Or.inl h)) t]; exact o.afterOpening_raiseHalt _
        | hold => rw [halts (Or.inr (Or.inr h)) t]; exact o.afterOpening_raiseHalt _
        | idle => rw [idles h t]; exact o.afterOpening_event _
        | halt => rw [moves h t]; exact o.afterOpening_event _
    obtain ⟨ageometry, aoffset, adwell, aflags, alines, achain, acfg, arqx, asa, akeys⟩ := after
    rw [flags] at aflags
    obtain ⟨permit, rest⟩ := Prod.mk.inj aflags
    obtain ⟨expected, rest⟩ := Prod.mk.inj rest
    obtain ⟨openedIn, jam⟩ := Prod.mk.inj rest
    refine ⟨ageometry.trans ?_, aoffset.trans oOffset, adwell.trans oDwell, permit, expected, openedIn, jam,
      alines.trans ?_, achain.trans ?_, acfg.trans ?_, arqx.trans ?_, asa.trans ?_, ?keys, fun h t => ?started,
      fun h => ?deferred, fun h t => ?still, fun h t => ?halted, fun h t => ?inHalt, fun h t => ?whileIdle, ?core⟩
    · rw [ho]; exact cgeometry.trans held
    · rw [ho]; exact clines
    · rw [ho]; exact cchain
    · rw [ho]; exact ccfg
    · rw [ho]; exact crqx
    · rw [ho]; exact csa
    case keys =>
      refine akeys.trans (keys.trans ?_)
      rw [← g.items_keys offset]
    case started =>
      rw [starts h t]
      exact ⟨by simp [lsq, e], o.startDeferred_started⟩
    case deferred =>
      have same : q.dt.items = o.dt.items := by
        cases t : taken with
        | true =>
          rcases h with h | h | h
          · rw [stays (Or.inr (Or.inl h)) t]
          · rw [stays (Or.inr (Or.inr h)) t]
          · exact absurd (t.symm.trans h) (by decide)
        | false =>
          cases state : e with
          | unconfigured => exact absurd state configured
          | run => rw [halts (Or.inl state) t]; simp
          | drain => rw [halts (Or.inr (Or.inl state)) t]; simp
          | hold => rw [halts (Or.inr (Or.inr state)) t]; simp
          | idle => rw [idles state t]; simp
          | halt => rw [moves state t]; simp
      rw [same]
      exact deferred
    case still => rw [stays h t, lsq]
    case halted =>
      have working : o.lsq.engine = .run ∨ o.lsq.engine = .drain ∨ o.lsq.engine = .hold := by rw [lsq]; exact h
      have handed := Part.handed_raiseHalt working .motion
      rw [lsq, oOffset, oDwell] at handed
      rw [halts h t]
      refine ⟨Part.entered_raiseHalt working .motion lsq starvation, ?_, ?_, ?_, ?_,
        Part.records_of_handed handed (List.mem_singleton_self _)⟩
      · rw [Part.raiseHalt_lsq working]
      · rw [Part.raiseHalt_lsq working, lsq]
      · rw [Part.raiseHalt_lsq working, lsq]
      · rw [Part.raiseHalt_attn working]
        exact Part.latch_sets_bit (Or.inl rfl)
    case inHalt =>
      rw [moves h t]
      exact ⟨by simp [lsq], Part.records_event _ _⟩
    case whileIdle =>
      rw [idles h t]
      exact ⟨by simp [lsq], Part.records_event _ _⟩
    case core =>
      intro turned output skipped closed items opened
      have same : opened = o := by
        have list : skipped = p.skippedItems := List.filter_congr fun i _ => (p.itemSkipped_eq i).symm
        have shut : closed = p.dwellClosed g := by
          simp only [closed, list]
          rfl
        rw [ho]
        simp only [opened, shut]
        rfl
      have list : o.dt.items = items := by rw [ho]; rfl
      rw [same]
      refine ⟨fun h t => ?_, stays, halts, idles, moves⟩
      rw [starts h t, Part.startDeferred_of_all deferred, list]

end Sys2Proof.Machine
end

section
/-! The outstanding work of a channel (R43, R56): reading claims and reference results with FAULT, and what they leave. -/

namespace Sys2Proof.Machine

/-! ## Reading claims (R6) -/

/-- The pocket has an entry of station `m` that holds the take serial `n`. -/
def Pocket.fits (k : Pocket) (m : Meter) (n : Nat) : Bool := (k.entry m).map Reading.serial == some (some n)

theorem Pocket.fits_iff (k : Pocket) (m : Meter) (n : Nat) :
    k.fits m n = true ↔ ∃ e, k.entry m = some e ∧ e.serial = some n := by
  simp [Pocket.fits]

section
variable {p : Part} {k n : Nat} {m : Meter} {status : ReadingStatus} {deviation : Option Int}

theorem Part.readingClaim_eq (p : Part) (k : Nat) (m : Meter) (n : Nat) (status : ReadingStatus)
    (deviation : Option Int) :
    p.readingClaim k m n status deviation =
      if (p.pocket k).fits m n = false then
        (p.event (.staleReport k m n p.dt.offset)).countLot
          (fun c => { c with staleReports := countUp c.staleReports })
      else if (p.pocket k).isCarry then p.writeEntry k m (fun r => { r with status, deviation })
      else
        (p.writeEntry k m (fun r => { r with status, deviation, late := true })).countLot
          (fun c => { c with lateReadings := countUp c.lateReadings }) := by
  have fits : (p.pocket k).fits m n =
      (match (p.pocket k).entry m with | none => false | some r => r.serial == some n) := by
    unfold Pocket.fits
    cases (p.pocket k).entry m <;> rfl
  rw [fits] <;> rfl

/-- No entry of the serial: the report is stale. -/
theorem Part.readingClaim_stale (h : (p.pocket k).fits m n = false) :
    p.readingClaim k m n status deviation =
      (p.event (.staleReport k m n p.dt.offset)).countLot
        (fun c => { c with staleReports := countUp c.staleReports }) := by
  rw [Part.readingClaim_eq, if_pos h]

/-- The part record with the entry of station `m` written. -/
def PartRecord.written (x : PartRecord) (m : Meter) (status : ReadingStatus) (deviation : Option Int) (late : Bool) :
    PartRecord :=
  { x with
    readings :=
      x.readings.map (fun e => if e.station = m then { e with status, deviation, late := late || e.late } else e) }

theorem Part.readingClaim_carry {x : PartRecord} (h : (p.pocket k).fits m n = true) (carry : p.pocket k = .carry x) :
    p.readingClaim k m n status deviation = p.setPocket k (.carry (x.written m status deviation false)) := by
  rw [Part.readingClaim_eq, h, if_neg (by decide), carry]
  simp only [Pocket.isCarry, if_true, Part.writeEntry, carry] <;> rfl

theorem Part.readingClaim_routed {x : PartRecord} {r : Routing} (h : (p.pocket k).fits m n = true)
    (routed : p.pocket k = .routed x r) :
    p.readingClaim k m n status deviation =
      (p.setPocket k (.routed (x.written m status deviation true) r)).countLot
        (fun c => { c with lateReadings := countUp c.lateReadings }) := by
  rw [Part.readingClaim_eq, h, if_neg (by decide), routed]
  simp only [Pocket.isCarry, Bool.false_eq_true, if_false, Part.writeEntry, routed] <;> rfl

theorem Part.readingClaim_spent {x : PartRecord} {r : Routing} {t : Nat} (h : (p.pocket k).fits m n = true)
    (spent : p.pocket k = .spent x r t) :
    p.readingClaim k m n status deviation =
      (p.setPocket k (.spent (x.written m status deviation true) r t)).countLot
        (fun c => { c with lateReadings := countUp c.lateReadings }) := by
  rw [Part.readingClaim_eq, h, if_neg (by decide), spent]
  simp only [Pocket.isCarry, Bool.false_eq_true, if_false, Part.writeEntry, spent] <;> rfl

end

/-- A pocket with an entry that fits holds a part. -/
theorem Pocket.part_of_fits {k : Pocket} {m : Meter} {n : Nat} (h : k.fits m n = true) :
    (∃ x, k = .carry x) ∨ (∃ x r, k = .routed x r) ∨ ∃ x r t, k = .spent x r t := by
  cases k with
  | carry x => exact Or.inl ⟨x, rfl⟩
  | routed x r => exact Or.inr (Or.inl ⟨x, r, rfl⟩)
  | spent x r t => exact Or.inr (Or.inr ⟨x, r, t, rfl⟩)
  | vacant => simp [Pocket.fits, Pocket.entry, Pocket.readings, Pocket.part] at h
  | reserved set => simp [Pocket.fits, Pocket.entry, Pocket.readings, Pocket.part] at h
  | stray => simp [Pocket.fits, Pocket.entry, Pocket.readings, Pocket.part] at h

/-! ## No-take claims (R49) -/

theorem Part.noTakeClaim_eq (p : Part) (k : Nat) (m : Meter) (status : ReadingStatus) :
    p.noTakeClaim k m status =
      match p.pocket k with
      | .carry x =>
        if ((Pocket.carry x).entry m).map (fun e => (e.status, e.serial)) = some (.pending, none) then
          p.setPocket k
            (.carry { x with readings := x.readings.map (fun e => if e.station = m then { e with status } else e) })
        else p
      | _ => p := by
  unfold Part.noTakeClaim Part.writeEntry
  cases carry : p.pocket k with
  | carry x =>
    cases entry : (Pocket.carry x).entry m with
    | none => simp [Pocket.isCarry, entry]
    | some e =>
      by_cases waits : e.status = .pending ∧ e.serial = none
      · simp [Pocket.isCarry, entry, waits, Pocket.mapReadings, updateEntry]
      · have other : ¬ (e.status, e.serial) = (.pending, none) := fun h => waits (Prod.mk.inj h)
        simp only [Pocket.isCarry, entry, if_true, if_neg waits, Option.map_some, Option.some.injEq, if_neg other]
  | vacant => rfl
  | reserved set => rfl
  | routed x r => rfl
  | spent x r t => rfl
  | stray => rfl

/-! ## A reference result without a verdict (R71) -/

theorem Part.nameOwed_of_not_online {p : Part} {m : Meter} (h : (p.channel m).state ≠ .online) : p.nameOwed m = p :=
  if_neg fun ⟨_, _, _, online⟩ => h online

theorem Part.referenceResult_none {p : Part} {m : Meter} (h : (p.rsc.get m).refs = []) (s : ReadingStatus)
    (d : Option Int) : p.referenceResult m s d = p := by
  simp only [Part.referenceResult, h]

theorem Part.referenceResult_fault {p : Part} {m : Meter} {e : RefEntry} {rest : List RefEntry}
    (off : (p.channel m).state ≠ .online) (h : (p.rsc.get m).refs = e :: rest) :
    p.referenceResult m .fault none =
      ((p.setRef m { p.rsc.get m with refs := rest }).coverJudged m e).handOff
        (.check m e.pocket e.kind .fault .none (p.rsc.get m).count (p.rsc.get m).count none) := by
  have judged : ((p.setRef m { p.rsc.get m with refs := rest }).coverJudged m e).nameOwed m =
      (p.setRef m { p.rsc.get m with refs := rest }).coverJudged m e :=
    Part.nameOwed_of_not_online (by simpa [Part.channel] using off)
  have count : (((p.setRef m { p.rsc.get m with refs := rest }).coverJudged m e).rsc.get m).count = (p.rsc.get m).count := by
    simp [Part.coverJudged]
  simp only [Part.referenceResult, h, verdictOf, judged, count]

/-! ## Faulting (R43, R56) -/

/-- From `p` to `q` the work faulted so far has left `f`. -/
def Part.faulted (p q : Part) (f : Faulting) : Prop :=
  q.dt = { p.dt with pockets := f.pockets } ∧ q.lcu = { p.lcu with counters := f.counters } ∧ q.rsc = f.meters ∧
    q.mc = p.mc ∧ q.lsq = p.lsq ∧ q.attn = p.attn ∧ q.lct = p.lct ∧ Part.handed p q f.bodies

theorem Part.faulted_refl (p : Part) : Part.faulted p p p.faulting :=
  ⟨rfl, rfl, rfl, rfl, rfl, rfl, rfl, Part.handed_refl p⟩

section
variable {p q : Part} {f : Faulting}

theorem Part.faulted_pocket (h : Part.faulted p q f) (k : Nat) : q.pocket k = f.pockets.getD k .vacant := by
  rw [Part.pocket, h.1]

theorem Part.faulted_indexCount (h : Part.faulted p q f) : q.indexCount = p.indexCount := by
  rw [Part.indexCount, Part.indexCount, h.1]

/-- A pocket is written. -/
theorem Part.faulted_setPocket (h : Part.faulted p q f) (k : Nat) (x : Pocket) :
    Part.faulted p (q.setPocket k x) { f with pockets := f.pockets.set k x } := by
  obtain ⟨dt, lcu, rsc, mc, lsq, attn, lct, handed⟩ := h
  refine ⟨?_, lcu, rsc, mc, lsq, attn, lct, Part.handed_of_right handed rfl rfl⟩
  rw [Part.setPocket_dt, dt]

/-- A lot counter changes. -/
theorem Part.faulted_countLot (h : Part.faulted p q f) (g : LotCounters → LotCounters) :
    Part.faulted p (q.countLot g) { f with counters := g f.counters } := by
  obtain ⟨dt, lcu, rsc, mc, lsq, attn, lct, handed⟩ := h
  refine ⟨dt, ?_, rsc, mc, lsq, attn, lct, Part.handed_of_right handed rfl rfl⟩
  rw [Part.countLot, lcu]

/-- A record is handed on. -/
theorem Part.faulted_handOff (h : Part.faulted p q f) (b : RecordBody) :
    Part.faulted p (q.handOff b) { f with bodies := f.bodies ++ [b] } := by
  obtain ⟨dt, lcu, rsc, mc, lsq, attn, lct, handed⟩ := h
  exact ⟨by simpa using dt, by simpa using lcu, by simpa using rsc, by simpa using mc, by simpa using lsq,
    by simpa using attn, by simpa using lct,
    Part.handed_trans handed (q.handed_handOff b) (by simp [Part.indexCount])⟩

/-- The scheduler's entry of a meter is written. -/
theorem Part.faulted_setRef (h : Part.faulted p q f) (m : Meter) (r : RefMeter) :
    Part.faulted p (q.setRef m r) { f with meters := f.meters.set m r } := by
  obtain ⟨dt, lcu, rsc, mc, lsq, attn, lct, handed⟩ := h
  refine ⟨dt, lcu, ?_, mc, lsq, attn, lct, Part.handed_of_right handed rfl rfl⟩
  rw [Part.setRef_rsc, rsc]

/-- A tag leaves with FAULT. -/
theorem Part.faulted_faultTag (h : Part.faulted p q f) {m : Meter} (off : (q.channel m).state ≠ .online) (t : Tag) :
    Part.faulted p (q.faultTag m t) (f.tag m p.dt.offset t) := by
  have pocket := Part.faulted_pocket h t.pocket
  have offset : q.dt.offset = p.dt.offset := by rw [h.1]
  cases kind : t.kind with
  | take =>
    have claim : q.faultTag m t = q.readingClaim t.pocket m t.serial .fault none := by simp only [Part.faultTag, kind]
    rw [claim]
    cases fits : (q.pocket t.pocket).fits m t.serial with
    | false =>
      rw [Part.readingClaim_stale fits, offset]
      have tag : f.tag m p.dt.offset t =
          { f with
            counters := { f.counters with staleReports := countUp f.counters.staleReports }
            bodies := f.bodies ++ [.event (.staleReport t.pocket m t.serial p.dt.offset)] } := by
        rw [pocket, Pocket.fits] at fits
        simp only [Faulting.tag, kind, fits]
      rw [tag]
      exact Part.faulted_countLot (Part.faulted_handOff h _) _
    | true =>
      have same : (((f.pockets.getD t.pocket .vacant).entry m).map Reading.serial == some (some t.serial)) = true := by
        rw [← pocket]
        exact fits
      rcases Pocket.part_of_fits fits with ⟨x, carry⟩ | ⟨x, r, routed⟩ | ⟨x, r, n, spent⟩
      · rw [Part.readingClaim_carry fits carry]
        rw [pocket] at carry
        have tag : f.tag m p.dt.offset t =
            { f with pockets := f.pockets.set t.pocket (.carry (x.written m .fault none false)) } := by
          rw [carry] at same
          simp only [Faulting.tag, kind, carry, same] <;> rfl
        rw [tag]
        exact Part.faulted_setPocket h _ _
      · rw [Part.readingClaim_routed fits routed]
        rw [pocket] at routed
        have tag : f.tag m p.dt.offset t =
            { f with
              pockets := f.pockets.set t.pocket (.routed (x.written m .fault none true) r)
              counters := { f.counters with lateReadings := countUp f.counters.lateReadings } } := by
          rw [routed] at same
          simp only [Faulting.tag, kind, routed, same] <;> rfl
        rw [tag]
        exact Part.faulted_countLot (Part.faulted_setPocket h _ _) _
      · rw [Part.readingClaim_spent fits spent]
        rw [pocket] at spent
        have tag : f.tag m p.dt.offset t =
            { f with
              pockets := f.pockets.set t.pocket (.spent (x.written m .fault none true) r n)
              counters := { f.counters with lateReadings := countUp f.counters.lateReadings } } := by
          rw [spent] at same
          simp only [Faulting.tag, kind, spent, same] <;> rfl
        rw [tag]
        exact Part.faulted_countLot (Part.faulted_setPocket h _ _) _
  | refer =>
    have result : q.faultTag m t = q.referenceResult m .fault none := by simp only [Part.faultTag, kind]
    have meters : q.rsc = f.meters := h.2.2.1
    rw [result]
    cases refs : (f.meters.get m).refs with
    | nil =>
      rw [Part.referenceResult_none (by rw [meters, refs])]
      have tag : f.tag m p.dt.offset t = f := by simp only [Faulting.tag, kind, refs]
      rwa [tag]
    | cons e rest =>
      rw [Part.referenceResult_fault off (by rw [meters, refs]), meters]
      have tag : f.tag m p.dt.offset t =
          { f with
            meters :=
              f.meters.set m
                { f.meters.get m with refs := rest, cover := (f.meters.get m).cover.afterReserved e.kind }
            bodies := f.bodies ++ [.check m e.pocket e.kind .fault .none (f.meters.get m).count (f.meters.get m).count none] } := by
        simp only [Faulting.tag, kind, refs] <;> rfl
      have judged := Part.faulted_setRef (Part.faulted_setRef h m { f.meters.get m with refs := rest }) m
        { f.meters.get m with refs := rest, cover := (f.meters.get m).cover.afterReserved e.kind }
      rw [Four.set_set] at judged
      have cover : (q.setRef m { f.meters.get m with refs := rest }).coverJudged m e =
          (q.setRef m { f.meters.get m with refs := rest }).setRef m
            { f.meters.get m with refs := rest, cover := (f.meters.get m).cover.afterReserved e.kind } := by
        simp [Part.coverJudged]
      rw [tag, cover]
      exact Part.faulted_handOff judged _

theorem Part.faulted_channel (h : Part.faulted p q f) (m : Meter) : q.channel m = p.channel m := by
  rw [Part.channel, Part.channel, h.2.2.2.1]

/-- The tags leave, head first. -/
theorem Part.faulted_tags {m : Meter} (off : (p.channel m).state ≠ .online) (ts : List Tag) :
    ∀ {q : Part} {f : Faulting}, Part.faulted p q f →
      Part.faulted p (ts.foldl (fun x t => x.faultTag m t) q) (ts.foldl (fun g t => g.tag m p.dt.offset t) f) := by
  induction ts with
  | nil => exact id
  | cons t rest ih =>
    intro q f h
    exact ih (Part.faulted_faultTag h (by rwa [Part.faulted_channel h]) t)

/-- The pending take is withdrawn. -/
theorem Part.faulted_withdraw (h : Part.faulted p q f) (m : Meter) :
    Part.faulted (p.setChannel m { p.channel m with pendingTake := none }) (q.withdrawFaulted m)
      (f.withdraw m (p.channel m).pendingTake) := by
  have channel := Part.faulted_channel h m
  have moved : Part.faulted (p.setChannel m { p.channel m with pendingTake := none })
      (q.setChannel m { q.channel m with pendingTake := none }) f := by
    obtain ⟨dt, lcu, rsc, mc, lsq, attn, lct, handed⟩ := h
    refine ⟨dt, lcu, rsc, ?_, lsq, attn, lct,
      Part.handed_of_left (q := p) rfl (Part.handed_of_right handed rfl rfl)⟩
    rw [Part.setChannel_mc, Part.setChannel_mc, mc, channel]
  cases waits : (p.channel m).pendingTake with
  | none =>
    have stays : q.withdrawFaulted m = q := by simp only [Part.withdrawFaulted, channel, waits]
    have same : ({ p.channel m with pendingTake := none } : Channel) = p.channel m := by rw [← waits]
    obtain ⟨dt, lcu, rsc, mc, lsq, attn, lct, handed⟩ := h
    rw [stays, same]
    refine ⟨dt, lcu, rsc, ?_, lsq, attn, lct, Part.handed_of_left (q := p) rfl handed⟩
    rw [mc]
    simp [Part.channel]
  | some t =>
    obtain ⟨kind, k, dwell⟩ := t
    cases kind with
    | refer =>
      have withdrawn : q.withdrawFaulted m = q.setChannel m { q.channel m with pendingTake := none } := by
        simp only [Part.withdrawFaulted, channel, waits]
      rw [withdrawn]
      exact moved
    | take =>
      have withdrawn : q.withdrawFaulted m =
          (q.setChannel m { q.channel m with pendingTake := none }).noTakeClaim k m .fault := by
        simp only [Part.withdrawFaulted, channel, waits]
      rw [withdrawn, Part.noTakeClaim_eq]
      have pocket := Part.faulted_pocket moved k
      simp only [Faulting.withdraw]
      rw [pocket]
      cases f.pockets.getD k .vacant with
      | carry x =>
        dsimp only
        split
        · exact Part.faulted_setPocket moved _ _
        · exact moved
      | vacant => exact moved
      | reserved set => exact moved
      | routed x r => exact moved
      | spent x r n => exact moved
      | stray => exact moved

end

/-- The outstanding work of a channel that is not ONLINE is faulted. -/
theorem Part.faultWork_spec {p : Part} {m : Meter} (off : (p.channel m).state ≠ .online) :
    let f := p.faulting.work m p.dt.offset (p.channel m)
    (p.faultWork m).dt =
        { p.dt with pockets := f.pockets, items := p.dt.items.map (Item.complete (.take m)) } ∧
      (p.faultWork m).lcu = { p.lcu with counters := f.counters } ∧ (p.faultWork m).rsc = f.meters ∧
      (p.faultWork m).mc =
        { p.mc with channels := p.mc.channels.set m { p.channel m with queue := [], pendingTake := none } } ∧
      (p.faultWork m).lsq = p.lsq ∧ (p.faultWork m).attn = p.attn ∧ (p.faultWork m).lct = p.lct ∧
      Part.handed p (p.faultWork m) f.bodies := by
  intro f
  obtain ⟨e, he⟩ : ∃ e, e = p.setChannel m { p.channel m with queue := [] } := ⟨_, rfl⟩
  have channel : e.channel m = { p.channel m with queue := [] } := by rw [he, Part.channel_setChannel_self]
  have tags := Part.faulted_tags (p := e) (m := m) (by rw [channel]; exact off) (p.channel m).queue e.faulted_refl
  obtain ⟨dt, lcu, rsc, mc, lsq, attn, lct, handed⟩ := Part.faulted_withdraw tags m
  have work : ((p.channel m).queue.foldl (fun g t => g.tag m e.dt.offset t) e.faulting).withdraw m
      (e.channel m).pendingTake = f := by
    rw [channel, he]
    rfl
  rw [work] at dt lcu rsc handed
  have faulted : p.faultWork m =
      (((p.channel m).queue.foldl (fun x t => x.faultTag m t) e).withdrawFaulted m).completeItem (.take m) p.dt.dwell := by
    rw [he]
    rfl
  have dwell : (((p.channel m).queue.foldl (fun x t => x.faultTag m t) e).withdrawFaulted m).dt.dwell = p.dt.dwell := by
    rw [dt, he]
    rfl
  rw [faulted, ← dwell, Part.completeItem_current]
  refine ⟨?_, lcu.trans (by rw [he]; rfl), rsc, mc.trans ?_, lsq.trans (by rw [he]; rfl), attn.trans (by rw [he]; rfl),
    lct.trans (by rw [he]; rfl), ?_⟩
  · dsimp only
    rw [dt, he] <;> rfl
  · rw [channel, he]
    simp
  · exact Part.handed_of_left (q := e.setChannel m { e.channel m with pendingTake := none }) (by rw [he]; rfl)
      (Part.handed_of_right handed rfl rfl)

end Sys2Proof.Machine
end

section
/-! A channel's state told to the sequencer (R59), a channel's failure (R56) and a setup that fails (R44). -/

namespace Sys2Proof.Machine

/-! ## Telling a channel's state (R59) -/

/-- The hold condition METER reads the channels' roles and states alone. -/
theorem Part.meterCondition_congr {p q : Part}
    (h : ∀ m, (q.channel m).role = (p.channel m).role ∧
      ((q.channel m).state = .online ↔ (p.channel m).state = .online)) :
    q.meterCondition = p.meterCondition := by
  unfold Part.meterCondition
  refine congrArg allMeters.any (funext fun m => ?_)
  obtain ⟨role, state⟩ := h m
  have off : ((q.channel m).state != .online) = ((p.channel m).state != .online) := by
    rw [Bool.eq_iff_iff, bne_iff_ne, bne_iff_ne]
    exact not_congr state
  rw [role, off]

theorem Part.meterCondition_of_mc {p q : Part} (h : q.mc = p.mc) : q.meterCondition = p.meterCondition :=
  Part.meterCondition_congr fun m => by simp [Part.channel, h]

theorem Part.tellChannelState_lsq (p : Part) : p.tellChannelState.lsq = Part.toldOf p p := by
  rw [Part.tellChannelState, Part.toldOf, apply_ite Part.lsq, Part.raiseHold_lsq]

theorem Part.tellChannelState_timers (p : Part) :
    p.tellChannelState.lct.timers =
      { p.lct.timers with
        starvation := if p.meterCondition then p.starvationOn .hold else p.lct.timers.starvation } := by
  unfold Part.tellChannelState
  split
  · rw [Part.raiseHold_timers, Part.starvationOn_hold]
  · rfl

theorem Lct.eq_of_lines {x y : Lct} (lines : x.lines = y.lines) (chain : x.chain = y.chain) :
    x = { y with timers := x.timers } := by
  cases x
  subst lines chain
  rfl

theorem Part.tellChannelState_lct (p : Part) :
    p.tellChannelState.lct =
      { p.lct with
        timers :=
          { p.lct.timers with
            starvation := if p.meterCondition then p.starvationOn .hold else p.lct.timers.starvation } } := by
  obtain ⟨-, lines, chain, -⟩ := p.tellChannelState_fields
  rw [← p.tellChannelState_timers]
  exact Lct.eq_of_lines lines chain

theorem Part.handed_tellChannelState (p : Part) : Part.handed p p.tellChannelState (Part.toldBodies p p) := by
  unfold Part.tellChannelState Part.toldBodies
  split
  · exact p.handed_raiseHold .meter
  · exact p.handed_refl

/-- What the telling comes to reads the sequencer, the dial's offset and the hold condition. -/
theorem Part.toldOf_congr {p q x y : Part} (lsq : x.lsq = p.lsq) (condition : y.meterCondition = q.meterCondition) :
    Part.toldOf x y = Part.toldOf p q := by
  simp only [Part.toldOf, lsq, condition]

theorem Part.toldBodies_congr {p q x y : Part} (lsq : x.lsq = p.lsq) (offset : x.dt.offset = p.dt.offset)
    (condition : y.meterCondition = q.meterCondition) : Part.toldBodies x y = Part.toldBodies p q := by
  simp only [Part.toldBodies, Part.holdBodies, lsq, offset, condition]

theorem Part.starvationOn_congr {p q : Part} (lsq : q.lsq = p.lsq)
    (starvation : q.lct.timers.starvation = p.lct.timers.starvation) :
    q.starvationOn .hold = p.starvationOn .hold := by
  rw [Part.starvationOn_hold, Part.starvationOn_hold, lsq, starvation]

/-! ## A channel written, its take timer stopped -/

/-- From `p` to `q` channel `m` is `c` and its take timer is stopped; nothing else changed but the items noted. -/
def Part.stoppedAt (p q : Part) (m : Meter) (c : Channel) : Prop :=
  { q with changed := p.changed } =
    { p with
      mc := { p.mc with channels := p.mc.channels.set m c }
      lct := { p.lct with timers := { p.lct.timers with take := p.lct.timers.take.set m .stopped } } }

section
variable {p q : Part} {m : Meter} {c : Channel}

theorem Part.stoppedAt_fields (h : Part.stoppedAt p q m c) :
    q.dt = p.dt ∧ q.lcu = p.lcu ∧ q.mc = { p.mc with channels := p.mc.channels.set m c } ∧ q.rsc = p.rsc ∧
      q.lsq = p.lsq ∧ q.rqx = p.rqx ∧ q.jw = p.jw ∧ q.sa = p.sa ∧ q.attn = p.attn ∧ q.ps = p.ps ∧ q.gbt = p.gbt ∧
      q.cfg = p.cfg ∧ q.draws = p.draws ∧
      q.lct = { p.lct with timers := { p.lct.timers with take := p.lct.timers.take.set m .stopped } } := by
  obtain ⟨dt, lcu, mc, rsc, ps, gbt, lsq, rqx, jw, sa, attn, cfg, lct, -, draws⟩ := Part.mk.inj h
  exact ⟨dt, lcu, mc, rsc, lsq, rqx, jw, sa, attn, ps, gbt, cfg, draws, lct⟩

theorem Part.stoppedAt_channel (h : Part.stoppedAt p q m c) : q.channel m = c := by
  obtain ⟨-, -, mc, -⟩ := Part.stoppedAt_fields h
  simp [Part.channel, mc]

end

/-- The outstanding work of a channel just written, its take timer stopped. -/
theorem Part.faultWork_stopped {p e : Part} {m : Meter} {c : Channel} (h : Part.stoppedAt p e m c)
    (off : c.state ≠ .online) :
    let f := p.faulting.work m p.dt.offset c
    let w := e.faultWork m
    w.dt = { p.dt with pockets := f.pockets, items := p.dt.items.map (Item.complete (.take m)) } ∧
      w.lcu = { p.lcu with counters := f.counters } ∧ w.rsc = f.meters ∧
      w.mc = { p.mc with channels := p.mc.channels.set m { c with queue := [], pendingTake := none } } ∧
      w.lsq = p.lsq ∧ w.lct = { p.lct with timers := { p.lct.timers with take := p.lct.timers.take.set m .stopped } } ∧
      w.attn = p.attn ∧ Part.handed p w f.bodies ∧
      w.rqx = p.rqx ∧ w.sa = p.sa ∧ w.ps = p.ps ∧ w.gbt = p.gbt ∧ w.cfg = p.cfg ∧ w.draws = p.draws := by
  intro f w
  obtain ⟨edt, elcu, emc, ersc, elsq, erqx, ejw, esa, eattn, eps, egbt, ecfg, edraws, elct⟩ := Part.stoppedAt_fields h
  have channel := Part.stoppedAt_channel h
  obtain ⟨dt, lcu, rsc, mc, lsq, attn, lct, handed⟩ := Part.faultWork_spec (p := e) (m := m) (by rwa [channel])
  have work : e.faulting.work m e.dt.offset (e.channel m) = f := by
    simp only [channel, Part.faulting, edt, elcu, ersc, f]
  rw [work] at dt lcu rsc handed
  refine ⟨?_, ?_, rsc, ?_, lsq.trans elsq, lct.trans elct, attn.trans eattn, Part.handed_of_left ejw handed, ?_⟩
  · rw [show w.dt = _ from dt, edt]
  · rw [show w.lcu = _ from lcu, elcu]
  · rw [show w.mc = _ from mc, channel, emc, Four.set_set]
  · simp [w, erqx, esa, eps, egbt, ecfg, edraws]

/-! ## A channel fails (R56, R59) -/

theorem Channel.linkEnded_of_free {c : Channel} (rdy : c.rememberedRdy = false) (due : c.setupDue = false) :
    c.linkEnded = { c with link := .idle } := by
  simp [Channel.linkEnded, rdy, due]

/-- The channel after a failure. -/
def Channel.failed (c : Channel) : Channel :=
  { c with state := .offline, link := .idle, rememberedRdy := false, setupDue := false }

/-- What follows the channel's turn to OFFLINE in a failure. -/
def Part.failing (e : Part) (m : Meter) (cause : ChannelCause) (n offset : Nat) : Part :=
  (((e.faultWork m).event (.channelOffline m cause n offset)).latch .meter).tellChannelState

theorem Part.failChannel_eq (p : Part) (m : Meter) (cause : ChannelCause) :
    p.failChannel m cause =
      ((p.setChannel m (p.channel m).failed).setTakeTimer m .stopped).failing m cause (p.channel m).queue.length
        p.dt.offset := rfl

/-- A channel's failure, whatever its inputs and its take timer were. -/
theorem Part.failing_spec {p e : Part} {m : Meter} {c : Channel} (h : Part.stoppedAt p e m c.failed)
    (cause : ChannelCause) :
    let f := p.faulting.work m p.dt.offset c
    let t := e.failing m cause c.queue.length p.dt.offset
    t.dt = { p.dt with pockets := f.pockets, items := p.dt.items.map (Item.complete (.take m)) } ∧
      t.lcu = { p.lcu with counters := f.counters } ∧ t.rsc = f.meters ∧
      t.mc =
        { p.mc with
          channels := p.mc.channels.set m { c.failed with queue := [], pendingTake := none } } ∧
      t.lsq = Part.toldOf p t ∧
      t.lct =
        { p.lct with
          timers :=
            { p.lct.timers with
              take := p.lct.timers.take.set m .stopped
              starvation := if t.meterCondition then p.starvationOn .hold else p.lct.timers.starvation } } ∧
      t.attn = (p.latch .meter).attn ∧
      Part.handed p t
        (f.bodies ++ [.event (.channelOffline m cause c.queue.length p.dt.offset)] ++ Part.toldBodies p t) ∧
      t.rqx = p.rqx ∧ t.sa = p.sa ∧ t.ps = p.ps ∧ t.gbt = p.gbt ∧ t.cfg = p.cfg ∧ t.draws = p.draws := by
  intro f t
  obtain ⟨dt, lcu, rsc, mc, lsq, lct, attn, handed, rqx, sa, ps, gbt, cfg, draws⟩ :=
    Part.faultWork_stopped h ChannelState.noConfusion
  obtain ⟨v, hv⟩ : ∃ v, v = ((e.faultWork m).event (.channelOffline m cause c.queue.length p.dt.offset)).latch .meter :=
    ⟨_, rfl⟩
  have told : t = v.tellChannelState := by rw [hv]; rfl
  have vlsq : v.lsq = p.lsq := by rw [hv]; simpa using lsq
  have vdt : v.dt = { p.dt with pockets := f.pockets, items := p.dt.items.map (Item.complete (.take m)) } := by
    rw [hv]
    simp [dt, f] <;> rfl
  have vlct : v.lct = { p.lct with timers := { p.lct.timers with take := p.lct.timers.take.set m .stopped } } := by
    rw [hv]
    simpa using lct
  have condition : t.meterCondition = v.meterCondition := Part.meterCondition_of_mc (by simp [told])
  have events : Part.handed p v (f.bodies ++ [.event (.channelOffline m cause c.queue.length p.dt.offset)]) := by
    have joined := Part.handed_trans handed
      ((e.faultWork m).handed_event (.channelOffline m cause c.queue.length p.dt.offset)) (by simp [Part.indexCount])
    rw [hv]
    exact Part.handed_of_right joined (by simp) (by simp [Part.indexCount])
  refine ⟨?_, ?_, ?_, ?_, ?_, ?_, ?_, ?_, ?_⟩
  · simp [told, vdt]
  · simp [told, hv, lcu, f] <;> rfl
  · simp [told, hv, rsc, f] <;> rfl
  · simp [told, hv, mc]
  · rw [told, Part.tellChannelState_lsq]
    exact Part.toldOf_congr vlsq (by rw [← told, condition])
  · rw [condition, told, Part.tellChannelState_lct, Part.starvationOn_congr vlsq (by rw [vlct]), vlct]
  · rw [told, (Part.tellChannelState_keeps v).2.2.2.2.2.2.2.2.1, hv]
    exact Part.latch_attn_congr (by simp [attn]) .meter
  · rw [told]
    have both := Part.handed_trans events v.handed_tellChannelState (by simp [Part.indexCount])
    rwa [Part.toldBodies_congr (p := p) (q := v.tellChannelState) vlsq (by rw [vdt]) (by rw [← told, condition])] at both
  · simp only [Part.faultWork_keeps] at rqx sa ps gbt cfg draws
    simp [told, hv, rqx, sa, ps, gbt, cfg, draws]

/-- The dial whose pockets and items alone changed, before what follows the command. -/
theorem Dt.same_of_work {x y z : Dt} (h : { x with permit := y.permit, indexExpected := y.indexExpected } = y)
    (k : { y with pockets := z.pockets, items := z.items } = z) :
    { x with pockets := z.pockets, items := z.items, permit := z.permit, indexExpected := z.indexExpected } = z := by
  have permit : y.permit = z.permit := by rw [← k]
  have expected : y.indexExpected = z.indexExpected := by rw [← k]
  rw [← permit, ← expected]
  exact (congrArg (fun d : Dt => { d with pockets := z.pockets, items := z.items }) h).trans k

theorem Part.faultedTo_commit {p t : Part} {f : Faulting} {items : List Item}
    (dt : t.dt = { p.dt with pockets := f.pockets, items }) (lcu : t.lcu = { p.lcu with counters := f.counters })
    (rsc : t.rsc = f.meters) : Part.faultedTo p (Part.commit p t) f items := by
  have same := Dt.same_of_work (z := p.dt) (Part.commit_dial p t) (by rw [dt])
  exact ⟨by simp [dt], by simp [dt], same, by simp [lcu], by simp [rsc]⟩

theorem Part.channelFailed_commit {p e t : Part} {m : Meter} {c : Channel} {cause : ChannelCause}
    (h : Part.stoppedAt p e m c.failed)
    (same : { t with changed := p.changed } =
      { e.failing m cause c.queue.length p.dt.offset with changed := p.changed }) :
    Part.channelFailed p (Part.commit p t) m c cause := by
  obtain ⟨tdt, tlcu, tmc, trsc, tps, tgbt, tlsq, trqx, tjw, tsa, tattn, tcfg, tlct, -, tdraws⟩ := Part.mk.inj same
  obtain ⟨dt, lcu, rsc, mc, lsq, lct, attn, handed, rqx, sa, ps, gbt, cfg, draws⟩ := Part.failing_spec h cause
  have condition : (Part.commit p t).meterCondition = (e.failing m cause c.queue.length p.dt.offset).meterCondition :=
    Part.meterCondition_of_mc (by simp [tmc])
  refine ⟨?_, Part.faultedTo_commit (tdt.trans dt) (tlcu.trans lcu) (trsc.trans rsc), ?_, ?_, ?_, ?_,
    Part.keepsBut_commit fun r hr => ?_⟩
  · simp only [Part.commit_blocks, tmc, mc] <;> rfl
  · simp only [Part.commit_blocks, tlsq, lsq, Part.toldOf, condition]
  · rw [Part.commit_timers_eq, tlct, lct, Part.toldTimers, condition]
  · simp [tattn, attn]
  · have events := Part.handed_commit p (Part.handed_of_right handed tjw (by simp [Part.indexCount, tdt]))
    rwa [Part.toldBodies_congr (p := p) (q := Part.commit p t) rfl rfl condition.symm] at events
  · cases r <;> simp_all [Region.same, Sa.follows_refl]

/-- A channel fails, its inputs those of `c`. -/
theorem Part.channelFailed_failChannel (p : Part) (m : Meter) (c : Channel) (cause : ChannelCause) :
    Part.channelFailed p (Part.commit p ((p.setChannel m c).failChannel m cause)) m c cause := by
  rw [Part.failChannel_eq, Part.channel_setChannel_self]
  refine Part.channelFailed_commit (e := ((p.setChannel m c).setChannel m c.failed).setTakeTimer m .stopped) ?_ rfl
  simp [Part.stoppedAt, Part.setTakeTimer, Part.setTimers]

/-! ## The end of a request within a command (R157) -/

theorem Part.endRequest_requests (p : Part) (r : Result) :
    (p.endRequest r).rqx = { p.rqx with current := none } ∧
      (p.endRequest r).sa =
        { p.sa with
          request := p.sa.request ++ p.rqx.current.toList.flatMap (fun c => r.writes c.address c.notify .plain) } := by
  cases current : p.rqx.current with
  | none =>
    have stays : p.endRequest r = p := by simp only [Part.endRequest, Part.endRequestAs, current]
    rw [stays]
    exact ⟨by rw [← current], by simp⟩
  | some c =>
    simp [Part.endRequest, Part.endRequestAs, current]

/-- A request has ended, wherever in the command that happened. -/
theorem Part.ended_commit {p t : Part} (b : Part) {r : Result} (rqx : t.rqx = { p.rqx with current := none })
    (sa : t.sa =
      { p.sa with
        request := p.sa.request ++ p.rqx.current.toList.flatMap (fun c => r.writes c.address c.notify .plain) }) :
    Part.ended p (Part.commit b t) r :=
  ⟨by simp [rqx], by simp [rqx], by simp [rqx], Part.filed_commit sa b⟩

/-! ## A setup ends (R44) -/

theorem Channel.nextTransfer_state (c : Channel) : c.nextTransfer.state = c.state ∧ c.nextTransfer.role = c.role := by
  unfold Channel.nextTransfer
  (repeat' split) <;> exact ⟨rfl, rfl⟩

/-- Beginning the next transfer leaves the hold condition METER. -/
theorem Part.meterCondition_beginNextTransfer (p : Part) (m : Meter) :
    (p.beginNextTransfer m).meterCondition = p.meterCondition := by
  refine Part.meterCondition_congr fun n => ?_
  by_cases same : n = m
  · subst same
    obtain ⟨state, role⟩ := (p.channel n).nextTransfer_state
    rw [Part.beginNextTransfer, Part.channel_setChannel_self]
    exact ⟨role, by rw [state]⟩
  · rw [Part.beginNextTransfer, Part.channel_setChannel_ne p _ same]
    exact ⟨rfl, Iff.rfl⟩

/-- The outcome reaches METER RESTART. -/
theorem Part.giveSetupOutcome_restart (p : Part) (m : Meter) (outcome : ChannelCause) :
    p.giveSetupOutcome m .meterRestart outcome =
      p.endRequest { code := if outcome = .online then .ok else .meterFailed } := rfl

/-- The outcome reaches START LOT. -/
theorem Part.giveSetupOutcome_startLot (p : Part) (m : Meter) (outcome : ChannelCause) :
    p.giveSetupOutcome m .startLot outcome = { p with lsq := p.lsq.withOutcome m outcome } := by
  unfold Part.giveSetupOutcome Lsq.withOutcome
  cases start : p.lsq.startLot with
  | none => rfl
  | some w =>
    obtain ⟨lot, nominal, slot, context, phase⟩ := w
    cases phase <;> rfl

/-- What a setup's end leaves, once the channel's own part is done: `e` is told and the outcome is given. -/
def Part.answering (e : Part) (m : Meter) (asker : SetupAsker) (outcome : ChannelCause) : Part :=
  (e.tellChannelState.giveSetupOutcome m asker outcome).beginNextTransfer m

theorem Part.answering_mc (e : Part) (m : Meter) (asker : SetupAsker) (outcome : ChannelCause) :
    (e.answering m asker outcome).mc =
      { e.mc with channels := e.mc.channels.set m (e.channel m).nextTransfer } := by
  simp [Part.answering, Part.beginNextTransfer, Part.channel]

theorem Part.answering_condition (e : Part) (m : Meter) (asker : SetupAsker) (outcome : ChannelCause) :
    (e.answering m asker outcome).meterCondition = e.meterCondition := by
  rw [Part.answering, Part.meterCondition_beginNextTransfer]
  exact Part.meterCondition_of_mc (by simp)

theorem Part.answering_keeps (e : Part) (m : Meter) (asker : SetupAsker) (outcome : ChannelCause) :
    (e.answering m asker outcome).dt = e.dt ∧ (e.answering m asker outcome).lcu = e.lcu ∧
      (e.answering m asker outcome).rsc = e.rsc ∧ (e.answering m asker outcome).ps = e.ps ∧
      (e.answering m asker outcome).gbt = e.gbt ∧ (e.answering m asker outcome).attn = e.attn ∧
      (e.answering m asker outcome).cfg = e.cfg ∧ (e.answering m asker outcome).draws = e.draws ∧
      (e.answering m asker outcome).jw = e.tellChannelState.jw ∧
      (e.answering m asker outcome).lct = e.tellChannelState.lct := by
  simp [Part.answering]

/-- From `p`, the channel's own part of a setup's end has left `e`, and no request or sequencer change came with it. -/
theorem Part.setupAnswered_answering {p e : Part} (m : Meter) (w : SetupWork) (outcome : ChannelCause)
    (lsq : e.lsq = p.lsq) (rqx : e.rqx = p.rqx) (sa : e.sa = p.sa) :
    Part.setupAnswered p (Part.commit p (e.answering m w.asker outcome)) m w outcome
      (if outcome = .online then .ok else .meterFailed) := by
  have condition : (Part.commit p (e.answering m w.asker outcome)).meterCondition = e.tellChannelState.meterCondition := by
    rw [Part.meterCondition_of_mc (p := e.answering m w.asker outcome) (by simp), Part.answering_condition]
    exact (Part.meterCondition_of_mc (by simp)).symm
  have told : e.tellChannelState.lsq = Part.toldOf p (Part.commit p (e.answering m w.asker outcome)) := by
    rw [Part.tellChannelState_lsq]
    refine Part.toldOf_congr lsq (condition.trans (Part.meterCondition_of_mc (by simp))).symm
  constructor
  · intro asker
    rw [← told, asker]
    have ends := e.tellChannelState.endRequest_requests { code := if outcome = .online then .ok else .meterFailed }
    refine ⟨?_, Part.ended_commit p ?_ ?_⟩
    · simp [Part.answering, Part.giveSetupOutcome_restart]
    · simpa [Part.answering, Part.giveSetupOutcome_restart, rqx] using ends.1
    · simpa [Part.answering, Part.giveSetupOutcome_restart, rqx, sa] using ends.2
  · intro asker
    rw [← told, asker]
    refine ⟨?_, ?_, Part.filed_commit ?_ p⟩
    · simp [Part.answering, Part.giveSetupOutcome_startLot]
    · simp [Region.same, Part.answering, Part.giveSetupOutcome_startLot, rqx]
    · simp [Part.answering, Part.giveSetupOutcome_startLot, sa]

/-- The channel's own part of a setup's end has left `e` and handed `xs`: what the telling adds. -/
theorem Part.answering_commit {p e : Part} {m : Meter} {xs : List RecordBody} (asker : SetupAsker) (outcome : ChannelCause)
    (lsq : e.lsq = p.lsq) (offset : e.dt.offset = p.dt.offset)
    (lct : e.lct = { p.lct with timers := { p.lct.timers with take := p.lct.timers.take.set m .stopped } })
    (handed : Part.handed p e xs) :
    let q := Part.commit p (e.answering m asker outcome)
    q.lct.timers = Part.toldTimers p q m ∧ Part.handed p q (xs ++ Part.toldBodies p q) := by
  intro q
  obtain ⟨dt, -, -, -, -, -, -, -, jw, qlct⟩ := e.answering_keeps m asker outcome
  have condition : q.meterCondition = e.meterCondition := by
    rw [← e.answering_condition m asker outcome]
    exact Part.meterCondition_of_mc (by simp [q])
  constructor
  · rw [Part.commit_timers_eq, qlct, Part.tellChannelState_lct, Part.toldTimers, condition,
      Part.starvationOn_congr lsq (by rw [lct]), lct]
  · have both := Part.handed_trans handed e.handed_tellChannelState (by simp [Part.indexCount])
    rw [Part.toldBodies_congr (p := p) (q := q) lsq offset condition.symm] at both
    exact Part.handed_commit p (Part.handed_of_right both jw (by simp [Part.indexCount, dt]))

/-- The channel after a setup that failed. -/
def Channel.setupEnded (c : Channel) : Channel :=
  { c with state := .offline, setup := none, setupDue := false, link := .idle }

theorem Part.endSetup_fails {p : Part} {m : Meter} {w : SetupWork} {cause : ChannelCause}
    (setup : (p.channel m).setup = some w) (fails : cause ≠ .online) :
    p.endSetup m cause =
      (((p.setTakeTimer m .stopped).setChannel m (p.channel m).setupEnded).event (.setupFailed m cause)).answering m
        w.asker cause := by
  simp only [Part.endSetup, setup, if_neg fails] <;> rfl

/-- A setup fails, whatever the channel's inputs and its take timer were. -/
theorem Part.setupFailed_commit {p e t : Part} {m : Meter} {c : Channel} {w : SetupWork} {cause : ChannelCause}
    (fails : cause ≠ .online) (h : Part.stoppedAt p e m c.setupEnded)
    (form : t = (e.event (.setupFailed m cause)).answering m w.asker cause) :
    Part.setupFailed p (Part.commit p t) m c w cause := by
  obtain ⟨edt, elcu, emc, ersc, elsq, erqx, ejw, esa, eattn, eps, egbt, ecfg, edraws, elct⟩ := Part.stoppedAt_fields h
  have channel := Part.stoppedAt_channel h
  obtain ⟨v, hv⟩ : ∃ v, v = e.event (.setupFailed m cause) := ⟨_, rfl⟩
  rw [← hv] at form
  obtain ⟨dt, lcu, rsc, ps, gbt, attn, cfg, draws, -, lct⟩ := v.answering_keeps m w.asker cause
  have vlsq : v.lsq = p.lsq := by simp [hv, elsq]
  have events : Part.handed p v [.event (.setupFailed m cause)] := by
    rw [hv]
    exact Part.handed_of_left ejw (Part.handed_event _ _)
  obtain ⟨timers, handed⟩ := Part.answering_commit w.asker cause vlsq (by simp [hv, edt]) (by simpa [hv] using elct) events
  rw [form]
  refine ⟨?_, timers, handed, ?_, Part.keepsBut_commit fun r hr => ?_⟩
  · have link : c.setupEnded.nextTransfer =
        Channel.linkEnded { c with state := .offline, setup := none, setupDue := false } :=
      Channel.nextTransfer_idle { c with state := .offline, setup := none, setupDue := false }
    have at_ : v.channel m = c.setupEnded := by simpa [hv, Part.channel] using channel
    have mc := v.answering_mc m w.asker cause
    have vmc : v.mc = { p.mc with channels := p.mc.channels.set m c.setupEnded } := by simpa [hv] using emc
    rw [at_, link, vmc] at mc
    simpa using mc
  · have answered := Part.setupAnswered_answering (p := p) (e := v) m w cause vlsq (by simp [hv, erqx]) (by simp [hv, esa])
    rwa [if_neg fails] at answered
  · cases r <;> simp_all [Region.same]

theorem Part.setupFailed_endSetup {p : Part} {m : Meter} {c : Channel} {w : SetupWork} {cause : ChannelCause}
    (setup : c.setup = some w) (fails : cause ≠ .online) :
    Part.setupFailed p (Part.commit p ((p.setChannel m c).endSetup m cause)) m c w cause := by
  refine Part.setupFailed_commit
    (e := ((p.setChannel m c).setTakeTimer m .stopped).setChannel m c.setupEnded) fails ?_ ?_
  · simp [Part.stoppedAt, Part.setTakeTimer, Part.setTimers]
  · rw [Part.endSetup_fails (by rwa [Part.channel_setChannel_self]) fails, Part.channel_setChannel_self]

end Sys2Proof.Machine
end

section
/-! The edges of a meter's lines (R38, R51, R52, R55, R57). -/

namespace Sys2Proof.Machine

/-! ## Stages of the tags -/

/-- The first tag in the stage goes on to the next. -/
theorem advanceStage_append {x y : TagStage} {a b : List Tag} {k : Tag} (before : ∀ t ∈ a, t.stage ≠ x)
    (stage : k.stage = x) : advanceStage x y (a ++ k :: b) = a ++ { k with stage := y } :: b := by
  induction a with
  | nil => exact if_pos stage
  | cons t rest ih =>
    have head : t.stage ≠ x := before t (List.mem_cons_self ..)
    have tail := ih fun u hu => before u (List.mem_cons_of_mem _ hu)
    rw [List.cons_append, advanceStage, if_neg head, tail, List.cons_append]

theorem find_stage_append {x : TagStage} {a b : List Tag} {k : Tag} (before : ∀ t ∈ a, t.stage ≠ x)
    (stage : k.stage = x) : (a ++ k :: b).find? (fun t => t.stage == x) = some k := by
  have none : a.find? (fun t => t.stage == x) = none := List.find?_eq_none.mpr fun t ht => by simpa using before t ht
  simp [List.find?_append, none, stage]

/-! ## The four edges, by the channel's state -/

section
variable {p : Part} {m : Meter}

theorem Part.acqRises_setup (h : (p.channel m).state = .setup) :
    p.acqRises m = (p.setChannel m { p.channel m with acq := true }).endSetup m (.protocol .acq) := by
  simp [Part.acqRises, h]

theorem Part.acqRises_sent (h : (p.channel m).state = .online ∨ (p.channel m).state = .suspect)
    (sent : (p.channel m).queue.any (fun t => t.stage == .sent) = true) :
    p.acqRises m =
      (p.setChannel m { p.channel m with acq := true }).setChannel m
        { p.channel m with acq := true, queue := advanceStage .sent .acquiring (p.channel m).queue } := by
  have other : (p.channel m).state ≠ .setup := by rcases h with h | h <;> simp [h]
  simp [Part.acqRises, h, other, sent]

theorem Part.acqRises_unsent (h : (p.channel m).state = .online ∨ (p.channel m).state = .suspect)
    (sent : (p.channel m).queue.any (fun t => t.stage == .sent) = false) :
    p.acqRises m = (p.setChannel m { p.channel m with acq := true }).failChannel m (.protocol .acq) := by
  have other : (p.channel m).state ≠ .setup := by rcases h with h | h <;> simp [h]
  simp [Part.acqRises, h, other, sent]

theorem Part.acqRises_other (h : (p.channel m).state = .offline ∨ (p.channel m).state = .unused) :
    p.acqRises m = p.setChannel m { p.channel m with acq := true } := by
  rcases h with h | h <;> simp [Part.acqRises, h]

theorem Part.acqFalls_acquiring {k : Tag} (h : (p.channel m).state = .online ∨ (p.channel m).state = .suspect)
    (found : (p.channel m).queue.find? (fun t => t.stage == .acquiring) = some k) :
    p.acqFalls m =
      let r :=
        ((p.setChannel m { p.channel m with acq := false }).setChannel m
          { p.channel m with acq := false, queue := advanceStage .acquiring .converting (p.channel m).queue }).completeItem
            (.take m) k.dwell
      if (p.channel m).pendingTake.isSome then r else r.setTakeTimer m .stopped := by
  simp only [Part.acqFalls, Part.channel_setChannel_self, if_pos h, found]

theorem Part.acqFalls_other (h : (p.channel m).state = .offline ∨ (p.channel m).state = .unused ∨
    (p.channel m).state = .setup ∨ ∀ t ∈ (p.channel m).queue, t.stage ≠ .acquiring) :
    p.acqFalls m = p.setChannel m { p.channel m with acq := false } := by
  simp only [Part.acqFalls, Part.channel_setChannel_self]
  by_cases working : (p.channel m).state = .online ∨ (p.channel m).state = .suspect
  · have none : (p.channel m).queue.find? (fun t => t.stage == .acquiring) = none := by
      refine List.find?_eq_none.mpr fun t ht => ?_
      rcases h with h | h | h | h
      · simp [h] at working
      · simp [h] at working
      · simp [h] at working
      · simpa using h t ht
    rw [if_pos working, none]
  · rw [if_neg working]

end

/-! ## A channel written and nothing else -/

theorem Part.otherChannels_of_mc {p q : Part} {m : Meter} {c : Channel}
    (h : q.mc.channels = p.mc.channels.set m c) : Part.otherChannels p q m := by
  intro x hx
  rw [Part.channel, Part.channel, h, Four.get_set_ne _ _ hx]

theorem Part.channel_of_mc {p q : Part} {m : Meter} {c : Channel} (h : q.mc.channels = p.mc.channels.set m c) :
    q.channel m = c := by
  rw [Part.channel, h, Four.get_set_self]

theorem Part.setChannel_commit (p : Part) (m : Meter) (c : Channel) :
    (Part.commit p (p.setChannel m c)).channel m = c ∧
      Part.otherChannels p (Part.commit p (p.setChannel m c)) m ∧
      Part.keepsBut [.meters] p (Part.commit p (p.setChannel m c)) := by
  refine ⟨Part.channel_of_mc (p := p) (by simp), Part.otherChannels_of_mc (c := c) (by simp),
    Part.keepsBut_commit fun r hr => ?_⟩
  cases r <;> simp [Region.same, Sa.follows_refl] at hr ⊢

theorem Part.faultByState_setup {p : Part} {m : Meter} (h : (p.channel m).state = .setup) (cause : ChannelCause) :
    p.faultByState m cause = p.endSetup m cause := by
  simp only [Part.faultByState, h]

theorem Part.faultByState_working {p : Part} {m : Meter}
    (h : (p.channel m).state = .online ∨ (p.channel m).state = .suspect) (cause : ChannelCause) :
    p.faultByState m cause = p.failChannel m cause := by
  rcases h with h | h <;> simp only [Part.faultByState, h]

theorem Part.faultByState_other {p : Part} {m : Meter}
    (h : (p.channel m).state = .offline ∨ (p.channel m).state = .unused) (cause : ChannelCause) :
    p.faultByState m cause = p := by
  rcases h with h | h <;> simp only [Part.faultByState, h]

/-- What ACQ's fall leaves where a tag is ACQUIRING. -/
theorem Part.acqFalls_spec {p : Part} {m : Meter} {k : Tag}
    (h : (p.channel m).state = .online ∨ (p.channel m).state = .suspect)
    (found : (p.channel m).queue.find? (fun t => t.stage == .acquiring) = some k) :
    (p.acqFalls m).mc =
        { p.mc with
          channels :=
            p.mc.channels.set m
              { p.channel m with acq := false, queue := advanceStage .acquiring .converting (p.channel m).queue } } ∧
      (p.acqFalls m).dt =
        { p.dt with
          items := if k.dwell = p.dt.dwell then p.dt.items.map (Item.complete (.take m)) else p.dt.items } ∧
      (p.acqFalls m).lct =
        { p.lct with
          timers :=
            { p.lct.timers with
              take :=
                if (p.channel m).pendingTake = none then p.lct.timers.take.set m .stopped
                else p.lct.timers.take } } := by
  rw [Part.acqFalls_acquiring h found]
  have waits : (p.channel m).pendingTake.isSome = true ↔ ¬ (p.channel m).pendingTake = none := by
    cases (p.channel m).pendingTake <;> simp
  dsimp only
  by_cases pending : (p.channel m).pendingTake = none
  · rw [if_neg (waits.not.mpr (not_not.mpr pending)), if_pos pending]
    unfold Part.completeItem
    split <;> simp_all [Part.setTakeTimer, Part.setTimers]
  · rw [if_pos (waits.mpr pending), if_neg pending]
    unfold Part.completeItem
    split <;> simp_all

section
variable (m : Meter) (s : State)

theorem exec_acqRise : exec (.acqRise m) s = .next { s with part := Part.commit s.part (s.part.acqRises m) } := rfl

theorem exec_acqFall : exec (.acqFall m) s = .next { s with part := Part.commit s.part (s.part.acqFalls m) } := rfl

theorem exec_rdyRise : exec (.rdyRise m) s = .next { s with part := Part.commit s.part (s.part.rdyRises m) } := rfl

theorem exec_fltRise : exec (.fltRise m) s = .next { s with part := Part.commit s.part (s.part.fltRises m) } := rfl

end

/-- Settles O54. -/
theorem meterEdgesActByTheState : Obligations.MeterEdgesActByTheState := by
  refine ⟨fun m s => ?acqRise, fun m s => ?acqFall, fun m s => ?rdyRise, fun m s => ?fltRise⟩
  case acqRise =>
    intro c
    refine ⟨_, exec_acqRise m s, ⟨rfl, rfl, rfl⟩, fun w setup work => ?_, fun a k b working queue before stage => ?_,
      fun working unsent => ?_, fun other => ?_⟩
    · rw [Part.acqRises_setup setup]
      exact Part.setupFailed_endSetup (by exact work) ChannelCause.noConfusion
    · have sent : c.queue.any (fun t => t.stage == .sent) = true := by simp [queue, stage]
      have moved : advanceStage .sent .acquiring (s.part.channel m).queue = a ++ { k with stage := .acquiring } :: b := by
        rw [show (s.part.channel m).queue = a ++ k :: b from queue, advanceStage_append before stage]
      rw [Part.acqRises_sent working sent, moved]
      refine ⟨Part.channel_of_mc (p := s.part) (by simp [c]),
        Part.otherChannels_of_mc
          (c := { c with acq := true, queue := a ++ { k with stage := .acquiring } :: b }) (by simp [c]),
        Part.keepsBut_commit fun r hr => ?_⟩
      cases r <;> simp [Region.same, Sa.follows_refl] at hr ⊢
    · have sent : c.queue.any (fun t => t.stage == .sent) = false := by simpa using unsent
      rw [Part.acqRises_unsent working sent]
      exact Part.channelFailed_failChannel s.part m { c with acq := true } _
    · rw [Part.acqRises_other other]
      exact s.part.setChannel_commit m _
  case acqFall =>
    intro c
    refine ⟨_, exec_acqFall m s, ⟨rfl, rfl, rfl⟩, ?others, fun a k b working queue before stage => ?acquiring, fun other => ?none⟩
    case none =>
      rw [Part.acqFalls_other other]
      obtain ⟨channel, -, kept⟩ := s.part.setChannel_commit m { c with acq := false }
      exact ⟨channel, kept⟩
    case others =>
      by_cases working : c.state = .online ∨ c.state = .suspect
      · cases found : c.queue.find? (fun t => t.stage == .acquiring) with
        | some k =>
          obtain ⟨mc, -⟩ := Part.acqFalls_spec working found
          exact Part.otherChannels_of_mc (by rw [(Part.commit_blocks _ _).2.1, mc])
        | none =>
          have unstarted : ∀ t ∈ c.queue, t.stage ≠ .acquiring := by simpa using found
          rw [Part.acqFalls_other (Or.inr (Or.inr (Or.inr unstarted)))]
          exact (s.part.setChannel_commit m _).2.1
      · have other : c.state = .offline ∨ c.state = .unused ∨ c.state = .setup := by
          revert working
          cases c.state <;> simp
        rw [Part.acqFalls_other (other.imp_right (Or.imp_right Or.inl))]
        exact (s.part.setChannel_commit m _).2.1
    case acquiring =>
      have found : c.queue.find? (fun t => t.stage == .acquiring) = some k := by
        rw [queue]
        exact find_stage_append before stage
      obtain ⟨mc, dt, lct⟩ := Part.acqFalls_spec working found
      rw [queue, advanceStage_append before stage] at mc
      refine ⟨Part.channel_of_mc (p := s.part) (by simp [mc, c]), fun now => ?_, fun past => ?_, ?_, ?_,
        Part.keepsBut_commit fun r hr => ?_⟩
      · rw [if_pos now] at dt
        simp only [Part.commit_fields, dt]
        intro i hi kind
        obtain ⟨j, -, rfl⟩ := List.mem_map.mp hi
        exact Item.complete_not_started kind
      · rw [if_neg past] at dt
        simp only [Part.commit_fields, dt]
      · simp only [Part.commit_fields, dt]
      · simp only [Part.commit_timers, lct] <;> rfl
      · cases r <;> simp [Region.same, Sa.follows_refl] at hr ⊢
  case rdyRise =>
    intro c
    refine ⟨_, exec_rdyRise m s, ⟨rfl, rfl, rfl⟩, ?_⟩
    have written : (s.part.rdyRises m).mc.channels = s.part.mc.channels.set m
        (if c.state = .unused then c
         else if c.link = .idle then { c with link := .receiving (decide (c.state = .offline)) }
         else { c with rememberedRdy := true }) := by
      have off : (c.state == ChannelState.offline) = decide (c.state = .offline) := by cases c.state <;> rfl
      simp only [Part.rdyRises]
      rw [off]
      by_cases unused : c.state = .unused
      · rw [if_pos unused, if_pos unused]
        exact (Four.set_get_self ..).symm
      · rw [if_neg unused, if_neg unused]
        by_cases idle : c.link = .idle
        · rw [if_pos idle, if_pos idle]
          rfl
        · rw [if_neg idle, if_neg idle]
          rfl
    refine ⟨Part.otherChannels_of_mc (by simpa using written), Part.keepsBut_commit fun r hr => ?_,
      Part.channel_of_mc (p := s.part) (by simpa using written)⟩
    cases r <;> simp [Region.same, Sa.follows_refl] at hr ⊢
  case fltRise =>
    intro c
    refine ⟨_, exec_fltRise m s, ⟨rfl, rfl, rfl⟩, fun working => ?_, fun w setup work => ?_, fun other => ?_⟩
    · rw [Part.fltRises, Part.faultByState_working (by simpa using working)]
      exact Part.channelFailed_failChannel s.part m { c with flt := true } _
    · rw [Part.fltRises, Part.faultByState_setup (by simpa using setup)]
      exact Part.setupFailed_endSetup (by exact work) ChannelCause.noConfusion
    · rw [Part.fltRises, Part.faultByState_other (by simpa using other)]
      exact s.part.setChannel_commit m _

end Sys2Proof.Machine
end

section
/-! A channel enters SETUP (R43), and METER RESTART (R46). -/

namespace Sys2Proof.Machine

/-! ## A telling that changes nothing (R142) -/

/-- The sequencer has been told of the channels: METER is in the hold set and the engine does not work, where its
condition is present and a lot is open. -/
def Part.isTold (p : Part) : Prop :=
  p.meterCondition = true → p.lsq.engine.inLot = true → p.lsq.holds.has .meter = true ∧ p.lsq.engine.working = false

/-- Telling again changes nothing. -/
theorem Part.tellChannelState_of_told {p : Part} (h : p.isTold) : p.tellChannelState = p := by
  unfold Part.tellChannelState
  split
  · next condition =>
    cases lot : p.lsq.engine.inLot with
    | false => exact Part.raiseHold_of_noLot _ lot
    | true =>
      obtain ⟨has, stopped⟩ := h condition lot
      rw [Part.raiseHold_of_stopped _ lot stopped, Part.addHoldCause, if_pos has]
  · rfl

theorem Part.isTold_congr {p q : Part} (h : p.isTold) (lsq : q.lsq = p.lsq)
    (condition : q.meterCondition = p.meterCondition) : q.isTold := by
  unfold Part.isTold
  rw [lsq, condition]
  exact h

theorem Part.isTold_tellChannelState (p : Part) : p.tellChannelState.isTold := by
  intro condition lot
  have present : p.meterCondition = true := by
    rw [← condition]
    exact (Part.meterCondition_of_mc (by simp)).symm
  have told : p.tellChannelState.lsq = p.lsq.raised .meter := by
    rw [Part.tellChannelState_lsq, Part.toldOf, if_pos present]
  rw [told] at lot ⊢
  unfold Lsq.raised at lot ⊢
  cases open_ : p.lsq.engine.inLot with
  | false => simp [open_] at lot
  | true =>
    refine ⟨by simp [HoldCauses.insert, HoldCauses.has], ?_⟩
    cases working : p.lsq.engine.working with
    | false => simp [working]
    | true => rfl

/-! ## Entering SETUP (R43) -/

/-- The channel as it enters SETUP, its work not yet faulted and the setup's serial not yet taken. -/
def Channel.entering (c : Channel) (asker : SetupAsker) (flt : Bool) : Channel :=
  { c with state := .setup, rememberedRdy := false, flt, setup := some { serial := 0, before := c.state, asker } }

/-- The channel with its outstanding work out. -/
def Channel.workless (c : Channel) : Channel := { c with queue := [], pendingTake := none }

/-- The part once the channel has entered SETUP, its work is faulted and its state told. -/
def Part.entering (p : Part) (m : Meter) (asker : SetupAsker) (flt : Bool) : Part :=
  (((p.setChannel m ((p.channel m).entering asker flt)).setTakeTimer m .stopped).faultWork m).tellChannelState

/-- The channel that begins its setup: the serial is taken and the SETUP frame is due. -/
def Channel.begun (c : Channel) (asker : SetupAsker) (flt : Bool) : Channel :=
  { (c.entering asker flt).workless with
    nextSerial := nextTakeSerial c.nextSerial
    setupDue := true
    setup := some { serial := c.nextSerial, before := c.state, asker } }

theorem Channel.begun_nextTransfer (c : Channel) (asker : SetupAsker) :
    (c.begun asker false).nextTransfer = c.enteredSetup asker c.nominal false := by
  obtain ⟨state, role, nextSerial, queue, pendingTake, setup, nominal, rememberedRdy, link, setupDue, acq, flt⟩ := c
  cases link <;> cases nominal <;> rfl

theorem Channel.setupEnded_entered (c : Channel) (asker : SetupAsker) :
    ((c.entering asker true).workless.setupEnded).nextTransfer = c.enteredSetup asker c.nominal true := rfl

section
variable (p : Part) (m : Meter) (asker : SetupAsker) (flt : Bool)

theorem Part.entering_spec :
    let c := p.channel m
    let f := p.faulting.work m p.dt.offset c
    let v := p.entering m asker flt
    v.dt = { p.dt with pockets := f.pockets, items := p.dt.items.map (Item.complete (.take m)) } ∧
      v.lcu = { p.lcu with counters := f.counters } ∧ v.rsc = f.meters ∧
      v.mc = { p.mc with channels := p.mc.channels.set m (c.entering asker flt).workless } ∧
      v.lsq = Part.toldOf p v ∧
      v.lct =
        { p.lct with
          timers :=
            { p.lct.timers with
              take := p.lct.timers.take.set m .stopped
              starvation := if v.meterCondition then p.starvationOn .hold else p.lct.timers.starvation } } ∧
      v.attn = p.attn ∧ Part.handed p v (f.bodies ++ Part.toldBodies p v) ∧ v.isTold ∧
      v.rqx = p.rqx ∧ v.sa = p.sa ∧ v.ps = p.ps ∧ v.gbt = p.gbt ∧ v.cfg = p.cfg ∧ v.draws = p.draws := by
  intro c f v
  obtain ⟨e, he⟩ : ∃ e, e = (p.setChannel m (c.entering asker flt)).setTakeTimer m .stopped := ⟨_, rfl⟩
  have stopped : Part.stoppedAt p e m (c.entering asker flt) := by
    rw [he]
    simp [Part.stoppedAt, Part.setTakeTimer, Part.setTimers]
  obtain ⟨dt, lcu, rsc, mc, lsq, lct, attn, handed, rqx, sa, ps, gbt, cfg, draws⟩ :=
    Part.faultWork_stopped stopped ChannelState.noConfusion
  have work : p.faulting.work m p.dt.offset (c.entering asker flt) = f := rfl
  rw [work] at dt lcu rsc handed
  have told : v = (e.faultWork m).tellChannelState := by rw [he]; rfl
  have condition : v.meterCondition = (e.faultWork m).meterCondition := Part.meterCondition_of_mc (by simp [told])
  simp only [Part.faultWork_keeps] at rqx sa ps gbt cfg draws
  refine ⟨by simp [told, dt], by simp [told, lcu], by simp [told, rsc], ?_, ?_, ?_, by simp [told, attn], ?_, ?_,
    by simp [told, rqx, sa, ps, gbt, cfg, draws]⟩
  · exact (by simp [told] : v.mc = (e.faultWork m).mc).trans mc
  · rw [told, Part.tellChannelState_lsq, ← told]
    exact Part.toldOf_congr lsq condition.symm
  · rw [condition, told, Part.tellChannelState_lct, Part.starvationOn_congr lsq (by rw [lct]), lct]
  · have both := Part.handed_trans handed (e.faultWork m).handed_tellChannelState (by simp [Part.indexCount])
    rwa [← told, Part.toldBodies_congr (p := p) (q := v) lsq (by rw [dt]) condition.symm] at both
  · rw [told]
    exact Part.isTold_tellChannelState _

end

theorem Part.enterSetup_begins (p : Part) (m : Meter) (asker : SetupAsker) :
    p.enterSetup m asker false =
      ((p.entering m asker false).setChannel m ((p.channel m).begun asker false)).beginNextTransfer m := by
  obtain ⟨-, -, -, mc, -⟩ := p.entering_spec m asker false
  have channel : (p.entering m asker false).channel m = ((p.channel m).entering asker false).workless :=
    Part.channel_of_mc (p := p) (by rw [mc])
  have form : p.enterSetup m asker false =
      ((p.entering m asker false).setChannel m
        { (p.entering m asker false).channel m with
          nextSerial := nextTakeSerial ((p.entering m asker false).channel m).nextSerial
          setupDue := true
          setup :=
            some
              { serial := ((p.entering m asker false).channel m).nextSerial, before := (p.channel m).state,
                asker } }).beginNextTransfer m := rfl
  rw [form, channel]
  rfl

theorem Part.enterSetup_fails (p : Part) (m : Meter) (asker : SetupAsker) :
    p.enterSetup m asker true =
      ((((p.entering m asker true).setTakeTimer m .stopped).setChannel m
        ((p.channel m).entering asker true).workless.setupEnded).event (.setupFailed m .flt)).answering m asker .flt := by
  obtain ⟨-, -, -, mc, -⟩ := p.entering_spec m asker true
  have channel : (p.entering m asker true).channel m = ((p.channel m).entering asker true).workless :=
    Part.channel_of_mc (p := p) (by rw [mc])
  have form : p.enterSetup m asker true = (p.entering m asker true).endSetup m .flt := rfl
  rw [form, Part.endSetup_fails (w := { serial := 0, before := (p.channel m).state, asker }) (by rw [channel]; rfl)
    ChannelCause.noConfusion, channel]

theorem Part.meterCondition_setChannel {p : Part} {m : Meter} {c : Channel} (role : c.role = (p.channel m).role)
    (state : c.state = .online ↔ (p.channel m).state = .online) :
    (p.setChannel m c).meterCondition = p.meterCondition := by
  refine Part.meterCondition_congr fun n => ?_
  by_cases same : n = m
  · subst same
    rw [Part.channel_setChannel_self]
    exact ⟨role, state⟩
  · rw [Part.channel_setChannel_ne p _ same]
    exact ⟨rfl, Iff.rfl⟩

/-- A channel that enters SETUP: the work faulted, the telling, and with FLT high the setup failed at once. -/
theorem Part.enterSetup_spec (p : Part) (m : Meter) (asker : SetupAsker) (flt : Bool) :
    let c := p.channel m
    let f := p.faulting.work m p.dt.offset c
    let q := p.enterSetup m asker flt
    q.dt = { p.dt with pockets := f.pockets, items := p.dt.items.map (Item.complete (.take m)) } ∧
      q.lcu = { p.lcu with counters := f.counters } ∧ q.rsc = f.meters ∧
      q.mc = { p.mc with channels := p.mc.channels.set m (c.enteredSetup asker c.nominal flt) } ∧
      q.lct =
        { p.lct with
          timers :=
            { p.lct.timers with
              take := p.lct.timers.take.set m .stopped
              starvation := if q.meterCondition then p.starvationOn .hold else p.lct.timers.starvation } } ∧
      q.attn = p.attn ∧
      Part.handed p q (f.bodies ++ Part.toldBodies p q ++ if flt then [.event (.setupFailed m .flt)] else []) ∧
      q.ps = p.ps ∧ q.gbt = p.gbt ∧ q.cfg = p.cfg ∧ q.draws = p.draws ∧
      (flt = false → q.lsq = Part.toldOf p q ∧ q.rqx = p.rqx ∧ q.sa = p.sa) ∧
      (flt = true → asker = .startLot →
        q.lsq = (Part.toldOf p q).withOutcome m .flt ∧ q.rqx = p.rqx ∧ q.sa = p.sa) ∧
      (flt = true → asker = .meterRestart →
        q.lsq = Part.toldOf p q ∧ q.rqx = { p.rqx with current := none } ∧
          q.sa =
            { p.sa with
              request :=
                p.sa.request ++
                  p.rqx.current.toList.flatMap
                    (fun x => Result.writes { code := .meterFailed } x.address x.notify .plain) }) := by
  intro c f q
  obtain ⟨dt, lcu, rsc, mc, lsq, lct, attn, handed, isTold, rqx, sa, ps, gbt, cfg, draws⟩ := p.entering_spec m asker flt
  obtain ⟨v, hv⟩ : ∃ v, v = p.entering m asker flt := ⟨_, rfl⟩
  rw [← hv] at dt lcu rsc mc lsq lct attn handed isTold rqx sa ps gbt cfg draws
  have channel : v.channel m = (c.entering asker flt).workless := Part.channel_of_mc (p := p) (by rw [mc])
  cases flt with
  | false =>
    have form : q = (v.setChannel m (c.begun asker false)).beginNextTransfer m := by
      rw [hv]
      exact p.enterSetup_begins m asker
    have condition : q.meterCondition = v.meterCondition := by
      rw [form, Part.meterCondition_beginNextTransfer]
      exact Part.meterCondition_setChannel (by rw [channel]; rfl) (by rw [channel]; rfl)
    have told : Part.toldOf p q = Part.toldOf p v := Part.toldOf_congr rfl condition
    have bodies : Part.toldBodies p q = Part.toldBodies p v := Part.toldBodies_congr rfl rfl condition
    rw [told, bodies, condition]
    refine ⟨by simp [form, dt, f, c], by simp [form, lcu, f, c], by simp [form, rsc, f, c], ?_, by simp [form, lct],
      by simp [form, attn], ?_, by simp [form, ps], by simp [form, gbt], by simp [form, cfg], by simp [form, draws],
      fun _ => by simp [form, lsq, rqx, sa], by simp, by simp⟩
    · rw [form, Part.beginNextTransfer, Part.channel_setChannel_self, Channel.begun_nextTransfer]
      simp [mc]
    · have kept := Part.handed_of_right (t := q) handed (by simp [form]) (by simp [form, Part.indexCount])
      simpa using kept
  | true =>
    obtain ⟨x, hx⟩ : ∃ x, x = ((v.setTakeTimer m .stopped).setChannel m
        (c.entering asker true).workless.setupEnded).event (.setupFailed m .flt) := ⟨_, rfl⟩
    have form : q = x.answering m asker .flt := by
      rw [hx, hv]
      exact p.enterSetup_fails m asker
    have xCondition : x.meterCondition = v.meterCondition := by
      have turned := Part.meterCondition_setChannel (p := v.setTakeTimer m .stopped) (m := m)
        (c := (c.entering asker true).workless.setupEnded)
        (congrArg Channel.role channel).symm (by
          rw [show (v.setTakeTimer m .stopped).channel m = (c.entering asker true).workless from channel]
          exact ⟨nofun, nofun⟩)
      rw [hx, Part.meterCondition_of_mc (Part.event_keeps _ _).2.2.1, turned]
      rfl
    have condition : q.meterCondition = v.meterCondition := by rw [form, Part.answering_condition, xCondition]
    have told : Part.toldOf p q = Part.toldOf p v := Part.toldOf_congr rfl condition
    have bodies : Part.toldBodies p q = Part.toldBodies p v := Part.toldBodies_congr rfl rfl condition
    have again : x.tellChannelState = x :=
      Part.tellChannelState_of_told (Part.isTold_congr isTold (by simp [hx]) xCondition)
    have given : q = (x.giveSetupOutcome m asker .flt).beginNextTransfer m := by rw [form, Part.answering, again]
    rw [told, bodies, condition]
    refine ⟨by simp [given, hx, dt, f, c], by simp [given, hx, lcu, f, c], by simp [given, hx, rsc, f, c], ?_, ?_,
      by simp [given, hx, attn], ?_, by simp [given, hx, ps], by simp [given, hx, gbt], by simp [given, hx, cfg],
      by simp [given, hx, draws], by simp, fun _ asks => ?_, fun _ asks => ?_⟩
    · have ended : x.channel m = (c.entering asker true).workless.setupEnded :=
        Part.channel_of_mc (p := v) (by simp [hx])
      rw [form, Part.answering_mc, ended, Channel.setupEnded_entered]
      simp [hx, mc]
    · have kept : q.lct = (v.setTakeTimer m .stopped).lct := by simp [given, hx]
      rw [kept]
      simp [Part.setTakeTimer, Part.setTimers, lct]
    · have event : Part.handed v x [.event (.setupFailed m .flt)] := by
        rw [hx]
        exact Part.handed_of_left (by simp) (Part.handed_event _ _)
      have both := Part.handed_trans handed event (by simp [hx, Part.indexCount])
      exact Part.handed_of_right both (by simp [given]) (by simp [given, Part.indexCount])
    · subst asks
      rw [given, Part.giveSetupOutcome_startLot]
      simp [hx, lsq, rqx, sa]
    · subst asks
      have ends := x.endRequest_requests { code := .meterFailed }
      rw [given, Part.giveSetupOutcome_restart, if_neg ChannelCause.noConfusion]
      have requests : x.rqx = p.rqx ∧ x.sa = p.sa := by simp [hx, rqx, sa]
      rw [requests.1, requests.2] at ends
      refine ⟨by simp [hx, lsq], ?_, ?_⟩
      · rw [← ends.1]
        simp
      · rw [← ends.2]
        simp

/-! ## The items noted as a channel enters SETUP (R180) -/

/-- The items noted by `p` are noted by `q` first. -/
def Part.notesOn (p q : Part) : Prop := p.changed <+: q.changed

theorem Part.notesOn_of_eq {p q : Part} (h : q.changed = p.changed) : Part.notesOn p q := by
  rw [Part.notesOn, h]

theorem Part.notesOn_trans {p q t : Part} (h : Part.notesOn p q) (k : Part.notesOn q t) : Part.notesOn p t :=
  List.IsPrefix.trans h k

section
variable (p : Part)

theorem Part.notesOn_setChannel (m : Meter) (c : Channel) : Part.notesOn p (p.setChannel m c) := by
  rw [Part.notesOn, p.setChannel_notes m c]
  exact List.prefix_append _ _

theorem Part.notesOn_setRef (m : Meter) (r : RefMeter) : Part.notesOn p (p.setRef m r) := by
  rw [Part.notesOn, p.setRef_notes m r]
  exact List.prefix_append _ _

theorem Part.notesOn_setLsq (l : Lsq) : Part.notesOn p (p.setLsq l) := by
  rw [Part.notesOn, p.setLsq_notes l]
  exact List.prefix_append _ _

theorem Part.notesOn_nameOwed (m : Meter) : Part.notesOn p (p.nameOwed m) := by
  rw [Part.nameOwed_eq]
  dsimp only
  split
  · exact p.notesOn_setRef m _
  · exact Part.notesOn_of_eq rfl

theorem Part.notesOn_addHoldCause (c : HoldCause) : Part.notesOn p (p.addHoldCause c) := by
  unfold Part.addHoldCause
  split
  · exact Part.notesOn_of_eq rfl
  · exact Part.notesOn_trans (p.notesOn_setLsq { p.lsq with holds := p.lsq.holds.insert c })
      (Part.notesOn_of_eq (by simp))

theorem Part.notesOn_event (e : Event) : Part.notesOn p (p.event e) := Part.notesOn_of_eq (by simp)

theorem Part.notesOn_setTakeTimer (m : Meter) (t : Timer) : Part.notesOn p (p.setTakeTimer m t) :=
  Part.notesOn_of_eq rfl

theorem Part.notesOn_startStarvation : Part.notesOn p p.startStarvation := by
  refine Part.notesOn_of_eq ?_
  unfold Part.startStarvation
  (repeat' split) <;> simp

theorem Part.notesOn_enterEngine (e : EngineState) : Part.notesOn p (p.enterEngine e) := by
  unfold Part.enterEngine
  dsimp only
  split
  · split
    · exact p.notesOn_setLsq _
    · exact Part.notesOn_trans (p.notesOn_setLsq _) (Part.notesOn_startStarvation _)
  · split
    · exact Part.notesOn_trans (p.notesOn_setLsq _) (Part.notesOn_of_eq rfl)
    · exact p.notesOn_setLsq _

theorem Part.notesOn_tellChannelState : Part.notesOn p p.tellChannelState := by
  unfold Part.tellChannelState Part.raiseHold Part.settleHold Part.enterHold
  have joins := p.notesOn_addHoldCause .meter
  split
  · split
    · split
      · exact Part.notesOn_trans (Part.notesOn_trans joins (Part.notesOn_enterEngine _ .hold))
          (Part.notesOn_of_eq (by simp))
      · exact joins
    · exact Part.notesOn_of_eq rfl
  · exact Part.notesOn_of_eq rfl

/-- A reference result of FAULT has no verdict, so no channel enters SUSPECT. -/
theorem Part.notesOn_referenceFault (m : Meter) : Part.notesOn p (p.referenceResult m .fault none) := by
  cases refs : (p.rsc.get m).refs with
  | nil => exact Part.notesOn_of_eq (by rw [Part.referenceResult_none refs])
  | cons e rest =>
    simp only [Part.referenceResult, refs, verdictOf]
    refine Part.notesOn_trans (p.notesOn_setRef m { p.rsc.get m with refs := rest }) ?_
    have judged : ∀ q : Part, Part.notesOn q (q.coverJudged m e) := fun q => q.notesOn_setRef m _
    refine Part.notesOn_trans (judged _) ?_
    exact Part.notesOn_trans (Part.notesOn_nameOwed _ m) (Part.notesOn_of_eq (by simp))

theorem Part.notesOn_faultTag (m : Meter) (t : Tag) : Part.notesOn p (p.faultTag m t) := by
  unfold Part.faultTag
  split
  · exact Part.notesOn_of_eq (by simp)
  · exact p.notesOn_referenceFault m

theorem Part.notesOn_withdrawFaulted (m : Meter) : Part.notesOn p (p.withdrawFaulted m) := by
  unfold Part.withdrawFaulted
  split
  · exact Part.notesOn_of_eq rfl
  · have moved := p.notesOn_setChannel m { p.channel m with pendingTake := none }
    dsimp only
    split
    · exact Part.notesOn_trans moved (Part.notesOn_of_eq (by simp))
    · exact moved

theorem Part.notesOn_faultWork (m : Meter) : Part.notesOn p (p.faultWork m) := by
  have tags : ∀ (l : List Tag) (q : Part), Part.notesOn q (l.foldl (fun x t => x.faultTag m t) q) := by
    intro l
    induction l with
    | nil => exact fun q => Part.notesOn_of_eq rfl
    | cons t rest ih => exact fun q => Part.notesOn_trans (q.notesOn_faultTag m t) (ih _)
  refine Part.notesOn_trans (p.notesOn_setChannel m { p.channel m with queue := [] }) ?_
  refine Part.notesOn_trans (tags (p.channel m).queue _) ?_
  refine Part.notesOn_trans (Part.notesOn_withdrawFaulted _ m) ?_
  exact Part.notesOn_of_eq (Part.completeItem_keeps _ _ _).2.2.2.2.2.2.2.2.2.2.2.2.2

theorem Part.notesOn_answering (m : Meter) (asker : SetupAsker) (outcome : ChannelCause) :
    Part.notesOn p (p.answering m asker outcome) := by
  have given : ∀ q : Part, (q.giveSetupOutcome m asker outcome).changed = q.changed := by
    intro q
    cases asker with
    | startLot => rw [Part.giveSetupOutcome_startLot]
    | meterRestart => simp [Part.giveSetupOutcome_restart]
  exact Part.notesOn_trans p.notesOn_tellChannelState
    (Part.notesOn_trans (Part.notesOn_of_eq (given _)) (Part.notesOn_setChannel _ m _))

/-- The channel's item is noted as the channel enters SETUP, whatever its state ends as. -/
theorem Part.enterSetup_notes (m : Meter) (asker : SetupAsker) (flt : Bool) (outside : (p.channel m).state ≠ .setup) :
    StatusItem.channel m ∈ (p.enterSetup m asker flt).changed.drop p.changed.length := by
  obtain ⟨e, he⟩ : ∃ e, e = p.setChannel m ((p.channel m).entering asker flt) := ⟨_, rfl⟩
  have noted : Part.notesOn e (p.enterSetup m asker flt) := by
    have entering : Part.notesOn e (p.entering m asker flt) := by
      rw [he]
      exact Part.notesOn_trans (Part.notesOn_setTakeTimer _ m .stopped)
        (Part.notesOn_trans (Part.notesOn_faultWork _ m) (Part.notesOn_tellChannelState _))
    cases flt with
    | false =>
      rw [p.enterSetup_begins m asker]
      exact Part.notesOn_trans entering
        (Part.notesOn_trans (Part.notesOn_setChannel _ m _) (Part.notesOn_setChannel _ m _))
    | true =>
      rw [p.enterSetup_fails m asker]
      refine Part.notesOn_trans entering (Part.notesOn_trans ?_ (Part.notesOn_answering _ m asker .flt))
      exact Part.notesOn_trans (Part.notesOn_setTakeTimer _ m .stopped)
        (Part.notesOn_trans (Part.notesOn_setChannel _ m _) (Part.notesOn_event _ _))
  have differs : p.statusBytes (.channel m) ≠ e.statusBytes (.channel m) := by
    have after : e.channel m = (p.channel m).entering asker flt := by rw [he, Part.channel_setChannel_self]
    simp only [Part.statusBytes, after]
    intro same
    cases state : (p.channel m).state <;> simp [state, byte, ChannelState.code, Channel.entering] at same outside
  obtain ⟨tail, changed⟩ := noted
  rw [← changed, he, p.setChannel_notes m, ← he, List.append_assoc, List.drop_left]
  refine List.mem_append_left _ (List.mem_filter.mpr ⟨(StatusItem.channel m).mem_all, ?_⟩)
  simpa using differs

end

/-! ## METER RESTART (R46) -/

theorem exec_meterRestart {flt : Bool} {s : State} (h : s.part.executes 10) :
    exec (.meterRestart flt) s = .next { s with part := Part.commit s.part (s.part.meterRestart flt) } :=
  State.onRequest_of_executes (fun p => p.meterRestart flt) h

theorem Part.channelArg_of_beyond {p : Part} (h : 3 < p.arg 4 1) : p.channelArg = none := by
  obtain ⟨n, arg⟩ : ∃ n, p.arg 4 1 = n + 4 := ⟨p.arg 4 1 - 4, by omega⟩
  rw [Part.channelArg, arg] <;> rfl

theorem Part.channelArg_of_meter {p : Part} {m : Meter} (h : m.val = p.arg 4 1) : p.channelArg = some m := by
  unfold Part.channelArg
  rw [← h]
  obtain ⟨n, bound⟩ := m
  interval_cases n <;> rfl

section
variable {p : Part} {m : Meter} {flt : Bool}

theorem Part.meterRestart_unused (engine : p.lsq.engine ≠ .unconfigured) (arg : p.channelArg = some m)
    (unused : (p.channel m).state = .unused) : p.meterRestart flt = p.endRequest { code := .refusedArgument } := by
  simp only [Part.meterRestart, if_neg engine, arg, if_pos unused]

theorem Part.meterRestart_refused (engine : p.lsq.engine ≠ .unconfigured) (arg : p.channelArg = some m)
    (used : (p.channel m).state ≠ .unused)
    (busy : (p.channel m).state = .online ∨ (p.channel m).state = .setup ∨ (p.channel m).nominal = none) :
    p.meterRestart flt = p.endRequest { code := .refusedState } := by
  simp only [Part.meterRestart, if_neg engine, arg, if_neg used, if_pos busy]

theorem Part.meterRestart_enters (engine : p.lsq.engine ≠ .unconfigured) (arg : p.channelArg = some m)
    (down : (p.channel m).state = .offline ∨ (p.channel m).state = .suspect) (nominal : (p.channel m).nominal ≠ none) :
    p.meterRestart flt = p.beginWork.enterSetup m .meterRestart flt := by
  have used : (p.channel m).state ≠ .unused := by rcases down with h | h <;> simp [h]
  have free : ¬ ((p.channel m).state = .online ∨ (p.channel m).state = .setup ∨ (p.channel m).nominal = none) := by
    rcases down with h | h <;> simp [h, nominal]
  simp only [Part.meterRestart, if_neg engine, arg, if_neg used, if_neg free]

end

/-- Settles O48. -/
theorem meterRestartSetsUpTheChannel : Obligations.MeterRestartSetsUpTheChannel := by
  intro flt s executes n
  refine ⟨_, exec_meterRestart executes, ⟨rfl, rfl, rfl⟩, fun engine => ?_, fun engine beyond => ?_,
    fun engine m number => ?_⟩
  · have refused : s.part.meterRestart flt = s.part.endRequest { code := .refusedState } := if_pos engine
    rw [refused]
    exact s.part.endedAlone_commit _
  · have refused : s.part.meterRestart flt = s.part.endRequest { code := .refusedArgument } := by
      simp only [Part.meterRestart, if_neg engine, Part.channelArg_of_beyond beyond]
    rw [refused]
    exact s.part.endedAlone_commit _
  · have arg : s.part.channelArg = some m := Part.channelArg_of_meter number
    intro c
    refine ⟨fun unused => ?_, fun busy => ?_, fun down nominal => ?_⟩
    · rw [Part.meterRestart_unused engine arg unused]
      exact s.part.endedAlone_commit _
    · have used : c.state ≠ .unused := by
        rcases busy with h | h | h
        · simp [h]
        · simp [h]
        · exact h.1
      rw [Part.meterRestart_refused engine arg used (busy.imp_right (Or.imp_right And.right))]
      exact s.part.endedAlone_commit _
    · rw [Part.meterRestart_enters engine arg down nominal]
      obtain ⟨b, hb⟩ : ∃ b, b = s.part.beginWork := ⟨_, rfl⟩
      rw [← hb]
      obtain ⟨bdt, blcu, bmc, brsc, bps, bgbt, blsq, bjw, bsa, battn, bcfg, blct, bdraws, bchanged⟩ :=
        s.part.beginWork_keeps
      have brqx := s.part.beginWork_rqx
      rw [← hb] at bdt blcu bmc brsc bps bgbt blsq bjw bsa battn bcfg blct bdraws bchanged brqx
      have channel : b.channel m = c := by simp only [Part.channel, bmc, c]
      have noted := b.enterSetup_notes m .meterRestart flt (by
        rw [channel]
        rcases down with h | h <;> simp [h])
      obtain ⟨q, hq⟩ : ∃ q, q = b.enterSetup m .meterRestart flt := ⟨_, rfl⟩
      obtain ⟨dt, lcu, rsc, mc, lct, attn, handed, ps, gbt, cfg, draws, waits, -, fails⟩ :=
        b.enterSetup_spec m .meterRestart flt
      rw [← hq] at dt lcu rsc mc lct attn handed ps gbt cfg draws waits fails noted ⊢
      have work : b.faulting.work m b.dt.offset (b.channel m) = s.part.faulting.work m s.part.dt.offset c := by
        simp only [channel, Part.faulting, bdt, blcu, brsc]
      have condition : (Part.commit s.part q).meterCondition = q.meterCondition := Part.meterCondition_of_mc (by simp)
      have told : Part.toldOf b q = Part.toldOf s.part (Part.commit s.part q) := Part.toldOf_congr blsq condition.symm
      have bodies : Part.toldBodies b q = Part.toldBodies s.part (Part.commit s.part q) :=
        Part.toldBodies_congr blsq (by rw [bdt]) condition.symm
      rw [work, bdt] at dt
      rw [work, blcu] at lcu
      rw [work] at rsc
      rw [channel, bmc] at mc
      rw [blct, Part.starvationOn_congr (p := s.part) blsq (by rw [blct])] at lct
      rw [work, bodies] at handed
      rw [told, brqx, bsa] at waits fails
      have lsq : q.lsq = Part.toldOf s.part (Part.commit s.part q) := by
        cases flt with
        | false => exact (waits rfl).1
        | true => exact (fails rfl rfl).1
      obtain ⟨-, qmc, -⟩ := Part.commit_blocks s.part q
      refine ⟨⟨qmc.trans mc, Part.faultedTo_commit dt lcu rsc, by simp [← lsq], ?_, ?_⟩, ?_, fun low => ?_,
        fun high => ?_⟩
      · rw [Part.commit_timers_eq, lct, Part.toldTimers, condition]
      · exact Part.handed_commit s.part (Part.handed_of_left (q := b) bjw handed)
      · exact Part.commit_status_has (List.mem_append_left _ (by rwa [bchanged] at noted))
      · obtain ⟨-, rqx, sa⟩ := waits low
        refine ⟨by simp [rqx], Part.keepsBut_commit fun r hr => ?_⟩
        cases r <;> simp_all [Region.same, Sa.follows_refl]
      · obtain ⟨-, rqx, sa⟩ := fails high rfl
        refine ⟨Part.ended_commit s.part (by simp [rqx]) ?_, Part.keepsBut_commit fun r hr => ?_⟩
        · rw [sa]
          cases s.part.rqx.current <;> simp
        · cases r <;> simp_all [Region.same]

end Sys2Proof.Machine
end

section
/-! A take is sent (R50, R62, R64, R67). -/

namespace Sys2Proof.Machine

/-! ## The entries of a pocket -/

theorem find_updateEntry {f : Reading → Reading} (station : ∀ r, (f r).station = r.station) (m n : Meter)
    (rs : List Reading) :
    (updateEntry m f rs).find? (fun r => r.station == n) =
      (rs.find? (fun r => r.station == n)).map (fun r => if n = m then f r else r) := by
  have kept : ((fun r => r.station == n) ∘ fun r => if r.station = m then f r else r) = fun r : Reading => r.station == n := by
    funext r
    by_cases own : r.station = m <;> simp [own, station]
  rw [updateEntry, List.find?_map, kept]
  cases found : rs.find? (fun r => r.station == n) with
  | none => rfl
  | some r =>
    have at_ : r.station = n := by simpa using List.find?_some found
    rw [Option.map_some, Option.map_some, at_]

/-- The entries of a pocket after one station's entry is written. -/
theorem Pocket.entry_mapReadings {f : Reading → Reading} (station : ∀ r, (f r).station = r.station) (k : Pocket)
    (m n : Meter) :
    (k.mapReadings (updateEntry m f)).entry n = (k.entry n).map (fun r => if n = m then f r else r) := by
  cases k with
  | carry x => exact find_updateEntry station m n _
  | routed x r => exact find_updateEntry station m n _
  | spent x r tube => exact find_updateEntry station m n _
  | _ => rfl

/-- An entry is written: only the entry of the station in the pocket changes. -/
theorem Part.writeEntry_spec {f : Reading → Reading} (station : ∀ r, (f r).station = r.station) (p : Part) (k : Nat)
    (m : Meter) :
    ((p.writeEntry k m f).pocket k).entry m = ((p.pocket k).entry m).map f ∧
      (∀ x, x ≠ m → ((p.writeEntry k m f).pocket k).entry x = (p.pocket k).entry x) ∧
      ∀ x, x ≠ k → (p.writeEntry k m f).pocket x = p.pocket x := by
  have written : (p.writeEntry k m f).pocket k = (p.pocket k).mapReadings (updateEntry m f) := by
    rw [Part.writeEntry, Part.pocket_setPocket]
    by_cases inside : k < p.dt.pockets.length
    · rw [if_pos ⟨rfl, inside⟩]
    · rw [if_neg fun h => inside h.2]
      have vacant : p.pocket k = .vacant := by
        by_contra held
        exact inside (Part.pocket_lt held)
      rw [vacant]
      rfl
  refine ⟨?_, fun x other => ?_, fun x other => ?_⟩
  · rw [written, Pocket.entry_mapReadings station]
    simp
  · rw [written, Pocket.entry_mapReadings station]
    simp [other]
  · rw [Part.writeEntry, Part.pocket_setPocket, if_neg fun h => other h.1]

/-! ## The meter's count after a product take (R62, R64) -/

/-- The urgency of a meter's next product take. -/
def RefMeter.urgencyNext (r : RefMeter) : Urgency :=
  match r.thresholds with
  | none => r.urgency
  | some h => h.urgencyAt (r.count + 1)

theorem RefMeter.productSent_eq (r : RefMeter) :
    r.productSent =
      { r with count := r.count + 1, urgency := r.urgencyNext, refs := r.refs.map (fun e => { e with since := e.since + 1 }) } := by
  unfold RefMeter.productSent RefMeter.withCount RefMeter.urgencyNext
  cases r.thresholds <;> rfl

/-- What naming an owed meter comes to (R64). -/
theorem Part.nameOwed_spec (p : Part) (m : Meter) :
    let r := p.rsc.get m
    let owed : Bool := (p.channel m).owesReference r.urgency r.cover
    (p.nameOwed m).rsc = p.rsc.set m { r with cover := if owed then .pending else r.cover } ∧
      (p.nameOwed m).lcu =
        { p.lcu with pendingSet := if owed then p.lcu.pendingSet.insert m else p.lcu.pendingSet } := by
  intro r owed
  cases owes : owed with
  | true =>
    rw [(p.nameOwed_eq m).trans (if_pos owes)]
    exact ⟨rfl, rfl⟩
  | false =>
    rw [(p.nameOwed_eq m).trans (if_neg (ne_true_of_eq_false owes))]
    exact ⟨(Four.set_get_self ..).symm, rfl⟩

/-- A product take counts, and names its meter owed where it has come to that. -/
theorem Part.productTakeSent_spec (p : Part) (m : Meter) :
    let r := p.rsc.get m
    let owed : Bool := (p.channel m).owesReference r.urgencyNext r.cover
    (p.productTakeSent m).rsc =
        p.rsc.set m
          { r with
            count := r.count + 1
            urgency := r.urgencyNext
            cover := if owed then .pending else r.cover
            refs := r.refs.map (fun e => { e with since := e.since + 1 }) } ∧
      (p.productTakeSent m).lcu =
        { p.lcu with pendingSet := if owed then p.lcu.pendingSet.insert m else p.lcu.pendingSet } := by
  intro r owed
  obtain ⟨rsc, lcu⟩ := (p.setRef m r.productSent).nameOwed_spec m
  have channel : (p.setRef m r.productSent).channel m = p.channel m := rfl
  rw [channel, Part.setRef_rsc, Four.get_set_self, Four.set_set, RefMeter.productSent_eq] at rsc
  rw [channel, Part.setRef_rsc, Four.get_set_self, RefMeter.productSent_eq] at lcu
  rw [Part.productTakeSent, RefMeter.productSent_eq]
  exact ⟨rsc, lcu⟩

/-! ## Sending (R50) -/

/-- The channel once a take is sent. -/
def Channel.tookUp (c : Channel) (kind : TakeKind) (k dwell : Nat) : Channel :=
  { c with
    nextSerial := nextTakeSerial c.nextSerial
    queue := c.queue ++ [{ kind, pocket := k, serial := c.nextSerial, dwell, stage := .sent }]
    pendingTake := none
    link := .sending (kind.frame k c.nextSerial) }

theorem Part.sendTake_take (p : Part) (m : Meter) (k dwell : Nat) :
    p.sendTake m .take k dwell =
      ((p.setChannel m ((p.channel m).tookUp .take k dwell)).serialClaim k m (p.channel m).nextSerial).productTakeSent m :=
  rfl

theorem Part.sendTake_refer (p : Part) (m : Meter) (k dwell : Nat) :
    p.sendTake m .refer k dwell =
      ((p.setChannel m ((p.channel m).tookUp .refer k dwell)).setPocket k ((p.pocket k).withoutMeter m)).referenceTakeSent
        m k ((p.pocket k).reservedFor m) := rfl

theorem Pocket.withoutMeter_of_other {k : Pocket} (h : ∀ set, k ≠ .reserved set) (m : Meter) : k.withoutMeter m = k := by
  cases k with
  | reserved set => exact absurd rfl (h set)
  | _ => rfl

/-- What a reference take leaves of the scheduler's entry. -/
theorem Part.referenceTakeSent_rsc (p : Part) (m : Meter) (k : Nat) (reserved : Bool) :
    (p.referenceTakeSent m k reserved).rsc =
      p.rsc.set m
        { p.rsc.get m with
          cover := if reserved = true ∧ (p.rsc.get m).cover = .placed then .issued else (p.rsc.get m).cover
          refs :=
            (p.rsc.get m).refs ++
              [{ pocket := k, kind := if reserved then .reserved else .opportunistic, since := 0 }] } := by
  simp [Part.referenceTakeSent]

theorem Part.takeSent_sendTake (p : Part) (m : Meter) (kind : TakeKind) (k dwell : Nat) :
    Part.takeSent p (p.sendTake m kind k dwell) m kind k dwell := by
  cases kind with
  | take =>
    obtain ⟨e, he⟩ : ∃ e, e = p.setChannel m ((p.channel m).tookUp .take k dwell) := ⟨_, rfl⟩
    obtain ⟨w, hw⟩ : ∃ w, w = e.serialClaim k m (p.channel m).nextSerial := ⟨_, rfl⟩
    obtain ⟨q, hq⟩ : ∃ q, q = w.productTakeSent m := ⟨_, rfl⟩
    have form : p.sendTake m .take k dwell = q := by rw [hq, hw, he, Part.sendTake_take]
    obtain ⟨own, others, pockets⟩ := Part.writeEntry_spec
      (f := fun r : Reading => { r with serial := some (p.channel m).nextSerial }) (fun _ => rfl) e k m
    have claim : w = e.writeEntry k m (fun r => { r with serial := some (p.channel m).nextSerial }) := hw
    rw [← claim] at own others pockets
    have pocket : e.pocket = p.pocket := by rw [he]; rfl
    rw [pocket] at own others pockets
    have qpocket : q.pocket = w.pocket := by
      funext x
      simp [hq, Part.pocket]
    obtain ⟨rsc, lcu⟩ := w.productTakeSent_spec m
    rw [← hq] at rsc lcu
    have wrsc : w.rsc = p.rsc := by simp [hw, he]
    have wlcu : w.lcu = p.lcu := by simp [hw, he]
    have wmc : w.mc = { p.mc with channels := p.mc.channels.set m ((p.channel m).tookUp .take k dwell) } := by simp [hw, he]
    have wchannel : w.channel m = (p.channel m).tookUp .take k dwell := Part.channel_of_mc (p := p) (by rw [wmc])
    have owes : ∀ (u : Urgency) (v : Cover),
        ((p.channel m).tookUp .take k dwell).owesReference u v = (p.channel m).owesReference u v := fun _ _ => rfl
    rw [wrsc, wchannel, owes] at rsc
    rw [wlcu, wrsc, wchannel, owes] at lcu
    have qmc : q.mc = w.mc := by simp [hq]
    have qdt : { q.dt with pockets := p.dt.pockets } = p.dt := by simp [hq, hw, he, Part.serialClaim, Part.writeEntry]
    rw [form]
    refine ⟨Part.channel_of_mc (p := p) (by rw [qmc, wmc]; rfl),
      Part.otherChannels_of_mc (c := (p.channel m).tookUp .take k dwell) (by rw [qmc, wmc]), fun x other => ?_, qdt,
      fun x other => ?_, ?_, fun _ => ⟨?_, fun x other => ?_, ?_, ?_⟩, nofun⟩
    · rw [rsc, Four.get_set_ne _ _ other]
    · rw [qpocket, pockets x other]
    · simp [hq, hw, he]
    · rw [qpocket, own]
    · rw [qpocket, others x other]
    · rw [rsc, Four.get_set_self]
      rfl
    · exact lcu
  | refer =>
    obtain ⟨w, hw⟩ : ∃ w, w = (p.setChannel m ((p.channel m).tookUp .refer k dwell)).setPocket k
        ((p.pocket k).withoutMeter m) := ⟨_, rfl⟩
    obtain ⟨q, hq⟩ : ∃ q, q = w.referenceTakeSent m k ((p.pocket k).reservedFor m) := ⟨_, rfl⟩
    have form : p.sendTake m .refer k dwell = q := by rw [hq, hw, Part.sendTake_refer]
    have rsc := w.referenceTakeSent_rsc m k ((p.pocket k).reservedFor m)
    have wrsc : w.rsc = p.rsc := by simp [hw]
    rw [← hq, wrsc] at rsc
    have mc : q.mc = { p.mc with channels := p.mc.channels.set m ((p.channel m).tookUp .refer k dwell) } := by simp [hq, hw]
    have pockets : ∀ x, q.pocket x = if x = k ∧ k < p.dt.pockets.length then (p.pocket k).withoutMeter m else p.pocket x := by
      intro x
      have moved : q.pocket x = w.pocket x := by simp [hq, Part.pocket]
      rw [moved, hw, Part.pocket_setPocket]
      rfl
    rw [form]
    refine ⟨Part.channel_of_mc (p := p) (by rw [mc]; rfl),
      Part.otherChannels_of_mc (c := (p.channel m).tookUp .refer k dwell) (by rw [mc]), fun x other => ?_,
      by simp [hq, hw], fun x other => ?_, by simp [hq, hw], nofun, fun _ => ⟨fun set reserved inside => ?_, fun free => ?_,
        by simp [hq, hw], ?_⟩⟩
    · rw [rsc, Four.get_set_ne _ _ other]
    · rw [pockets, if_neg fun h => other h.1]
    · rw [pockets, if_pos ⟨rfl, inside⟩, reserved]
      rfl
    · rw [pockets, Pocket.withoutMeter_of_other free]
      exact ite_self _
    · rw [rsc, Four.get_set_self]
      simp

end Sys2Proof.Machine
end

section
/-! Takes are sent when they may (R38, R47 to R51). -/

namespace Sys2Proof.Machine

/-! ## When a take may be sent (R50, R51) -/

theorem Channel.acquisitionOpen_iff (c : Channel) : c.acquisitionOpen = true ↔ ∃ x ∈ c.queue, x.stage ≠ .converting := by
  have open_ : ∀ t : Tag, t.acquisitionOpen = true ↔ t.stage ≠ .converting := by
    intro t
    unfold Tag.acquisitionOpen
    cases t.stage <;> simp
  simp [Channel.acquisitionOpen, open_]

theorem Channel.acquisitionOpen_eq_false (c : Channel) :
    c.acquisitionOpen = false ↔ ∀ x ∈ c.queue, x.stage = .converting := by
  rw [← Bool.not_eq_true, c.acquisitionOpen_iff]
  simp

theorem Channel.canSend_iff (c : Channel) :
    c.canSend = true ↔
      c.state = .online ∧ c.acq = false ∧ c.queue.length < 2 ∧ (∀ x ∈ c.queue, x.stage = .converting) ∧ c.link = .idle := by
  simp [Channel.canSend, c.acquisitionOpen_eq_false, and_assoc]

/-! ## The end of a frame (R38, R51) -/

/-- The frame's end starts the take timer. -/
def Channel.timedBy (c : Channel) (f : Frame) : Bool :=
  match f with
  | .setup _ _ => c.state == .setup
  | .take _ _ => (c.state != .setup) && (c.acquisitionOpen || c.pendingTake.isSome)
  | .refer _ _ => (c.state != .setup) && (c.acquisitionOpen || c.pendingTake.isSome)

/-- The take timer with the timeout in force. -/
def Part.takeStarted (p : Part) (m : Meter) : Four Timer :=
  match p.mc.takeTimeout with
  | none => p.lct.timers.take
  | some x => p.lct.timers.take.set m (.running x (IntervalCode.units x))

theorem Part.startTakeTimer_lct (p : Part) (m : Meter) :
    (p.startTakeTimer m).lct = { p.lct with timers := { p.lct.timers with take := p.takeStarted m } } := by
  unfold Part.startTakeTimer Part.takeStarted
  cases p.mc.takeTimeout <;> rfl

theorem Part.frameSent_eq (p : Part) (m : Meter) (f : Frame) :
    p.frameSent m f =
      (if (p.channel m).timedBy f then (p.setChannel m { p.channel m with link := .idle }).startTakeTimer m
       else p.setChannel m { p.channel m with link := .idle }).beginNextTransfer m := by
  cases f <;> simp [Part.frameSent, Channel.timedBy, Channel.acquisitionOpen]

/-- What the end of a frame leaves. -/
theorem Part.frameSent_spec (p : Part) (m : Meter) (f : Frame) :
    (p.frameSent m f).mc = { p.mc with channels := p.mc.channels.set m (p.channel m).linkEnded } ∧
      (p.frameSent m f).lct =
        { p.lct with
          timers :=
            { p.lct.timers with
              take := if (p.channel m).timedBy f then p.takeStarted m else p.lct.timers.take } } := by
  rw [Part.frameSent_eq]
  obtain ⟨e, he⟩ : ∃ e, e = p.setChannel m { p.channel m with link := .idle } := ⟨_, rfl⟩
  have channel : ∀ x : Part, x.mc = e.mc → (x.beginNextTransfer m).mc =
      { p.mc with channels := p.mc.channels.set m (p.channel m).linkEnded } := by
    intro x same
    have own : x.channel m = { p.channel m with link := .idle } := by
      rw [Part.channel, same, he]
      simp
    rw [Part.beginNextTransfer, own, Channel.nextTransfer_idle, Part.setChannel_mc, same, he]
    simp
  rw [← he]
  cases timed : (p.channel m).timedBy f with
  | true =>
    refine ⟨channel _ (by simp), ?_⟩
    have lct := e.startTakeTimer_lct m
    simp only [if_true, Part.beginNextTransfer_keeps]
    rw [lct, he]
    rfl
  | false =>
    refine ⟨channel _ rfl, ?_⟩
    simp [he]

/-! ## A pending take's turn (R50) -/

theorem Part.completeItem_eq (p : Part) (k : ItemKind) (d : Nat) :
    p.completeItem k d =
      { p with dt := { p.dt with items := if d = p.dt.dwell then p.dt.items.map (Item.complete k) else p.dt.items } } := by
  unfold Part.completeItem
  by_cases now : d = p.dt.dwell
  · rw [if_pos now, if_pos now]
  · rw [if_neg now, if_neg now]

theorem Part.pendingTakeDue_withdraws {p : Part} {m : Meter} {t : PendingTake} (kind : t.kind = .take)
    (gone : (p.pocket t.pocket).isCarry = false) :
    p.pendingTakeDue m t =
      ((p.setChannel m { p.channel m with pendingTake := none }).completeItem (.take m) t.dwell).settleTakeTimer m :=
  if_pos ⟨kind, gone⟩

theorem Part.pendingTakeDue_sends {p : Part} {m : Meter} {t : PendingTake}
    (h : t.kind = .refer ∨ (p.pocket t.pocket).isCarry = true) :
    p.pendingTakeDue m t = p.sendTake m t.kind t.pocket t.dwell := by
  refine if_neg fun ⟨kind, gone⟩ => ?_
  rcases h with h | h
  · rw [h] at kind
    cases kind
  · rw [h] at gone
    cases gone

theorem Part.settleTakeTimer_of_free {p : Part} {m : Meter} (converting : ∀ x ∈ (p.channel m).queue, x.stage = .converting)
    (none : (p.channel m).pendingTake = none) : p.settleTakeTimer m = p.setTakeTimer m .stopped := by
  refine if_neg fun h => ?_
  rcases h with h | h
  · rw [(Channel.acquisitionOpen_eq_false _).mpr converting] at h
    cases h
  · rw [none] at h
    cases h

theorem Part.pendingTakeDue_withdrawn {p : Part} {m : Meter} {t : PendingTake} (kind : t.kind = .take)
    (gone : (p.pocket t.pocket).isCarry = false) (converting : ∀ x ∈ (p.channel m).queue, x.stage = .converting) :
    let q := p.pendingTakeDue m t
    q.mc = { p.mc with channels := p.mc.channels.set m { p.channel m with pendingTake := none } } ∧
      q.dt =
        { p.dt with items := if t.dwell = p.dt.dwell then p.dt.items.map (Item.complete (.take m)) else p.dt.items } ∧
      q.lct = { p.lct with timers := { p.lct.timers with take := p.lct.timers.take.set m .stopped } } ∧
      { q with mc := p.mc, dt := p.dt, lct := p.lct, changed := p.changed } = p := by
  intro q
  have form : q = ((p.setChannel m { p.channel m with pendingTake := none }).completeItem (.take m) t.dwell).setTakeTimer
      m .stopped := by
    have own : ((p.setChannel m { p.channel m with pendingTake := none }).completeItem (.take m) t.dwell).channel m =
        { p.channel m with pendingTake := none } := Part.channel_of_mc (p := p) (by simp)
    have settled := Part.settleTakeTimer_of_free
      (p := (p.setChannel m { p.channel m with pendingTake := none }).completeItem (.take m) t.dwell) (m := m)
      (by rw [own]; exact converting) (by rw [own])
    exact (Part.pendingTakeDue_withdraws kind gone).trans settled
  rw [form, Part.completeItem_eq]
  exact ⟨rfl, rfl, rfl, rfl⟩

theorem Part.settleTakeTimer_of_open {p : Part} {m : Meter} (h : ∃ x ∈ (p.channel m).queue, x.stage ≠ .converting) :
    p.settleTakeTimer m = p := if_pos (Or.inl ((Channel.acquisitionOpen_iff _).mpr h))

/-! ## A TAKE item that starts (R47, R48) -/

theorem Part.primaryGood_iff (p : Part) (k : Nat) :
    p.primaryGood k = true ↔
      ∃ g x, p.dt.geometry = some g ∧ g.withRole .primary = some x ∧ ∃ e, (p.pocket k).entry x = some e ∧ e.status = .good := by
  unfold Part.primaryGood
  cases held : p.dt.geometry with
  | none => simp
  | some g =>
    cases role : g.withRole .primary with
    | none => simp [role]
    | some x => cases entry : (p.pocket k).entry x <;> simp [role, entry]

theorem Part.takeOwed_iff (p : Part) (m : Meter) (k : Nat) :
    p.takeOwed m k = true ↔
      (p.channel m).role = .primary ∨ (p.channel m).role = .second ∨
        ((p.channel m).role = .backup ∧ p.primaryGood k = false) := by
  unfold Part.takeOwed
  cases (p.channel m).role <;> simp

theorem Urgency.isDue_iff (u : Urgency) : u.isDue = true ↔ u ≠ .current := by cases u <;> simp [Urgency.isDue]

theorem Timer.isRunning_iff (t : Timer) : t.isRunning = true ↔ t ≠ .stopped := by cases t <;> simp [Timer.isRunning]

/-- A pocket takes a reference of meter `m`. -/
def Pocket.takesReference (k : Pocket) (m : Meter) (u : Urgency) : Prop :=
  (k = .vacant ∧ u ≠ .current) ∨ ∃ set, k = .reserved set ∧ (u ≠ .current ∨ set.get m = true)

/-- A take that becomes the pending take (R50, R51). -/
theorem Part.pendTake_spec (p : Part) (m : Meter) (kind : TakeKind) (k dwell : Nat) :
    let q := p.pendTake m kind k dwell
    q.mc =
        { p.mc with
          channels := p.mc.channels.set m { p.channel m with pendingTake := some { kind, pocket := k, dwell } } } ∧
      { q with mc := { q.mc with channels := p.mc.channels }, lct := p.lct, changed := p.changed } = p ∧
      q.lct =
        if p.lct.timers.take.get m ≠ .stopped then p.lct
        else { p.lct with timers := { p.lct.timers with take := p.takeStarted m } } := by
  intro q
  obtain ⟨e, he⟩ : ∃ e, e = p.setChannel m { p.channel m with pendingTake := some { kind, pocket := k, dwell } } := ⟨_, rfl⟩
  have form : q = if (p.lct.timers.take.get m).isRunning then e else e.startTakeTimer m := by rw [he]; rfl
  by_cases running : p.lct.timers.take.get m ≠ .stopped
  · rw [if_pos ((Timer.isRunning_iff _).mpr running)] at form
    rw [if_pos running, form, he]
    exact ⟨rfl, rfl, rfl⟩
  · rw [if_neg ((Timer.isRunning_iff _).not.mpr running)] at form
    have lct := e.startTakeTimer_lct m
    rw [if_neg running, form, lct, he]
    refine ⟨by simp, by simp, rfl⟩

section
variable {p : Part} {m : Meter} {k : Nat}

theorem Part.startTakeItem_owed (online : (p.channel m).state = .online) (carry : (p.pocket k).isCarry = true)
    (owed : p.takeOwed m k = true) (free : (p.rsc.get m).urgency ≠ .limit) :
    p.startTakeItem m k = p.issueTake m .take k p.dt.dwell := by
  unfold Part.startTakeItem
  cases pocket : p.pocket k <;> simp_all [Pocket.isCarry]

theorem Part.startTakeItem_limit (online : (p.channel m).state = .online) (carry : (p.pocket k).isCarry = true)
    (owed : p.takeOwed m k = true) (limit : (p.rsc.get m).urgency = .limit) :
    p.startTakeItem m k = (p.noTakeClaim k m .refused).completeItem (.take m) p.dt.dwell := by
  unfold Part.startTakeItem
  cases pocket : p.pocket k <;> simp_all [Pocket.isCarry]

theorem Part.startTakeItem_down (down : (p.channel m).state ≠ .online) (carry : (p.pocket k).isCarry = true)
    (owed : p.takeOwed m k = true) :
    p.startTakeItem m k = (p.noTakeClaim k m .fault).completeItem (.take m) p.dt.dwell := by
  unfold Part.startTakeItem
  simp [down, carry, owed]

theorem Part.startTakeItem_reference (online : (p.channel m).state = .online)
    (h : (p.pocket k).takesReference m (p.rsc.get m).urgency) :
    p.startTakeItem m k = p.issueTake m .refer k p.dt.dwell := by
  unfold Part.startTakeItem
  rcases h with ⟨pocket, due⟩ | ⟨set, pocket, due⟩
  · simp [pocket, online, (Urgency.isDue_iff _).mpr due]
  · have wanted : (p.rsc.get m).urgency.isDue = true ∨ set.get m = true := due.imp_left (Urgency.isDue_iff _).mpr
    simp [pocket, online, wanted]

theorem Part.startTakeItem_none (free : ¬ ((p.pocket k).isCarry = true ∧ p.takeOwed m k = true))
    (h : (p.channel m).state ≠ .online ∨ ¬ (p.pocket k).takesReference m (p.rsc.get m).urgency) :
    p.startTakeItem m k = p.completeItem (.take m) p.dt.dwell := by
  have unowed : ((p.pocket k).isCarry && p.takeOwed m k) = false := by simpa using free
  unfold Part.startTakeItem
  by_cases online : (p.channel m).state = .online
  · have other := h.resolve_left (not_not.mpr online)
    simp only [if_pos online, unowed]
    cases pocket : p.pocket k with
    | vacant =>
      have current : (p.rsc.get m).urgency.isDue = false := by
        rw [← Bool.not_eq_true, Urgency.isDue_iff]
        exact fun due => other (Or.inl ⟨pocket, due⟩)
      simp [current]
    | reserved set =>
      have unwanted : ¬ ((p.rsc.get m).urgency.isDue = true ∨ set.get m = true) :=
        fun wanted => other (Or.inr ⟨set, pocket, wanted.imp_left (Urgency.isDue_iff _).mp⟩)
      simp [unwanted]
    | carry x => rfl
    | routed x r => rfl
    | spent x r t => rfl
    | stray => rfl
  · rw [if_neg online]
    simp only [unowed, Bool.false_eq_true, if_false]

/-- A no-take claim writes the status of an entry that waits, and nothing else (R49). -/
theorem Part.noTakeClaim_spec {x : PartRecord} (carry : p.pocket k = .carry x) (status : ReadingStatus) :
    let n := p.noTakeClaim k m status
    { n with dt := p.dt } = p ∧ { n.dt with pockets := p.dt.pockets } = p.dt ∧
      (∀ y, y ≠ k → n.pocket y = p.pocket y) ∧ (n.pocket k).isCarry = true ∧
      (∀ y, y ≠ m → (n.pocket k).entry y = (p.pocket k).entry y) ∧
      (n.pocket k).entry m =
        ((p.pocket k).entry m).map
          (fun e => if e.status = .pending ∧ e.serial = none then { e with status } else e) := by
  intro n
  have isCarry : (p.pocket k).isCarry = true := by rw [carry]; rfl
  have stays : n = p → _ := fun same : n = p => (⟨by rw [same], by rw [same], fun y _ => by rw [same], by rwa [same],
    fun y _ => by rw [same]⟩ : { n with dt := p.dt } = p ∧ { n.dt with pockets := p.dt.pockets } = p.dt ∧
      (∀ y, y ≠ k → n.pocket y = p.pocket y) ∧ (n.pocket k).isCarry = true ∧
      ∀ y, y ≠ m → (n.pocket k).entry y = (p.pocket k).entry y)
  have claim : n = p.noTakeClaim k m status := rfl
  unfold Part.noTakeClaim at claim
  rw [if_pos isCarry] at claim
  cases entry : (p.pocket k).entry m with
  | none =>
    rw [entry] at claim
    obtain ⟨dt, pockets, others, carries, entries⟩ := stays claim
    exact ⟨dt, pockets, others, carries, entries, by rw [claim, entry]; rfl⟩
  | some e =>
    rw [entry] at claim
    dsimp only at claim
    by_cases waits : e.status = .pending ∧ e.serial = none
    · rw [if_pos waits] at claim
      obtain ⟨own, entries, others⟩ := Part.writeEntry_spec (f := fun r => { r with status }) (fun _ => rfl) p k m
      rw [← claim] at own entries others
      have pocket : n.pocket k = .carry { x with readings := updateEntry m (fun r => { r with status }) x.readings } := by
        have inside : k < p.dt.pockets.length := Part.pocket_lt (by rw [carry]; exact Pocket.noConfusion)
        rw [claim, Part.writeEntry, Part.pocket_setPocket, if_pos ⟨rfl, inside⟩, carry]
        rfl
      refine ⟨by simp [claim, Part.writeEntry], by simp [claim, Part.writeEntry], others, by rw [pocket]; rfl, entries, ?_⟩
      rw [own, entry, Option.map_some, Option.map_some, if_pos waits]
    · rw [if_neg waits] at claim
      obtain ⟨dt, pockets, others, carries, entries⟩ := stays claim
      refine ⟨dt, pockets, others, carries, entries, ?_⟩
      rw [claim, entry, Option.map_some, if_neg waits]

end

/-! ## The obligation -/

theorem exec_meterFrameSent {m : Meter} {s : State} {f : Frame} (link : (s.part.channel m).link = .sending f) :
    exec (.meterFrameSent m) s = .next { s with part := Part.commit s.part (s.part.frameSent m f) } := by
  have frame : (s.part.channel m).link.frame = some f := by rw [link]; rfl
  have answer : exec (.meterFrameSent m) s = execMeterFrameSent m s := rfl
  rw [answer, execMeterFrameSent, frame] <;> rfl

theorem exec_pendingTakeSent {m : Meter} {s : State} {t : PendingTake} (sends : (s.part.channel m).canSend = true)
    (waits : (s.part.channel m).pendingTake = some t) :
    exec (.pendingTakeSent m) s = .next { s with part := Part.commit s.part (s.part.pendingTakeDue m t) } := by
  have pending : (s.part.channel m).sendablePending = some t := by rw [Channel.sendablePending, if_pos sends, waits]
  have answer : exec (.pendingTakeSent m) s = execPendingTakeSent m s := rfl
  rw [answer, execPendingTakeSent, pending] <;> rfl

/-- Settles O55. -/
theorem takesAreSentWhenTheyMay : Obligations.TakesAreSentWhenTheyMay := by
  refine ⟨fun m s f link => ?frame, fun m s k waits online acq few converting idle => ?pending, fun p m k st => ?start,
    fun p m k dwell st => ?skip⟩
  case frame =>
    intro c timed
    have isTimed : timed ↔ c.timedBy f = true := by
      have waits : c.pendingTake ≠ none ↔ c.pendingTake.isSome = true := by cases c.pendingTake <;> simp
      cases f <;> simp [timed, Channel.timedBy, ← c.acquisitionOpen_iff, waits, or_comm]
    obtain ⟨mc, lct⟩ := s.part.frameSent_spec m f
    refine ⟨_, exec_meterFrameSent link, ⟨rfl, rfl, rfl⟩, Part.otherChannels_of_mc (c := c.linkEnded) (by simp [mc, c]),
      Part.keepsBut_commit fun r hr => ?_, Part.channel_of_mc (p := s.part) (by simp [mc, c]), fun x starts timeout => ?_,
      fun stays => ?_⟩
    · cases r <;> simp [Region.same, Sa.follows_refl, lct] at hr ⊢
    · rw [if_pos (isTimed.mp starts), Part.takeStarted, timeout] at lct
      simp only [Part.commit_timers, lct]
    · rw [if_neg (isTimed.not.mp stays)] at lct
      simp only [Part.commit_timers, lct]
  case pending =>
    intro c r carried reserved urgency owed tag
    refine ⟨_, exec_pendingTakeSent (c.canSend_iff.mpr ⟨online, acq, few, converting, idle⟩) waits, ⟨rfl, rfl, rfl⟩, ?_⟩
    obtain ⟨q, hq⟩ : ∃ q, q = s.part.pendingTakeDue m k := ⟨_, rfl⟩
    rw [← hq]
    by_cases withdrawn : k.kind = .take ∧ carried = false
    · obtain ⟨kind, gone⟩ := withdrawn
      obtain ⟨mc, dt, lct, rest⟩ := Part.pendingTakeDue_withdrawn (p := s.part) (m := m) kind gone converting
      rw [← hq] at mc dt lct rest
      have work : { q.dt with pockets := s.part.dt.pockets, items := s.part.dt.items } = s.part.dt := by rw [dt]
      have channel : (Part.commit s.part q).channel m = { c with pendingTake := none } :=
        Part.channel_of_mc (p := s.part) (by simp [mc, c])
      have timers : (Part.commit s.part q).lct.timers.take = s.part.lct.timers.take.set m .stopped := by simp [lct]
      have kept : Part.keepsBut [.dial, .meters, .timers] s.part (Part.commit s.part q) := by
        obtain ⟨-, lcu, -, rsc, ps, gbt, lsq, rqx, jw, sa, attn, cfg, -, -, draws⟩ := Part.mk.inj rest
        refine Part.keepsBut_commit fun x hx => ?_
        cases x <;> simp_all [Region.same, Sa.follows_refl]
      refine ⟨Part.otherChannels_of_mc (c := { c with pendingTake := none }) (by simp [mc, c]), fun x hx => ?_,
        fun x _ => ?_, Dt.same_of_work (Part.commit_dial s.part q) work,
        fun _ _ => ⟨channel, timers, by simp [dt], fun now i hi own => ?_, kept⟩, fun sent => ?_, fun _ held => ?_,
        fun refers => ?_⟩
      · exact kept x fun h => hx (by revert h; simp; tauto)
      · rw [(kept .references (by decide) : (Part.commit s.part q).rsc = s.part.rsc)]
      · rw [if_pos now] at dt
        simp only [Part.commit_fields, dt] at hi
        obtain ⟨j, -, rfl⟩ := List.mem_map.mp hi
        exact Item.complete_not_started own
      · rcases sent with refers | held
        · exact absurd (kind.symm.trans refers) (by decide)
        · exact absurd (gone.symm.trans held) (by decide)
      · exact absurd (gone.symm.trans held) (by decide)
      · exact absurd (kind.symm.trans refers) (by decide)
    · have sends : k.kind = .refer ∨ carried = true := by
        cases kind : k.kind with
        | refer => exact Or.inl rfl
        | take => exact Or.inr (by simpa [kind] using withdrawn)
      have form : q = s.part.sendTake m k.kind k.pocket k.dwell := hq.trans (Part.pendingTakeDue_sends sends)
      obtain ⟨channel, others, meters, dial, pockets, rest, takes, refers⟩ :=
        s.part.takeSent_sendTake m k.kind k.pocket k.dwell
      rw [← form] at channel others meters dial pockets rest takes refers
      obtain ⟨-, -, mc, -, ps, gbt, lsq, rqx, jw, sa, attn, cfg, lct, -, draws⟩ := Part.mk.inj rest
      obtain ⟨-, -, -, -, items, -⟩ := Dt.mk.inj dial
      have work : { q.dt with pockets := s.part.dt.pockets, items := s.part.dt.items } = s.part.dt := by
        rw [← items]
        exact dial
      obtain ⟨pocketReads, -, -, channelReads, -⟩ := Part.commit_reads s.part q
      obtain ⟨qlcu, -, qrsc, -⟩ := Part.commit_blocks s.part q
      have timers : (Part.commit s.part q).lct.timers.take = s.part.lct.timers.take := by simp [lct]
      refine ⟨fun x other => ?_, Part.keepsBut_commit fun x hx => ?_, fun x other => ?_,
        Dt.same_of_work (Part.commit_dial s.part q) work, fun kind gone => absurd ⟨kind, gone⟩ withdrawn,
        fun _ => ⟨?_, timers, by simp [items], fun x other => ?_⟩, fun kind _ => ?_, fun kind => ?_⟩
      · rw [channelReads, others x other]
      · cases x <;> simp_all [Region.same, Sa.follows_refl]
      · rw [qrsc, meters x other]
      · rw [channelReads]
        exact channel
      · rw [pocketReads, pockets x other]
      · obtain ⟨own, entries, ref, lcu⟩ := takes kind
        rw [pocketReads, qrsc, qlcu]
        exact ⟨own, entries, ref, lcu⟩
      · obtain ⟨held, -, lcu, ref⟩ := refers kind
        rw [pocketReads, qrsc, qlcu]
        refine ⟨ref.trans ?_, lcu, fun set pocket => held set pocket (Part.pocket_lt ?_)⟩
        · simp [reserved, r]
        · rw [pocket]
          exact Pocket.noConfusion
  case start =>
    intro q c u good owed reference clear completed claimed issued
    have started : q = p.startTakeItem m k := rfl
    have isOwed : owed ↔ (p.pocket k).isCarry = true ∧ p.takeOwed m k = true := by
      have primary : p.primaryGood k = false ↔
          ∀ g x, p.dt.geometry = some g → g.withRole .primary = some x → ¬ good x := by
        rw [← Bool.not_eq_true, p.primaryGood_iff k]
        exact ⟨fun h g x held role has => h ⟨g, x, held, role, has⟩, fun h ⟨g, x, held, role, has⟩ => h g x held role has⟩
      rw [p.takeOwed_iff m k, primary]
    have isClear : c.state = .online → (clear ↔ c.canSend = true) := fun online => by
      rw [c.canSend_iff]
      exact ⟨fun h => ⟨online, h⟩, And.right⟩
    have complete : ∀ x : Part, x.dt.dwell = p.dt.dwell → x.completeItem (.take m) p.dt.dwell =
        { x with dt := { x.dt with items := x.dt.items.map (Item.complete (.take m)) } } := by
      intro x dwell
      rw [← dwell, Part.completeItem_current]
    have issues : ∀ kind : TakeKind, c.state = .online → q = p.issueTake m kind k p.dt.dwell → issued kind := by
      intro kind online form
      refine ⟨fun free => ?_, fun busy => ?_⟩
      · have sent : q = p.sendTake m kind k p.dt.dwell := form.trans (if_pos ((isClear online).mp free))
        rw [sent]
        exact p.takeSent_sendTake m kind k p.dt.dwell
      · have pended : q = p.pendTake m kind k p.dt.dwell := form.trans (if_neg ((isClear online).not.mp busy))
        obtain ⟨mc, rest, lct⟩ := p.pendTake_spec m kind k p.dt.dwell
        rw [← pended] at mc rest lct
        refine ⟨Part.channel_of_mc (p := p) (by rw [mc]), Part.otherChannels_of_mc (by rw [mc]), rest,
          fun running => ?_, fun x timeout stopped => ?_⟩
        · rw [lct, if_pos running]
        · rw [lct, if_neg (not_not.mpr stopped), Part.takeStarted, timeout]
    have claims : ∀ v : ReadingStatus, owed → q = (p.noTakeClaim k m v).completeItem (.take m) p.dt.dwell → claimed v := by
      intro v owes form
      obtain ⟨carry, -⟩ := isOwed.mp owes
      obtain ⟨x, held⟩ : ∃ x, p.pocket k = .carry x := by
        revert carry
        cases p.pocket k <;> simp [Pocket.isCarry]
      obtain ⟨rest, dial, pockets, carries, entries, own⟩ := p.noTakeClaim_spec (m := m) held v
      obtain ⟨-, -, -, dwell, items, -⟩ := Dt.mk.inj dial
      rw [complete _ dwell, items] at form
      have reads : q.pocket = (p.noTakeClaim k m v).pocket := by rw [form]; rfl
      have table : { q.dt with pockets := p.dt.pockets } = completed.dt := by
        rw [form]
        exact congrArg (fun d : Dt => { d with items := p.dt.items.map (Item.complete (.take m)) }) dial
      refine ⟨?_, table, fun y other => ?_, ?_, fun y other => ?_, ?_⟩
      · rw [form]
        exact rest
      · rw [reads, pockets y other]
      · rw [reads, carries]
      · rw [reads, entries y other]
      · rw [reads, own]
    refine ⟨fun online owes free => ?_, fun online owes limit => ?_, fun down owes => ?_, fun online refers => ?_,
      fun free other => ?_⟩
    · obtain ⟨carry, takes⟩ := isOwed.mp owes
      exact issues .take online (Part.startTakeItem_owed online carry takes free)
    · obtain ⟨carry, takes⟩ := isOwed.mp owes
      exact claims .refused owes (Part.startTakeItem_limit online carry takes limit)
    · obtain ⟨carry, takes⟩ := isOwed.mp owes
      exact claims .fault owes (Part.startTakeItem_down down carry takes)
    · exact issues .refer online (Part.startTakeItem_reference online refers)
    · rw [started, Part.startTakeItem_none (isOwed.not.mp free) other, complete p rfl]
  case skip =>
    intro q c
    have skipped : q = p.skipTakeItem m dwell := rfl
    refine ⟨fun other => ?_, fun x waits now => ?_⟩
    · rw [skipped]
      unfold Part.skipTakeItem
      cases waits : (p.channel m).pendingTake with
      | none => rfl
      | some t => exact if_neg (other t waits)
    · obtain ⟨e, he⟩ : ∃ e, e = p.setChannel m { c with pendingTake := none } := ⟨_, rfl⟩
      have form : q = e.settleTakeTimer m := by
        rw [skipped, he]
        unfold Part.skipTakeItem
        rw [show (p.channel m).pendingTake = some x from waits]
        exact if_pos now
      have own : e.channel m = { c with pendingTake := none } := by rw [he, Part.channel_setChannel_self]
      have mc : q.mc = { p.mc with channels := p.mc.channels.set m { c with pendingTake := none } } := by simp [form, he]
      refine ⟨Part.channel_of_mc (p := p) (by rw [mc]), Part.otherChannels_of_mc (by rw [mc]), ?_, fun opened => ?_,
        fun converting => ?_⟩
      · simp [form, he]
      · rw [form, Part.settleTakeTimer_of_open (by rw [own]; exact opened), he]
        rfl
      · rw [form, Part.settleTakeTimer_of_free (by rw [own]; exact converting) (by rw [own]), he]
        rfl

end Sys2Proof.Machine
end

section
/-! A REPORT's tests (R40), and the answer of a setup (R44, R73). -/

namespace Sys2Proof.Machine

/-! ## The tests of a frame (R40) -/

/-- The first test that does not depend on the state and that the frame fails. -/
def brokenBy (f : List Byte) : Option ProtocolCause :=
  if byteSum f ≠ 0 then some .check
  else if 2 < fieldAt f 4 1 then some .status
  else if fieldAt f 4 1 < 2 ∧ 9999999 < (signedAt f 5).natAbs then some .range
  else none

/-- The status that a status byte of at most 2 names. -/
def statusNamed (n : Nat) : ReadingStatus := if n = 0 then .good else if n = 1 then .over else .opened

theorem reportStatus_of_named {f : List Byte} (h : ¬ 2 < fieldAt f 4 1) :
    reportStatus f = some (statusNamed (fieldAt f 4 1)) := by
  unfold reportStatus statusNamed
  have cases_ : fieldAt f 4 1 = 0 ∨ fieldAt f 4 1 = 1 ∨ fieldAt f 4 1 = 2 := by omega
  rcases cases_ with h | h | h <;> rw [h] <;> rfl

theorem reportStatus_of_unnamed {f : List Byte} (h : 2 < fieldAt f 4 1) : reportStatus f = none := by
  obtain ⟨n, code⟩ : ∃ n, fieldAt f 4 1 = n + 3 := ⟨fieldAt f 4 1 - 3, by omega⟩
  rw [reportStatus, code] <;> rfl

theorem reportRangeOk_eq_false_iff {f : List Byte} (h : ¬ 2 < fieldAt f 4 1) :
    reportRangeOk f (statusNamed (fieldAt f 4 1)) = false ↔ fieldAt f 4 1 < 2 ∧ 9999999 < (signedAt f 5).natAbs := by
  unfold reportRangeOk reportDeviation maxDeviation statusNamed
  have cases_ : fieldAt f 4 1 = 0 ∨ fieldAt f 4 1 = 1 ∨ fieldAt f 4 1 = 2 := by omega
  rcases cases_ with h | h | h <;> rw [h] <;> simp

theorem reportChecked_of_broken {f : List Byte} {x : ProtocolCause} (h : brokenBy f = some x) :
    reportChecked f = .error x := by
  unfold brokenBy at h
  unfold reportChecked
  by_cases sum : byteSum f ≠ 0
  · rw [if_pos sum] at h
    rw [if_pos (by simpa [reportSumOk] using sum), Option.some.inj h]
  · rw [if_neg sum] at h
    rw [if_neg (by simpa [reportSumOk] using sum)]
    by_cases code : 2 < fieldAt f 4 1
    · rw [if_pos code] at h
      rw [reportStatus_of_unnamed code, Option.some.inj h]
    · rw [if_neg code] at h
      rw [reportStatus_of_named code]
      split at h
      · next range =>
        dsimp only
        rw [if_pos ((reportRangeOk_eq_false_iff code).mpr range), Option.some.inj h]
      · exact absurd h.symm (Option.some_ne_none x)

theorem reportChecked_of_intact {f : List Byte} (h : brokenBy f = none) :
    reportChecked f = .ok (statusNamed (fieldAt f 4 1)) := by
  unfold brokenBy at h
  unfold reportChecked
  split at h
  · exact absurd h (Option.some_ne_none _)
  · next sum =>
    split at h
    · exact absurd h (Option.some_ne_none _)
    · next code =>
      split at h
      · exact absurd h (Option.some_ne_none _)
      · next range =>
        rw [if_neg (by simpa [reportSumOk] using sum), reportStatus_of_named code]
        dsimp only
        rw [if_neg ((reportRangeOk_eq_false_iff code).not.mpr range)]

section
variable {f : List Byte} {queue rest : List Tag} {k : Tag} {w : SetupWork} {x : ProtocolCause}

theorem setupReport_of_broken (h : brokenBy f = some x) : setupReport f w = .error x := by
  rw [setupReport, reportChecked_of_broken h]

theorem setupReport_of_tag (h : brokenBy f = none) (tag : reportTagIs f 1 255 w.serial = false) :
    setupReport f w = .error .tag := by
  rw [setupReport, reportChecked_of_intact h]
  exact if_neg (by simp [tag])

theorem setupReport_of_answer (h : brokenBy f = none) (tag : reportTagIs f 1 255 w.serial = true) :
    setupReport f w = .ok (statusNamed (fieldAt f 4 1)) := by
  rw [setupReport, reportChecked_of_intact h]
  exact if_pos tag

theorem takeReport_of_broken (h : brokenBy f = some x) : takeReport f queue = .error x := by
  rw [takeReport, reportChecked_of_broken h]

theorem takeReport_of_empty (h : brokenBy f = none) : takeReport f [] = .error .noTag := by
  rw [takeReport, reportChecked_of_intact h]

theorem takeReport_of_early (h : brokenBy f = none) (stage : k.stage ≠ .converting) :
    takeReport f (k :: rest) = .error .early := by
  rw [takeReport, reportChecked_of_intact h]
  exact if_pos stage

theorem takeReport_of_tag (h : brokenBy f = none) (stage : k.stage = .converting)
    (tag : reportTagIs f k.kind.code k.pocket k.serial = false) : takeReport f (k :: rest) = .error .tag := by
  rw [takeReport, reportChecked_of_intact h]
  exact (if_neg (not_not.mpr stage)).trans (if_neg (by simp [tag]))

theorem takeReport_of_answer (h : brokenBy f = none) (stage : k.stage = .converting)
    (tag : reportTagIs f k.kind.code k.pocket k.serial = true) :
    takeReport f (k :: rest) = .ok (k, statusNamed (fieldAt f 4 1)) := by
  rw [takeReport, reportChecked_of_intact h]
  exact (if_neg (not_not.mpr stage)).trans (if_pos tag)

end

/-! ## The end of a REPORT by the channel's state (R40, R55) -/

/-- The channel with its link idle: the REPORT transfer has ended. -/
def Channel.unlinked (c : Channel) : Channel := { c with link := .idle }

theorem Channel.nextTransfer_nextTransfer (c : Channel) : c.nextTransfer.nextTransfer = c.nextTransfer := by
  obtain ⟨state, role, nextSerial, queue, pendingTake, setup, nominal, rememberedRdy, link, setupDue, acq, flt⟩ := c
  cases link <;> cases rememberedRdy <;> cases setupDue <;> cases setup <;> cases nominal <;> rfl

/-- Writing a channel as it is changes nothing, and notes nothing. -/
theorem Part.setChannel_same {p : Part} {m : Meter} {c : Channel} (h : p.channel m = c) : p.setChannel m c = p := by
  have mc : ({ p with mc := { p.mc with channels := p.mc.channels.set m c } } : Part) = p := by
    rw [← h, Part.channel, Four.set_get_self]
  rw [Part.setChannel, mc]
  simp [Part.noteChanges]

/-- With no further transfer waiting, nothing begins. -/
theorem Part.beginNextTransfer_of_settled {p : Part} {m : Meter} (h : (p.channel m).nextTransfer = p.channel m) :
    p.beginNextTransfer m = p := Part.setChannel_same h.symm

theorem Part.beginNextTransfer_twice (p : Part) (m : Meter) :
    (p.beginNextTransfer m).beginNextTransfer m = p.beginNextTransfer m := by
  refine Part.beginNextTransfer_of_settled ?_
  rw [Part.beginNextTransfer, Part.channel_setChannel_self, Channel.nextTransfer_nextTransfer]

/-- After a failure no transfer waits. -/
theorem Part.failChannel_settled (p : Part) (m : Meter) (cause : ChannelCause) :
    (p.failChannel m cause).beginNextTransfer m = p.failChannel m cause := by
  refine Part.beginNextTransfer_of_settled ?_
  have stopped : Part.stoppedAt p ((p.setChannel m (p.channel m).failed).setTakeTimer m .stopped) m
      (p.channel m).failed := by
    simp [Part.stoppedAt, Part.setTakeTimer, Part.setTimers]
  obtain ⟨-, -, -, mc, -⟩ := Part.failing_spec stopped cause
  rw [← Part.failChannel_eq] at mc
  have channel : (p.failChannel m cause).channel m = { (p.channel m).failed with queue := [], pendingTake := none } :=
    Part.channel_of_mc (p := p) (by rw [mc])
  rw [channel]
  rfl

theorem Part.endSetup_settled {p : Part} {m : Meter} {w : SetupWork} (setup : (p.channel m).setup = some w)
    (outcome : ChannelCause) : (p.endSetup m outcome).beginNextTransfer m = p.endSetup m outcome := by
  simp only [Part.endSetup, setup]
  exact Part.beginNextTransfer_twice _ m

section
variable {p : Part} {m : Meter} {f : List Byte}

/-- The report reaches no setup and no take: it was discarded, or the channel does not wait for one. -/
def Channel.deaf (c : Channel) (discard : Bool) : Prop :=
  discard = true ∨ c.state = .offline ∨ c.state = .unused ∨ (c.state = .setup ∧ c.setup = none)

theorem Part.reportEnded_discarded {discard : Bool} (h : (p.channel m).deaf discard) :
    p.reportEnded m f discard = (p.setChannel m (p.channel m).unlinked).beginNextTransfer m := by
  have channel : ((p.setChannel m { p.channel m with link := .idle }).channel m) = (p.channel m).unlinked :=
    Part.channel_setChannel_self ..
  simp only [Part.reportEnded, channel]
  cases discard with
  | true => rfl
  | false =>
    rw [if_neg Bool.false_ne_true]
    rcases h with h | h | h | ⟨h, none⟩
    · cases h
    · rw [show (p.channel m).unlinked.state = .offline from h] <;> rfl
    · rw [show (p.channel m).unlinked.state = .unused from h] <;> rfl
    · rw [show (p.channel m).unlinked.state = .setup from h, show (p.channel m).unlinked.setup = Option.none from none] <;>
        rfl

theorem Part.reportEnded_setup {w : SetupWork} (state : (p.channel m).state = .setup) (setup : (p.channel m).setup = some w) :
    p.reportEnded m f false =
      match setupReport f w with
      | .error cause => (p.setChannel m (p.channel m).unlinked).endSetup m (.protocol cause)
      | .ok s => (p.setChannel m (p.channel m).unlinked).endSetup m (if s = .good then .online else .rejected) := by
  have channel : ((p.setChannel m { p.channel m with link := .idle }).channel m) = (p.channel m).unlinked :=
    Part.channel_setChannel_self ..
  have settled := fun outcome => Part.endSetup_settled (p := p.setChannel m (p.channel m).unlinked) (m := m) (w := w)
    (by rw [Part.channel_setChannel_self]; exact setup) outcome
  simp only [Part.reportEnded, channel]
  rw [if_neg Bool.false_ne_true, show (p.channel m).unlinked.state = .setup from state,
    show (p.channel m).unlinked.setup = some w from setup]
  dsimp only
  cases setupReport f w with
  | error cause => exact settled _
  | ok s => exact settled _

theorem Part.reportEnded_takes (working : (p.channel m).state = .online ∨ (p.channel m).state = .suspect) :
    p.reportEnded m f false =
      match takeReport f (p.channel m).queue with
      | .error cause => (p.setChannel m (p.channel m).unlinked).failChannel m (.protocol cause)
      | .ok (t, s) =>
        ((p.setChannel m (p.channel m).unlinked).acceptReport m t s (reportCarried f s)).beginNextTransfer m := by
  have channel : ((p.setChannel m { p.channel m with link := .idle }).channel m) = (p.channel m).unlinked :=
    Part.channel_setChannel_self ..
  have queue : (p.channel m).unlinked.queue = (p.channel m).queue := rfl
  simp only [Part.reportEnded, channel]
  rw [if_neg Bool.false_ne_true]
  rcases working with h | h
  all_goals
    rw [show (p.channel m).unlinked.state = _ from h, queue]
    dsimp only
    cases takeReport f (p.channel m).queue with
    | error cause => exact Part.failChannel_settled _ m _
    | ok x => rfl

end

end Sys2Proof.Machine
end

section
/-! The verdict on a reference result (R68 to R72) and a channel's entry into SUSPECT (R58). -/

namespace Sys2Proof.Machine

/-! ## A channel enters SUSPECT (R58) -/

/-- The pockets once the pending take is withdrawn with FAULT. -/
def Part.pocketsWithdrawn (p : Part) (m : Meter) (t : PendingTake) : List Pocket :=
  match t.kind with
  | .take => (p.noTakeClaim t.pocket m .fault).dt.pockets
  | .refer => p.dt.pockets

theorem Part.noTakeClaim_dt (p : Part) (k : Nat) (m : Meter) (s : ReadingStatus) :
    (p.noTakeClaim k m s).dt = { p.dt with pockets := (p.noTakeClaim k m s).dt.pockets } := by
  unfold Part.noTakeClaim
  (repeat' split) <;> rfl

theorem Part.noTakeClaim_setChannel (p : Part) (m : Meter) (c : Channel) (k : Nat) (n : Meter) (s : ReadingStatus) :
    ((p.setChannel m c).noTakeClaim k n s).dt = (p.noTakeClaim k n s).dt := by
  unfold Part.noTakeClaim
  have pocket : (p.setChannel m c).pocket k = p.pocket k := rfl
  rw [pocket]
  (repeat' split) <;> rfl

/-- The channel in SUSPECT, its pending take withdrawn. -/
def Channel.suspected (c : Channel) : Channel := { c with state := .suspect, pendingTake := none }

/-- The part before the sequencer is told of the channel's turn to SUSPECT. -/
def Part.suspecting (p : Part) (m : Meter) : Part :=
  match (p.channel m).pendingTake with
  | none => (p.setChannel m { p.channel m with state := .suspect }).withdrawFaulted m
  | some t =>
    (((p.setChannel m { p.channel m with state := .suspect }).withdrawFaulted m).completeItem (.take m)
      t.dwell).settleTakeTimer m

theorem Part.suspect_eq (p : Part) (m : Meter) : p.suspect m = (p.suspecting m).tellChannelState := rfl

theorem Part.suspecting_of_none {p : Part} {m : Meter} (h : (p.channel m).pendingTake = none) :
    p.suspecting m = p.setChannel m (p.channel m).suspected := by
  have same : ({ p.channel m with state := .suspect } : Channel) = (p.channel m).suspected := by
    rw [Channel.suspected, ← h]
  rw [Part.suspecting, h, same]
  dsimp only
  simp only [Part.withdrawFaulted, Part.channel_setChannel_self] <;> rfl

/-- The pending take's part in the turn to SUSPECT. -/
theorem Part.suspecting_of_some {p : Part} {m : Meter} {t : PendingTake} (h : (p.channel m).pendingTake = some t) :
    (p.suspecting m).mc = { p.mc with channels := p.mc.channels.set m (p.channel m).suspected } ∧
      (p.suspecting m).dt =
        { p.dt with
          pockets := p.pocketsWithdrawn m t
          items := if t.dwell = p.dt.dwell then p.dt.items.map (Item.complete (.take m)) else p.dt.items } ∧
      (p.suspecting m).lct =
        { p.lct with
          timers :=
            { p.lct.timers with
              take :=
                if (p.channel m).acquisitionOpen then p.lct.timers.take else p.lct.timers.take.set m .stopped } } := by
  obtain ⟨e, he⟩ : ∃ e, e = (p.setChannel m { p.channel m with state := .suspect }).setChannel m (p.channel m).suspected :=
    ⟨_, rfl⟩
  obtain ⟨w, hw⟩ : ∃ w, w = (p.setChannel m { p.channel m with state := .suspect }).withdrawFaulted m := ⟨_, rfl⟩
  have withdrawn : w = match t.kind with | .take => e.noTakeClaim t.pocket m .fault | .refer => e := by
    rw [hw, he]
    simp only [Part.withdrawFaulted, Part.channel_setChannel_self, h] <;> rfl
  have wdt : w.dt = { p.dt with pockets := p.pocketsWithdrawn m t } := by
    rw [withdrawn, Part.pocketsWithdrawn]
    cases t.kind with
    | refer => simp [he]
    | take =>
      rw [e.noTakeClaim_dt, he, Part.noTakeClaim_setChannel, Part.noTakeClaim_setChannel]
      rfl
  have wmc : w.mc = { p.mc with channels := p.mc.channels.set m (p.channel m).suspected } := by
    rw [withdrawn]
    cases t.kind <;> simp [he]
  have wlct : w.lct = p.lct := by
    rw [withdrawn]
    cases t.kind <;> simp [he]
  have form : p.suspecting m = (w.completeItem (.take m) t.dwell).settleTakeTimer m := by
    rw [Part.suspecting, h, hw]
  have channel : (w.completeItem (.take m) t.dwell).channel m = (p.channel m).suspected :=
    Part.channel_of_mc (p := p) (by simp [wmc])
  have settled : (p.suspecting m).lct =
      { p.lct with
        timers :=
          { p.lct.timers with
            take := if (p.channel m).acquisitionOpen then p.lct.timers.take else p.lct.timers.take.set m .stopped } } := by
    rw [form]
    cases opened : (p.channel m).acquisitionOpen with
    | true =>
      rw [Part.settleTakeTimer_of_open (by rw [channel]; exact (Channel.acquisitionOpen_iff _).mp opened)]
      simp [wlct]
    | false =>
      rw [Part.settleTakeTimer_of_free (by rw [channel]; exact (Channel.acquisitionOpen_eq_false _).mp opened)
        (by rw [channel]; rfl)]
      simp [Part.setTakeTimer, Part.setTimers, wlct]
  refine ⟨by simp [form, wmc], ?_, settled⟩
  rw [form, (Part.settleTakeTimer_keeps _ m).1, Part.completeItem_eq, wdt]

/-- A channel enters SUSPECT: its pending take is withdrawn and the sequencer told. -/
theorem Part.suspect_spec (p : Part) (m : Meter) :
    let q := p.suspect m
    q.mc = { p.mc with channels := p.mc.channels.set m (p.channel m).suspected } ∧
      q.lsq = Part.toldOf p q ∧ Part.handed p q (Part.toldBodies p q) ∧
      q.lct =
        { p.lct with
          timers :=
            { p.lct.timers with
              take := q.lct.timers.take
              starvation := if q.meterCondition then p.starvationOn .hold else p.lct.timers.starvation } } ∧
      ((p.channel m).pendingTake = none → q.dt = p.dt ∧ q.lct.timers.take = p.lct.timers.take) ∧
      ∀ t, (p.channel m).pendingTake = some t →
        q.dt =
            { p.dt with
              pockets := p.pocketsWithdrawn m t
              items := if t.dwell = p.dt.dwell then p.dt.items.map (Item.complete (.take m)) else p.dt.items } ∧
          q.lct.timers.take =
            if (p.channel m).acquisitionOpen then p.lct.timers.take else p.lct.timers.take.set m .stopped := by
  intro q
  obtain ⟨v, hv⟩ : ∃ v, v = p.suspecting m := ⟨_, rfl⟩
  have told : q = v.tellChannelState := by rw [hv]; rfl
  have condition : q.meterCondition = v.meterCondition := Part.meterCondition_of_mc (by simp [told])
  have keeps : v.lsq = p.lsq ∧ v.jw = p.jw := by
    rw [hv]
    unfold Part.suspecting
    split <;> simp
  obtain ⟨lsq, jw⟩ := keeps
  have mc : v.mc = { p.mc with channels := p.mc.channels.set m (p.channel m).suspected } := by
    cases waits : (p.channel m).pendingTake with
    | none =>
      rw [hv, Part.suspecting_of_none waits]
      rfl
    | some t =>
      rw [hv]
      exact (Part.suspecting_of_some waits).1
  have lct : v.lct = { p.lct with timers := { p.lct.timers with take := v.lct.timers.take } } := by
    cases waits : (p.channel m).pendingTake with
    | none => rw [hv, Part.suspecting_of_none waits, Part.setChannel_lct]
    | some t =>
      obtain ⟨-, -, lct⟩ := Part.suspecting_of_some waits
      rw [hv, lct]
  have offset : v.dt.offset = p.dt.offset := by
    cases waits : (p.channel m).pendingTake with
    | none => rw [hv, Part.suspecting_of_none waits, Part.setChannel_dt]
    | some t =>
      obtain ⟨-, dt, -⟩ := Part.suspecting_of_some waits
      rw [hv, dt]
  have take : q.lct.timers.take = v.lct.timers.take := by rw [told, Part.tellChannelState_lct]
  refine ⟨by rw [told, (Part.tellChannelState_keeps v).2.2.1, mc], ?_, ?_, ?_, fun none => ?_, fun t waits => ?_⟩
  · rw [told, Part.tellChannelState_lsq, ← told]
    exact Part.toldOf_congr lsq condition.symm
  · have events := v.handed_tellChannelState
    rw [← told, Part.toldBodies_congr (p := p) (q := q) lsq offset condition.symm] at events
    exact Part.handed_of_left jw events
  · rw [condition, take, told, Part.tellChannelState_lct, Part.starvationOn_congr lsq (by rw [lct]), lct]
  · rw [take, told, hv, Part.suspecting_of_none none]
    simp
  · obtain ⟨-, dt, lct⟩ := Part.suspecting_of_some waits
    rw [take, hv, lct]
    refine ⟨?_, rfl⟩
    rw [told, (Part.tellChannelState_keeps v).1, hv, dt]

/-! ## Verdicts (R68 to R72) -/

section
variable {p : Part} {m : Meter} {e : RefEntry} {rest : List RefEntry} {s : ReadingStatus} {d : Option Int}

theorem Part.referenceResult_pass (refs : (p.rsc.get m).refs = e :: rest)
    (verdict : verdictOf (p.rsc.get m).drift s d = .pass) :
    p.referenceResult m s d =
      let q := ((p.setRef m { p.rsc.get m with refs := rest }).passed m e).nameOwed m
      q.handOff (.check m e.pocket e.kind s .pass (p.rsc.get m).count (q.rsc.get m).count d) := by
  simp only [Part.referenceResult, refs, verdict]

theorem Part.referenceResult_unjudged (refs : (p.rsc.get m).refs = e :: rest)
    (verdict : verdictOf (p.rsc.get m).drift s d = .none) :
    p.referenceResult m s d =
      let q := ((p.setRef m { p.rsc.get m with refs := rest }).coverJudged m e).nameOwed m
      q.handOff (.check m e.pocket e.kind s .none (p.rsc.get m).count (q.rsc.get m).count d) := by
  simp only [Part.referenceResult, refs, verdict]

theorem Part.referenceResult_fail (refs : (p.rsc.get m).refs = e :: rest)
    (verdict : verdictOf (p.rsc.get m).drift s d = .fail) :
    p.referenceResult m s d =
      let q := ((p.setRef m { p.rsc.get m with refs := rest }).suspect m).coverJudged m e
      (q.handOff (.check m e.pocket e.kind s .fail (p.rsc.get m).count (q.rsc.get m).count d)).latch .meter := by
  simp only [Part.referenceResult, refs, verdict]

/-- What a verdict without a failure leaves outside the scheduler, the pending set and the journal. -/
def Part.judgedAside (p q : Part) : Prop :=
  { q with lcu := p.lcu, rsc := p.rsc, jw := p.jw, changed := p.changed } = p

/-- A pass (R69). -/
theorem Part.referenceResult_pass_spec {h : Thresholds} (refs : (p.rsc.get m).refs = e :: rest)
    (held : (p.rsc.get m).thresholds = some h) (verdict : verdictOf (p.rsc.get m).drift s d = .pass) :
    let r := p.rsc.get m
    let q := p.referenceResult m s d
    let cover := if r.cover = .pending then .none else r.cover.afterReserved e.kind
    let left := if r.cover = .pending then p.lcu.pendingSet.erase m else p.lcu.pendingSet
    let owed := (p.channel m).owesReference (h.urgencyAt e.since) cover
    q.rsc =
        p.rsc.set m
          { r with
            count := e.since, urgency := h.urgencyAt e.since, refs := rest, cover := if owed then .pending else cover } ∧
      q.lcu = { p.lcu with pendingSet := if owed then left.insert m else left } ∧
      Part.handed p q [.check m e.pocket e.kind s .pass r.count e.since d] ∧ Part.judgedAside p q := by
  intro r q cover left owed
  obtain ⟨w, hw⟩ : ∃ w, w = (p.setRef m { r with refs := rest }).passed m e := ⟨_, rfl⟩
  have counted : RefMeter.withCount { r with refs := rest } e.since =
      { r with count := e.since, urgency := h.urgencyAt e.since, refs := rest } :=
    RefMeter.withCount_of_thresholds { r with refs := rest } e.since h held
  have passed : w.rsc =
        p.rsc.set m { r with count := e.since, urgency := h.urgencyAt e.since, refs := rest, cover } ∧
      w.lcu = { p.lcu with pendingSet := left } := by
    rw [hw, Part.passed]
    simp only [Part.setRef_rsc, Four.get_set_self, counted, cover, left]
    by_cases pending : r.cover = .pending
    · rw [if_pos pending, if_pos pending, if_pos pending]
      simp
    · rw [if_neg pending, if_neg pending, if_neg pending]
      simp
  obtain ⟨wrsc, wlcu⟩ := passed
  have channel : w.channel m = p.channel m := by rw [Part.channel, Part.channel, hw]; simp
  obtain ⟨rsc, lcu⟩ := w.nameOwed_spec m
  rw [wrsc, Four.get_set_self, channel, Four.set_set] at rsc
  rw [wrsc, Four.get_set_self, channel, wlcu] at lcu
  have form := Part.referenceResult_pass (p := p) (m := m) (s := s) (d := d) refs verdict
  dsimp only at form
  rw [← hw] at form
  have count : ((w.nameOwed m).rsc.get m).count = e.since := by rw [rsc, Four.get_set_self]
  rw [count] at form
  have handed := Part.handed_of_left (p := p) (q := w.nameOwed m) (by simp [hw])
    (Part.handed_handOff (w.nameOwed m) (.check m e.pocket e.kind s .pass r.count e.since d))
  rw [show q = _ from form]
  refine ⟨by simpa using rsc, by simpa using lcu, handed, ?_⟩
  simp [Part.judgedAside, hw]

/-- No verdict (R71). -/
theorem Part.referenceResult_unjudged_spec (refs : (p.rsc.get m).refs = e :: rest)
    (verdict : verdictOf (p.rsc.get m).drift s d = .none) :
    let r := p.rsc.get m
    let q := p.referenceResult m s d
    let cover := r.cover.afterReserved e.kind
    let owed := (p.channel m).owesReference r.urgency cover
    q.rsc = p.rsc.set m { r with refs := rest, cover := if owed then .pending else cover } ∧
      q.lcu = { p.lcu with pendingSet := if owed then p.lcu.pendingSet.insert m else p.lcu.pendingSet } ∧
      Part.handed p q [.check m e.pocket e.kind s .none r.count r.count d] ∧ Part.judgedAside p q := by
  intro r q cover owed
  obtain ⟨w, hw⟩ : ∃ w, w = (p.setRef m { r with refs := rest }).coverJudged m e := ⟨_, rfl⟩
  have wrsc : w.rsc = p.rsc.set m { r with refs := rest, cover } := by simp [hw, Part.coverJudged, cover]
  have wlcu : w.lcu = p.lcu := by simp [hw]
  have channel : w.channel m = p.channel m := by rw [Part.channel, Part.channel, hw]; simp
  obtain ⟨rsc, lcu⟩ := w.nameOwed_spec m
  rw [wrsc, Four.get_set_self, channel, Four.set_set] at rsc
  rw [wrsc, Four.get_set_self, channel, wlcu] at lcu
  have form := Part.referenceResult_unjudged (p := p) (m := m) (s := s) (d := d) refs verdict
  dsimp only at form
  rw [← hw] at form
  have count : ((w.nameOwed m).rsc.get m).count = r.count := by rw [rsc, Four.get_set_self]
  rw [count] at form
  have handed := Part.handed_of_left (p := p) (q := w.nameOwed m) (by simp [hw])
    (Part.handed_handOff (w.nameOwed m) (.check m e.pocket e.kind s .none r.count r.count d))
  rw [show q = _ from form]
  refine ⟨by simpa using rsc, by simpa using lcu, handed, ?_⟩
  simp [Part.judgedAside, hw]

/-- A failure (R70): the channel enters SUSPECT. -/
theorem Part.referenceResult_fail_spec (refs : (p.rsc.get m).refs = e :: rest)
    (verdict : verdictOf (p.rsc.get m).drift s d = .fail) :
    let r := p.rsc.get m
    let q := p.referenceResult m s d
    let w := (p.setRef m { r with refs := rest }).suspect m
    q.rsc = p.rsc.set m { r with refs := rest, cover := r.cover.afterReserved e.kind } ∧ q.lcu = p.lcu ∧
      q.dt = w.dt ∧ q.mc = w.mc ∧ q.lsq = w.lsq ∧ q.lct = w.lct ∧ q.attn = (p.latch .meter).attn ∧
      Part.handed w q [.check m e.pocket e.kind s .fail r.count r.count d] := by
  intro r q w
  have form := Part.referenceResult_fail (p := p) (m := m) (s := s) (d := d) refs verdict
  dsimp only at form
  have wrsc : (w.coverJudged m e).rsc = p.rsc.set m { r with refs := rest, cover := r.cover.afterReserved e.kind } := by
    simp [w, Part.coverJudged]
  have count : ((w.coverJudged m e).rsc.get m).count = r.count := by rw [wrsc, Four.get_set_self]
  rw [show q = _ from form, show ((p.setRef m { p.rsc.get m with refs := rest }).suspect m) = w from rfl, count,
    show r.count = (p.rsc.get m).count from rfl]
  refine ⟨by simpa using wrsc, by simp [w], by simp, by simp, by simp, by simp, ?_, ?_⟩
  · exact Part.latch_attn_congr (by simp [w]) .meter
  · have record := (w.coverJudged m e).handed_handOff
      (.check m e.pocket e.kind s .fail (p.rsc.get m).count (p.rsc.get m).count d)
    exact Part.handed_of_right (Part.handed_of_left (p := w) (by simp) record) (by simp) (by simp [Part.indexCount])

end

theorem Part.otherChannels_trans {p q t : Part} {m : Meter} (h : Part.otherChannels p q m)
    (k : Part.otherChannels q t m) : Part.otherChannels p t m := fun x hx => (k x hx).trans (h x hx)

theorem Part.otherChannels_of_same {p q : Part} {m : Meter} (h : q.mc = p.mc) : Part.otherChannels p q m := by
  intro x _
  rw [Part.channel, Part.channel, h]

/-- A reference result touches no channel but its own. -/
theorem Part.referenceResult_others (p : Part) (m : Meter) (s : ReadingStatus) (d : Option Int) :
    Part.otherChannels p (p.referenceResult m s d) m := by
  cases refs : (p.rsc.get m).refs with
  | nil =>
    rw [Part.referenceResult_none refs]
    exact fun _ _ => rfl
  | cons e rest =>
    cases verdict : verdictOf (p.rsc.get m).drift s d with
    | pass =>
      rw [Part.referenceResult_pass refs verdict]
      exact Part.otherChannels_of_same (by simp)
    | none =>
      rw [Part.referenceResult_unjudged refs verdict]
      exact Part.otherChannels_of_same (by simp)
    | fail =>
      obtain ⟨-, -, -, mc, -⟩ := Part.referenceResult_fail_spec (d := d) refs verdict
      obtain ⟨suspects, -⟩ := (p.setRef m { p.rsc.get m with refs := rest }).suspect_spec m
      rw [suspects] at mc
      exact Part.otherChannels_of_mc (by rw [mc]; rfl)

/-- An accepted report touches no channel but its own. -/
theorem Part.acceptReport_others (p : Part) (m : Meter) (t : Tag) (s : ReadingStatus) (d : Option Int) :
    Part.otherChannels p (p.acceptReport m t s d) m := by
  have answered : Part.otherChannels p (p.setChannel m { p.channel m with queue := (p.channel m).queue.tail }) m :=
    Part.otherChannels_of_mc (c := { p.channel m with queue := (p.channel m).queue.tail }) (by simp)
  refine Part.otherChannels_trans answered ?_
  unfold Part.acceptReport
  cases t.kind with
  | take => exact Part.otherChannels_of_same (by simp)
  | refer => exact Part.referenceResult_others _ m _ _

end Sys2Proof.Machine
end

section
/-! A setup that succeeds (R44, R73), and the obligation on a REPORT's tests. -/

namespace Sys2Proof.Machine

/-! ## The count after a setup (R73) -/

/-- The count set by a successful setup, and whether its meter is named owed. -/
theorem Part.countAfterSetup_spec {p : Part} {m : Meter} {h : Thresholds} (asker : SetupAsker) (before : ChannelState)
    (held : (p.rsc.get m).thresholds = some h) (count : Nat) (urgency : Urgency)
    (judged : (asker = .startLot ∧ before = .online ∧ count = (p.rsc.get m).count ∧ urgency = (p.rsc.get m).urgency) ∨
      (¬ (asker = .startLot ∧ before = .online) ∧ count = h.limit ∧ urgency = h.urgencyAt h.limit)) :
    let r := p.rsc.get m
    let owed := (p.channel m).owesReference urgency r.cover
    (p.countAfterSetup m asker before).rsc =
        p.rsc.set m { r with count, urgency, cover := if owed then .pending else r.cover } ∧
      (p.countAfterSetup m asker before).lcu =
        { p.lcu with pendingSet := if owed then p.lcu.pendingSet.insert m else p.lcu.pendingSet } := by
  intro r owed
  obtain ⟨w, hw⟩ : ∃ w, w = if asker = .startLot ∧ before = .online then p else p.setRef m (r.withCount h.limit) := ⟨_, rfl⟩
  have form : p.countAfterSetup m asker before = w.nameOwed m := by
    rw [hw]
    unfold Part.countAfterSetup
    simp only [held] <;> rfl
  have wref : w.rsc.get m = { r with count, urgency } := by
    rw [hw]
    rcases judged with ⟨starts, online, rfl, rfl⟩ | ⟨other, rfl, rfl⟩
    · rw [if_pos ⟨starts, online⟩]
    · rw [if_neg other, Part.setRef_rsc, Four.get_set_self, RefMeter.withCount_of_thresholds r h.limit h held]
  have wset : ∀ x, w.rsc.set m x = p.rsc.set m x := by
    intro x
    rw [hw]
    split
    · rfl
    · rw [Part.setRef_rsc, Four.set_set]
  have wlcu : w.lcu = p.lcu := by
    rw [hw]
    split <;> rfl
  have wchannel : w.channel m = p.channel m := by
    rw [hw]
    split <;> rfl
  obtain ⟨rsc, lcu⟩ := w.nameOwed_spec m
  rw [wref, wchannel, wset] at rsc
  rw [wref, wchannel, wlcu] at lcu
  rw [form]
  exact ⟨rsc, lcu⟩

theorem Part.countAfterSetup_others (p : Part) (m : Meter) (asker : SetupAsker) (before : ChannelState) {x : Meter}
    (other : x ≠ m) : (p.countAfterSetup m asker before).rsc.get x = p.rsc.get x := by
  have named : ∀ q : Part, (q.nameOwed m).rsc.get x = q.rsc.get x := by
    intro q
    obtain ⟨rsc, -⟩ := q.nameOwed_spec m
    rw [rsc, Four.get_set_ne _ _ other]
  unfold Part.countAfterSetup
  dsimp only
  rw [named]
  split
  · rfl
  · split
    · rfl
    · rw [Part.setRef_rsc, Four.get_set_ne _ _ other]

/-! ## A setup that succeeds (R44) -/

/-- The channel after a setup that succeeded. -/
def Channel.setupPassed (c : Channel) : Channel := { c with state := .online, setup := none, setupDue := false }

theorem Part.endSetup_passes {p : Part} {m : Meter} {w : SetupWork} (setup : (p.channel m).setup = some w) :
    p.endSetup m .online =
      ((((p.setTakeTimer m .stopped).setChannel m (p.channel m).setupPassed).event (.channelOnline m w.before)).countAfterSetup
        m w.asker w.before).answering m w.asker .online := by
  simp only [Part.endSetup, setup, if_pos] <;> rfl

/-- From `p` to `q` the setup `w` of channel `m` has succeeded. -/
def Part.setupPassed (p q : Part) (m : Meter) (w : SetupWork) : Prop :=
  let c := p.channel m
  q.mc = { p.mc with channels := p.mc.channels.set m c.setupPassed.linkEnded } ∧
    Part.handed p q ([.event (.channelOnline m w.before)] ++ Part.toldBodies p q) ∧
    q.lct.timers = Part.toldTimers p q m ∧ (∀ x, x ≠ m → q.rsc.get x = p.rsc.get x) ∧
    (∀ h count urgency, (p.rsc.get m).thresholds = some h →
      ((w.asker = .startLot ∧ w.before = .online ∧ count = (p.rsc.get m).count ∧ urgency = (p.rsc.get m).urgency) ∨
        (¬ (w.asker = .startLot ∧ w.before = .online) ∧ count = h.limit ∧ urgency = h.urgencyAt h.limit)) →
      let r := p.rsc.get m
      let owed := c.setupPassed.owesReference urgency r.cover
      q.rsc.get m = { r with count, urgency, cover := if owed then .pending else r.cover } ∧
        q.lcu = { p.lcu with pendingSet := if owed then p.lcu.pendingSet.insert m else p.lcu.pendingSet }) ∧
    Part.setupAnswered p q m w .online .ok ∧
    Part.keepsBut [.loading, .meters, .references, .lots, .requests, .journal, .queues, .timers] p q

theorem Part.setupPassed_endSetup {p : Part} {m : Meter} {w : SetupWork} (setup : (p.channel m).setup = some w) :
    Part.setupPassed p (Part.commit p ((p.setChannel m (p.channel m).unlinked).endSetup m .online)) m w := by
  obtain ⟨c, hc⟩ : ∃ c, c = (p.channel m).unlinked.setupPassed := ⟨_, rfl⟩
  obtain ⟨e, he⟩ : ∃ e, e = ((p.setChannel m (p.channel m).unlinked).setTakeTimer m .stopped).setChannel m c := ⟨_, rfl⟩
  obtain ⟨v, hv⟩ : ∃ v, v = (e.event (.channelOnline m w.before)).countAfterSetup m w.asker w.before := ⟨_, rfl⟩
  have form : (p.setChannel m (p.channel m).unlinked).endSetup m .online = v.answering m w.asker .online := by
    rw [Part.endSetup_passes (by rw [Part.channel_setChannel_self]; exact setup), Part.channel_setChannel_self, hv, he, hc]
  have stopped : Part.stoppedAt p e m c := by
    rw [he]
    simp [Part.stoppedAt, Part.setTakeTimer, Part.setTimers]
  obtain ⟨edt, elcu, emc, ersc, elsq, erqx, ejw, esa, eattn, eps, egbt, ecfg, edraws, elct⟩ := Part.stoppedAt_fields stopped
  have vmc : v.mc = e.mc := by simp [hv]
  have channel : v.channel m = c := Part.channel_of_mc (p := p) (by rw [vmc, emc])
  have events : Part.handed p v [.event (.channelOnline m w.before)] := by
    have online := e.handed_event (.channelOnline m w.before)
    exact Part.handed_of_right (Part.handed_of_left ejw online) (by simp [hv]) (by simp [hv, Part.indexCount])
  have vlsq : v.lsq = p.lsq := by simp [hv, elsq]
  obtain ⟨timers, handed⟩ := Part.answering_commit w.asker .online vlsq (by simp [hv, edt]) (by simpa [hv] using elct) events
  obtain ⟨dt, lcu, rsc, ps, gbt, attn, cfg, draws, -, lct⟩ := v.answering_keeps m w.asker .online
  have mc := v.answering_mc m w.asker .online
  have link : c.nextTransfer = (p.channel m).setupPassed.linkEnded := by
    rw [hc]
    exact Channel.nextTransfer_idle (p.channel m).setupPassed
  rw [channel, link, vmc, emc] at mc
  obtain ⟨qlcu, qmc, qrsc, -⟩ := Part.commit_blocks p (v.answering m w.asker .online)
  rw [form]
  refine ⟨?_, handed, timers, fun x other => ?_, fun h count urgency held judged => ?_, ?_,
    Part.keepsBut_commit fun r hr => ?_⟩
  · rw [qmc, mc]
    simp
  · rw [qrsc, rsc, hv, Part.countAfterSetup_others _ _ _ _ other]
    simp [ersc]
  · have ref : (e.event (.channelOnline m w.before)).rsc = p.rsc := by simp [ersc]
    have owner : (e.event (.channelOnline m w.before)).channel m = c :=
      Part.channel_of_mc (p := p) (by simp [emc])
    obtain ⟨counted, named⟩ := Part.countAfterSetup_spec (p := e.event (.channelOnline m w.before)) (m := m) w.asker w.before
      (by rw [ref]; exact held) count urgency (by rw [ref]; exact judged)
    rw [← hv, ref, owner] at counted named
    rw [qrsc, qlcu, rsc, lcu, counted, named, Four.get_set_self]
    refine ⟨by rw [hc]; rfl, ?_⟩
    rw [hc, (Part.event_keeps e _).2.1, elcu]
    rfl
  · exact Part.setupAnswered_answering (p := p) (e := v) m w .online vlsq (by simp [hv, erqx]) (by simp [hv, esa])
  · cases r <;> simp_all [Region.same]

/-! ## The obligation -/

theorem exec_report {m : Meter} {f : List Byte} {s : State} {discard : Bool}
    (link : (s.part.channel m).link = .receiving discard) :
    exec (.report m f) s = .next { s with part := Part.commit s.part (s.part.reportEnded m f discard) } := by
  have transfer : (s.part.channel m).link.report = some discard := by rw [link]; rfl
  have answer : exec (.report m f) s = execReport m f s := rfl
  rw [answer, execReport, transfer] <;> rfl

/-- A setup's end touches no channel but its own. -/
theorem Part.endSetup_others {p : Part} {m : Meter} {w : SetupWork} (setup : (p.channel m).setup = some w)
    (outcome : ChannelCause) : Part.otherChannels p (p.endSetup m outcome) m := by
  have answered : ∀ (e : Part) (c : Channel), e.mc = { p.mc with channels := p.mc.channels.set m c } →
      Part.otherChannels p (e.answering m w.asker outcome) m := by
    intro e c mc
    exact Part.otherChannels_of_mc (c := (e.channel m).nextTransfer) (by rw [Part.answering_mc, mc, Four.set_set])
  by_cases passes : outcome = .online
  · rw [passes] at answered ⊢
    rw [Part.endSetup_passes setup]
    exact answered _ (p.channel m).setupPassed (by simp)
  · rw [Part.endSetup_fails setup passes]
    exact answered _ (p.channel m).setupEnded (by simp)

/-- A failure touches no channel but its own. -/
theorem Part.failChannel_others (p : Part) (m : Meter) (cause : ChannelCause) :
    Part.otherChannels p (p.failChannel m cause) m := by
  have stopped : Part.stoppedAt p ((p.setChannel m (p.channel m).failed).setTakeTimer m .stopped) m
      (p.channel m).failed := by
    simp [Part.stoppedAt, Part.setTakeTimer, Part.setTimers]
  obtain ⟨-, -, -, mc, -⟩ := Part.failing_spec stopped cause
  rw [← Part.failChannel_eq] at mc
  exact Part.otherChannels_of_mc (by rw [mc])

theorem Part.beginNextTransfer_others (p : Part) (m : Meter) : Part.otherChannels p (p.beginNextTransfer m) m :=
  Part.otherChannels_of_mc (c := (p.channel m).nextTransfer) (by simp [Part.beginNextTransfer])

/-- A REPORT touches no channel but its own. -/
theorem Part.reportEnded_others (p : Part) (m : Meter) (f : List Byte) (discard : Bool) :
    Part.otherChannels p (p.reportEnded m f discard) m := by
  have ended : Part.otherChannels p (p.setChannel m (p.channel m).unlinked) m :=
    Part.otherChannels_of_mc (c := (p.channel m).unlinked) (by simp)
  have setups : ∀ w o, (p.channel m).setup = some w →
      Part.otherChannels p ((p.setChannel m (p.channel m).unlinked).endSetup m o) m := by
    intro w o setup
    exact Part.otherChannels_trans ended (Part.endSetup_others (by rw [Part.channel_setChannel_self]; exact setup) o)
  by_cases deaf : (p.channel m).deaf discard
  · rw [Part.reportEnded_discarded deaf]
    exact Part.otherChannels_trans ended (Part.beginNextTransfer_others _ m)
  · obtain ⟨heard, listening⟩ := not_or.mp deaf
    obtain ⟨notOffline, listening⟩ := not_or.mp listening
    obtain ⟨used, hasSetup⟩ := not_or.mp listening
    rw [Bool.not_eq_true] at heard
    subst heard
    have takes : (p.channel m).state = .online ∨ (p.channel m).state = .suspect →
        Part.otherChannels p (p.reportEnded m f false) m := by
      intro working
      rw [Part.reportEnded_takes working]
      split
      · exact Part.otherChannels_trans ended (Part.failChannel_others _ m _)
      · exact Part.otherChannels_trans (Part.otherChannels_trans ended (Part.acceptReport_others _ m _ _ _))
          (Part.beginNextTransfer_others _ m)
    cases state : (p.channel m).state with
    | offline => exact absurd state notOffline
    | unused => exact absurd state used
    | online => exact takes (Or.inl state)
    | suspect => exact takes (Or.inr state)
    | setup =>
      cases setup : (p.channel m).setup with
      | none => exact absurd ⟨state, setup⟩ hasSetup
      | some w =>
        rw [Part.reportEnded_setup state setup]
        split <;> exact setups w _ setup

/-- A discarded REPORT ends its transfer and does nothing else. -/
theorem Part.reportDiscarded_commit {p : Part} {m : Meter} {f : List Byte} {discard : Bool}
    (deaf : (p.channel m).deaf discard) :
    let q := Part.commit p (p.reportEnded m f discard)
    Part.keepsBut [.meters] p q ∧ q.channel m = (p.channel m).linkEnded := by
  have mc : (p.reportEnded m f discard).mc =
      { p.mc with channels := p.mc.channels.set m (p.channel m).linkEnded } := by
    have link : (p.channel m).unlinked.nextTransfer = (p.channel m).linkEnded := Channel.nextTransfer_idle _
    rw [Part.reportEnded_discarded deaf, Part.beginNextTransfer, Part.channel_setChannel_self, link]
    simp
  refine ⟨Part.keepsBut_commit fun r hr => ?_, Part.channel_of_mc (p := p) (by simp [mc])⟩
  rw [Part.reportEnded_discarded deaf, Part.beginNextTransfer]
  cases r <;> simp [Region.same, Sa.follows_refl] at hr ⊢

theorem statusNamed_eq_good {n : Nat} (h : ¬ 2 < n) : statusNamed n = .good ↔ n = 0 := by
  unfold statusNamed
  have cases_ : n = 0 ∨ n = 1 ∨ n = 2 := by omega
  rcases cases_ with h | h | h <;> rw [h] <;> decide

theorem named_of_intact {f : List Byte} (h : brokenBy f = none) : ¬ 2 < fieldAt f 4 1 := by
  unfold brokenBy at h
  intro above
  rw [if_pos above] at h
  split at h <;> exact absurd h (Option.some_ne_none _)

section
variable {p : Part} {m : Meter} {f : List Byte} {x : ProtocolCause} {k : Tag} {rest : List Tag} {w : SetupWork}

/-- A REPORT that fails one of its tests fails the channel. -/
theorem Part.reportFailed_takes (working : (p.channel m).state = .online ∨ (p.channel m).state = .suspect)
    (wrong : takeReport f (p.channel m).queue = .error x) :
    Part.channelFailed p (Part.commit p (p.reportEnded m f false)) m (p.channel m) (.protocol x) := by
  rw [Part.reportEnded_takes working, wrong]
  exact Part.channelFailed_failChannel p m (p.channel m).unlinked (.protocol x)

theorem Part.reportFailed_setup (state : (p.channel m).state = .setup) (setup : (p.channel m).setup = some w)
    (wrong : setupReport f w = .error x) :
    Part.setupFailed p (Part.commit p (p.reportEnded m f false)) m (p.channel m) w (.protocol x) := by
  rw [Part.reportEnded_setup state setup, wrong]
  exact Part.setupFailed_endSetup (c := (p.channel m).unlinked) setup ChannelCause.noConfusion

end

/-- Settles O56. -/
theorem reportsAreTestedInOrder : Obligations.ReportsAreTestedInOrder := by
  intro m f s discard link c status broken tagged takes
  refine ⟨_, exec_report link, ⟨rfl, rfl, rfl⟩, ?others, fun deaf => ?deaf, fun x ⟨heard, working⟩ wrong => ?broken,
    fun ⟨heard, working⟩ intact empty => ?empty, fun k rest ⟨heard, working⟩ intact queue stage => ?early,
    fun k rest ⟨heard, working⟩ intact queue stage tag => ?tag, fun w heard state setup => ?setup⟩
  case others =>
    exact Part.otherChannels_trans (Part.reportEnded_others s.part m f discard)
      (Part.otherChannels_of_same (by simp))
  case deaf =>
    exact Part.reportDiscarded_commit (deaf.imp id (Or.imp id Or.inl))
  case broken =>
    subst heard
    exact Part.reportFailed_takes working (takeReport_of_broken wrong)
  case empty =>
    subst heard
    exact Part.reportFailed_takes working (by rw [show (s.part.channel m).queue = _ from empty, takeReport_of_empty intact])
  case early =>
    subst heard
    refine Part.reportFailed_takes working ?_
    rw [show (s.part.channel m).queue = _ from queue, takeReport_of_early intact stage]
  case tag =>
    subst heard
    refine Part.reportFailed_takes working ?_
    rw [show (s.part.channel m).queue = _ from queue, takeReport_of_tag intact stage tag]
  case setup =>
    subst heard
    refine ⟨fun x wrong => Part.reportFailed_setup state setup (setupReport_of_broken wrong),
      fun intact tag => Part.reportFailed_setup state setup (setupReport_of_tag intact tag),
      fun intact tag bad => ?_, fun intact tag good => ?_⟩
    · have named := (statusNamed_eq_good (named_of_intact intact)).not.mpr bad
      rw [Part.reportEnded_setup state setup, setupReport_of_answer intact tag]
      dsimp only
      rw [if_neg named]
      exact Part.setupFailed_endSetup (c := (s.part.channel m).unlinked) setup ChannelCause.noConfusion
    · have named := (statusNamed_eq_good (named_of_intact intact)).mpr good
      rw [Part.reportEnded_setup state setup, setupReport_of_answer intact tag]
      dsimp only
      rw [if_pos named]
      obtain ⟨mc, handed, timers, others, counted, answered, keeps⟩ := Part.setupPassed_endSetup setup
      refine ⟨Part.channel_of_mc (p := s.part) (by rw [mc]; rfl), handed, timers, others, fun h held => ?_, answered, keeps⟩
      exact ⟨fun kept => counted h _ _ held (Or.inl ⟨kept.1, kept.2, rfl, rfl⟩),
        fun other => counted h _ _ held (Or.inr ⟨other, rfl, rfl⟩)⟩

end Sys2Proof.Machine
end

section
/-! An accepted REPORT: the head tag answered by a reading claim or by a verdict (R40, R53, R54, R68 to R72). -/

namespace Sys2Proof.Machine

/-! ## The report as it reaches its tag -/

/-- The status a channel's report counts with (R54). -/
def Channel.heard (c : Channel) (v : ReadingStatus) : ReadingStatus := if c.state = .online then v else .fault

/-- The deviation a channel's report carries (R54). -/
def Channel.measured (c : Channel) (f : List Byte) (v : ReadingStatus) : Option Int :=
  if c.state = .online then reportCarried f v else none

/-- The head tag of channel `m` has left, its transfer ended. -/
def Part.tagAnswered (p : Part) (m : Meter) (rest : List Tag) : Part :=
  (p.setChannel m (p.channel m).unlinked).setChannel m { (p.channel m).unlinked with queue := rest }

@[simp] theorem Part.tagAnswered_keeps (p : Part) (m : Meter) (rest : List Tag) :
    (p.tagAnswered m rest).mc =
        { p.mc with channels := p.mc.channels.set m { (p.channel m).unlinked with queue := rest } } ∧
      (p.tagAnswered m rest).dt = p.dt ∧ (p.tagAnswered m rest).lcu = p.lcu ∧ (p.tagAnswered m rest).rsc = p.rsc ∧
      (p.tagAnswered m rest).lsq = p.lsq ∧ (p.tagAnswered m rest).jw = p.jw ∧ (p.tagAnswered m rest).attn = p.attn ∧
      (p.tagAnswered m rest).lct = p.lct := by
  simp [Part.tagAnswered]

@[simp] theorem Part.pocket_tagAnswered (p : Part) (m : Meter) (rest : List Tag) (k : Nat) :
    (p.tagAnswered m rest).pocket k = p.pocket k := rfl

@[simp] theorem Part.channel_tagAnswered (p : Part) (m : Meter) (rest : List Tag) :
    (p.tagAnswered m rest).channel m = { (p.channel m).unlinked with queue := rest } := Part.channel_setChannel_self ..

section
variable {p : Part} {m : Meter} {f : List Byte} {k : Tag} {rest : List Tag} {v : ReadingStatus}

/-- A frame that names its status and keeps its range passes the tests that ask for no tag. -/
theorem intact_of_named (sum : byteSum f = 0)
    (named : (fieldAt f 4 1, v) ∈ [(0, ReadingStatus.good), (1, .over), (2, .opened)])
    (range : v = .opened ∨ (signedAt f 5).natAbs ≤ 9999999) :
    brokenBy f = none ∧ statusNamed (fieldAt f 4 1) = v := by
  unfold brokenBy statusNamed
  rw [if_neg (not_not.mpr sum)]
  simp only [List.mem_cons, Prod.mk.injEq, List.not_mem_nil, or_false] at named
  rcases named with ⟨code, rfl⟩ | ⟨code, rfl⟩ | ⟨code, rfl⟩ <;> rw [code] <;> simp at range ⊢ <;> omega

theorem Part.reportEnded_take (working : (p.channel m).state = .online ∨ (p.channel m).state = .suspect)
    (queue : (p.channel m).queue = k :: rest) (passes : takeReport f (k :: rest) = .ok (k, v)) (kind : k.kind = .take) :
    p.reportEnded m f false =
      ((p.tagAnswered m rest).readingClaim k.pocket m k.serial ((p.channel m).heard v)
        ((p.channel m).measured f v)).beginNextTransfer m := by
  have unlinked : (p.channel m).unlinked.state = (p.channel m).state ∧ (p.channel m).unlinked.queue.tail = rest :=
    ⟨rfl, by rw [Channel.unlinked, queue]; rfl⟩
  rw [Part.reportEnded_takes working, queue, passes]
  dsimp only
  rw [Part.acceptReport, kind, Part.channel_setChannel_self]
  simp only [unlinked, Part.tagAnswered, Channel.heard, Channel.measured, beq_iff_eq]

theorem Part.reportEnded_refer (working : (p.channel m).state = .online ∨ (p.channel m).state = .suspect)
    (queue : (p.channel m).queue = k :: rest) (passes : takeReport f (k :: rest) = .ok (k, v)) (kind : k.kind = .refer) :
    p.reportEnded m f false =
      ((p.tagAnswered m rest).referenceResult m ((p.channel m).heard v)
        ((p.channel m).measured f v)).beginNextTransfer m := by
  have unlinked : (p.channel m).unlinked.state = (p.channel m).state ∧ (p.channel m).unlinked.queue.tail = rest :=
    ⟨rfl, by rw [Channel.unlinked, queue]; rfl⟩
  rw [Part.reportEnded_takes working, queue, passes]
  dsimp only
  rw [Part.acceptReport, kind, Part.channel_setChannel_self]
  simp only [unlinked, Part.tagAnswered, Channel.heard, Channel.measured, beq_iff_eq]

/-! ## What stays, whatever the answer -/

theorem Part.reportAccepted_keeps (working : (p.channel m).state = .online ∨ (p.channel m).state = .suspect)
    (queue : (p.channel m).queue = k :: rest) (passes : takeReport f (k :: rest) = .ok (k, v)) :
    Part.keepsBut [.dial, .loading, .meters, .references, .lots, .journal, .attention, .timers] p
      (Part.commit p (p.reportEnded m f false)) := by
  rw [Part.reportEnded_takes working, queue, passes]
  refine Part.keepsBut_commit fun r hr => ?_
  cases r <;> simp [Region.same, Sa.follows_refl] at hr ⊢

/-- The next transfer of a channel that has ended its own begins. -/
theorem Part.linkEnded_mc {q : Part} {c : Channel} (mc : q.mc = { p.mc with channels := p.mc.channels.set m c.unlinked }) :
    (q.beginNextTransfer m).mc = { p.mc with channels := p.mc.channels.set m c.linkEnded } := by
  have channel : q.channel m = c.unlinked := Part.channel_of_mc (p := p) (by rw [mc])
  have link : c.unlinked.nextTransfer = c.linkEnded := Channel.nextTransfer_idle c
  rw [Part.beginNextTransfer, channel, link, Part.setChannel_mc, mc, Four.set_set]

end

/-! ## A TAKE answered (R6, R53) -/

/-- A reading claim: a stale report, or the entry of the serial written. -/
theorem Part.readingClaim_spec (p : Part) (k : Nat) (m : Meter) (n : Nat) (status : ReadingStatus)
    (deviation : Option Int) :
    let q := p.readingClaim k m n status deviation
    let counted (counters : LotCounters) : Lcu := { p.lcu with counters }
    { q.dt with pockets := p.dt.pockets } = p.dt ∧ (∀ y, y ≠ k → q.pocket y = p.pocket y) ∧
      ((p.pocket k).fits m n = false →
        q.pocket k = p.pocket k ∧
          q.lcu = counted { p.lcu.counters with staleReports := countUp p.lcu.counters.staleReports } ∧
          Part.handed p q [.event (.staleReport k m n p.dt.offset)]) ∧
      ((p.pocket k).fits m n = true →
        q.jw = p.jw ∧
          (∀ x, p.pocket k = .carry x →
            q.pocket k = .carry (x.written m status deviation false) ∧ q.lcu = p.lcu) ∧
          ((p.pocket k).isCarry = false →
            q.lcu = counted { p.lcu.counters with lateReadings := countUp p.lcu.counters.lateReadings }) ∧
          (∀ x r, p.pocket k = .routed x r → q.pocket k = .routed (x.written m status deviation true) r) ∧
          ∀ x r t, p.pocket k = .spent x r t → q.pocket k = .spent (x.written m status deviation true) r t) := by
  intro q counted
  have other : ∀ x y, y ≠ k → (p.setPocket k x).pocket y = p.pocket y := fun x y hy => by
    rw [Part.pocket_setPocket, if_neg fun h => hy h.1]
  cases fits : (p.pocket k).fits m n with
  | false =>
    have claim : q = _ := Part.readingClaim_stale fits
    have dt : q.dt = p.dt := by simp [claim]
    have pocket : q.pocket = p.pocket := by
      funext y
      rw [Part.pocket, Part.pocket, dt]
    refine ⟨by rw [dt], fun y _ => by rw [pocket], fun _ => ⟨by rw [pocket], ?_, ?_⟩, fun h => absurd h Bool.false_ne_true⟩
    · rw [claim, Part.countLot, (Part.event_keeps p _).2.1]
    · rw [claim]
      exact Part.handed_of_right (p.handed_event _) rfl rfl
  | true =>
    have own : ∀ x, p.pocket k ≠ .vacant → (p.setPocket k x).pocket k = x := fun x held => by
      rw [Part.pocket_setPocket, if_pos ⟨rfl, Part.pocket_lt held⟩]
    rcases Pocket.part_of_fits fits with ⟨x, carry⟩ | ⟨x, r, routed⟩ | ⟨x, r, t, spent⟩
    · have claim : q = _ := Part.readingClaim_carry fits carry
      rw [carry] at own ⊢
      rw [claim]
      refine ⟨rfl, other _, fun h => absurd h Bool.false_ne_true.symm, fun _ => ⟨rfl, fun y same => ?_, fun h => absurd h Bool.false_ne_true.symm,
        fun _ _ h => Pocket.noConfusion h, fun _ _ _ h => Pocket.noConfusion h⟩⟩
      obtain rfl := Pocket.carry.inj same
      exact ⟨own _ Pocket.noConfusion, rfl⟩
    · have claim : q = _ := Part.readingClaim_routed fits routed
      rw [routed] at own ⊢
      rw [claim]
      refine ⟨rfl, other _, fun h => absurd h Bool.false_ne_true.symm, fun _ => ⟨rfl, fun _ h => Pocket.noConfusion h, fun _ => rfl,
        fun y w same => ?_, fun _ _ _ h => Pocket.noConfusion h⟩⟩
      obtain ⟨rfl, rfl⟩ := Pocket.routed.inj same
      exact own _ Pocket.noConfusion
    · have claim : q = _ := Part.readingClaim_spent fits spent
      rw [spent] at own ⊢
      rw [claim]
      refine ⟨rfl, other _, fun h => absurd h Bool.false_ne_true.symm, fun _ => ⟨rfl, fun _ h => Pocket.noConfusion h, fun _ => rfl,
        fun _ _ h => Pocket.noConfusion h, fun y w t same => ?_⟩⟩
      obtain ⟨rfl, rfl, rfl⟩ := Pocket.spent.inj same
      exact own _ Pocket.noConfusion

/-! ## A REFER answered (R68 to R72) -/

/-- The pockets once a pending take is withdrawn: the entry that waits counts FAULT, in a CARRY pocket alone (R49). -/
theorem Part.pocketsWithdrawn_spec (p : Part) (m : Meter) (t : PendingTake) :
    let pocket (k : Nat) : Pocket := (p.pocketsWithdrawn m t).getD k .vacant
    (∀ y, y ≠ t.pocket ∨ t.kind = .refer → pocket y = p.pocket y) ∧
      (t.kind = .take → ∀ y, y ≠ m → (pocket t.pocket).entry y = (p.pocket t.pocket).entry y) ∧
      (t.kind = .take → (p.pocket t.pocket).isCarry = true →
        (pocket t.pocket).entry m =
          ((p.pocket t.pocket).entry m).map
            (fun y => if y.status = .pending ∧ y.serial = none then { y with status := .fault } else y)) := by
  intro pocket
  cases kind : t.kind with
  | refer =>
    have same : pocket = p.pocket := by
      funext y
      simp only [pocket, Part.pocketsWithdrawn, kind]
      rfl
    exact ⟨fun y _ => by rw [same], TakeKind.noConfusion, TakeKind.noConfusion⟩
  | take =>
    have claimed : pocket = (p.noTakeClaim t.pocket m .fault).pocket := by
      funext y
      simp only [pocket, Part.pocketsWithdrawn, kind]
      rfl
    rw [claimed]
    cases held : p.pocket t.pocket with
    | carry x =>
      obtain ⟨-, -, others, -, entries, own⟩ := p.noTakeClaim_spec (m := m) held .fault
      rw [held] at entries own
      exact ⟨fun y h => others y (h.resolve_right TakeKind.noConfusion), fun _ => entries, fun _ _ => own⟩
    | _ =>
      have stays : p.noTakeClaim t.pocket m .fault = p := by rw [Part.noTakeClaim_eq, held]
      rw [stays, held]
      exact ⟨fun _ _ => rfl, fun _ _ _ => rfl, fun _ h => nomatch h⟩

/-! ## The obligation -/

section
variable {p : Part} {m : Meter} {rest : List Tag}

/-- A REFER's answer without a failure leaves the part as a judgement does, and the link goes on. -/
theorem Part.goesOn_of_judgedAside {w : Part} (aside : Part.judgedAside (p.tagAnswered m rest) w) :
    let t := Part.commit p (w.beginNextTransfer m)
    t.channel m = Channel.linkEnded { p.channel m with queue := rest } ∧
      Part.keeps [.dial, .lots, .attention, .timers] p t := by
  intro t
  obtain ⟨dt, -, mc, -, -, -, lsq, -, -, -, attn, -, lct, -, -⟩ := Part.mk.inj aside
  have mc := mc.trans (p.tagAnswered_keeps m rest).1
  have linked := Part.linkEnded_mc (p := p) (q := w) (c := { p.channel m with queue := rest }) mc
  refine ⟨Part.channel_of_mc (p := p) (by simp [t, linked]), fun r hr => ?_⟩
  simp only [List.mem_cons, List.not_mem_nil, or_false] at hr
  rcases hr with rfl | rfl | rfl | rfl
  · have dial := Part.commit_dial p (w.beginNextTransfer m)
    have same : (w.beginNextTransfer m).dt = p.dt := (w.beginNextTransfer_keeps m).1.trans dt
    rwa [same] at dial
  · have same : w.lsq = p.lsq := lsq
    simp [Region.same, t, same]
  · have same : w.attn = p.attn := attn
    simp [Region.same, t, same]
  · have same : w.lct = p.lct := lct
    simp [Region.same, t, same]

end

theorem Part.pocketsWithdrawn_congr {p q : Part} (h : q.dt = p.dt) (m : Meter) (t : PendingTake) :
    q.pocketsWithdrawn m t = p.pocketsWithdrawn m t := by
  have pocket : q.pocket t.pocket = p.pocket t.pocket := by rw [Part.pocket, Part.pocket, h]
  unfold Part.pocketsWithdrawn
  rw [h, Part.noTakeClaim_eq, Part.noTakeClaim_eq, pocket]
  cases t.kind with
  | refer => rfl
  | take =>
    cases p.pocket t.pocket with
    | carry x =>
      dsimp only
      split
      · rw [Part.setPocket_dt, Part.setPocket_dt, h]
      · rw [h]
    | _ => exact congrArg Dt.pockets h

/-- A failed reference (R70): the channel in SUSPECT, the sequencer told, METER latched and the pending take
withdrawn. -/
theorem Part.referenceFailed_spec {p : Part} {m : Meter} {rest : List Tag} {e : RefEntry} {es : List RefEntry}
    {s : ReadingStatus} {d : Option Int} (refs : (p.rsc.get m).refs = e :: es)
    (verdict : verdictOf (p.rsc.get m).drift s d = .fail) :
    let w := (p.tagAnswered m rest).referenceResult m s d
    let t := Part.commit p (w.beginNextTransfer m)
    let c := p.channel m
    let r := p.rsc.get m
    t.channel m = Channel.linkEnded { c with state := .suspect, queue := rest, pendingTake := none } ∧
      t.rsc.get m = { r with refs := es, cover := r.cover.afterReserved e.kind } ∧ t.lcu = p.lcu ∧
      t.records (.check m e.pocket e.kind s .fail r.count r.count d) ∧ t.attn = (p.latch .meter).attn ∧
      t.lsq = Part.toldOf p t ∧ (∀ b ∈ Part.toldBodies p t, t.records b) ∧
      t.lct.timers = { Part.toldTimers p t m with take := t.lct.timers.take } ∧
      (c.pendingTake = none → Part.keeps [.dial] p t ∧ t.lct.timers.take = p.lct.timers.take) ∧
      ∀ x, c.pendingTake = some x →
        t.lct.timers.take =
            (if ∃ y ∈ rest, y.stage ≠ .converting then p.lct.timers.take else p.lct.timers.take.set m .stopped) ∧
          t.dt.items =
            (if x.dwell = p.dt.dwell then p.dt.items.map (Item.complete (.take m)) else p.dt.items) ∧
          t.dt.pockets = p.pocketsWithdrawn m x := by
  intro w t c r
  obtain ⟨a, ha⟩ : ∃ a, a = (p.tagAnswered m rest).setRef m { r with refs := es } := ⟨_, rfl⟩
  obtain ⟨v, hv⟩ : ∃ v, v = a.suspect m := ⟨_, rfl⟩
  obtain ⟨rsc, lcu, dt, mc, lsq, lct, attn, handed⟩ :=
    Part.referenceResult_fail_spec (p := p.tagAnswered m rest) (m := m) (s := s) (d := d) refs verdict
  obtain ⟨vmc, vlsq, vhanded, vlct, vfree, vwaits⟩ := a.suspect_spec m
  have suspect : ((p.tagAnswered m rest).setRef m { (p.tagAnswered m rest).rsc.get m with refs := es }).suspect m = v := by
    rw [hv, ha]
    rfl
  rw [suspect] at dt mc lsq lct handed
  rw [← hv] at vmc vlsq vhanded vlct vfree vwaits
  have channel : a.channel m = { c.unlinked with queue := rest } := by
    rw [ha]
    exact p.channel_tagAnswered m rest
  rw [channel] at vmc vfree vwaits
  have alsq : a.lsq = p.lsq := by simp [ha]
  have adt : a.dt = p.dt := by simp [ha]
  have alct : a.lct = p.lct := by simp [ha]
  have ajw : a.jw = p.jw := by simp [ha]
  have wmc : w.mc = { p.mc with
      channels := p.mc.channels.set m
        (Channel.unlinked { c with state := .suspect, queue := rest, pendingTake := none }) } := by
    rw [mc, vmc, ha, Part.setRef_mc, (p.tagAnswered_keeps m rest).1, Four.set_set]
    rfl
  have linked := Part.linkEnded_mc wmc
  have condition : t.meterCondition = v.meterCondition := by
    rw [Part.meterCondition_of_mc (p := w.beginNextTransfer m) (q := t) (by simp [t]),
      Part.meterCondition_beginNextTransfer]
    exact Part.meterCondition_of_mc mc
  have bodies : Part.toldBodies a v = Part.toldBodies p t := Part.toldBodies_congr alsq (by rw [adt]) condition.symm
  have told : Part.toldOf a v = Part.toldOf p t := Part.toldOf_congr alsq condition.symm
  rw [bodies] at vhanded
  have records : Part.handed p w (Part.toldBodies p t ++ [.check m e.pocket e.kind s .fail r.count r.count d]) :=
    Part.handed_trans (Part.handed_of_left ajw vhanded) handed (by simp only [Part.indexCount, w, dt])
  have kept := Part.handed_commit p (Part.handed_of_right (t := w.beginNextTransfer m) records (by simp)
    (by simp [Part.indexCount]))
  have wlct : w.lct = _ := lct.trans vlct
  have take : t.lct.timers.take = v.lct.timers.take := by simp [t, w, lct]
  have opened : Channel.acquisitionOpen { c.unlinked with queue := rest } = true ↔ ∃ y ∈ rest, y.stage ≠ .converting :=
    Channel.acquisitionOpen_iff _
  refine ⟨Part.channel_of_mc (p := p) (by simp [t, linked]), ?entry, ?lcu, Part.records_of_handed kept (by simp), ?attn, ?lsq,
    fun b hb => Part.records_of_handed kept (List.mem_append_left _ hb), ?timers, fun none => ?free, fun x waits => ?waits⟩
  case entry => simp [t, w, rsc, r]
  case lcu => simp [t, w, lcu]
  case attn =>
    simp only [t, Part.commit_blocks, Part.beginNextTransfer_keeps, w, attn]
    exact Part.latch_attn_congr (by simp) .meter
  case lsq => simp only [t, Part.commit_blocks, Part.beginNextTransfer_keeps, w, lsq, vlsq, told]
  case timers =>
    have timers : t.lct.timers = _ := Part.commit_timers_eq p (w.beginNextTransfer m)
    rw [take, timers, (w.beginNextTransfer_keeps m).2.2.2.2.2.2.2.2.2.2.2.1, wlct, Part.toldTimers, condition,
      Part.starvationOn_congr alsq (by rw [alct]), alct]
  case free =>
    obtain ⟨stays, same⟩ := vfree none
    refine ⟨fun r hr => ?_, by rw [take, same, alct]⟩
    obtain rfl := List.mem_singleton.mp hr
    have dial := Part.commit_dial p (w.beginNextTransfer m)
    rwa [(w.beginNextTransfer_keeps m).1, show w.dt = _ from dt, stays, adt] at dial
  case waits =>
    obtain ⟨work, same⟩ := vwaits x waits
    have tables : t.dt.items = v.dt.items ∧ t.dt.pockets = v.dt.pockets := by simp [t, w, dt]
    rw [take, same, tables.1, tables.2, work, alct, adt, Part.pocketsWithdrawn_congr adt]
    exact ⟨if_congr opened rfl rfl, rfl, rfl⟩

/-- The deviation of a status that a frame names. -/
theorem measured_eq {f : List Byte} {v : ReadingStatus}
    (named : (fieldAt f 4 1, v) ∈ [(0, ReadingStatus.good), (1, .over), (2, .opened)]) (x : ChannelState) :
    (if x = .online then reportCarried f v else none) =
      if x = .online ∧ v ≠ .opened then some (signedAt f 5) else none := by
  simp only [List.mem_cons, Prod.mk.injEq, List.not_mem_nil, or_false] at named
  rcases named with ⟨-, rfl⟩ | ⟨-, rfl⟩ | ⟨-, rfl⟩ <;> simp [reportCarried, reportDeviation]

theorem status_good_measured {trusted : Bool} {v : ReadingStatus} {d : Int}
    (good : (if trusted then v else ReadingStatus.fault) = .good) :
    (if trusted = true ∧ v ≠ .opened then some d else none) = some d := by
  cases trusted with
  | false => exact absurd good ReadingStatus.noConfusion
  | true =>
    obtain rfl : v = .good := good
    rfl

/-- A reference result writes the entry of its own meter alone. -/
theorem Part.referenceResult_writes {p : Part} {m : Meter} {e : RefEntry} {rest : List RefEntry} {s : ReadingStatus}
    {d : Option Int} {h : Thresholds} (refs : (p.rsc.get m).refs = e :: rest)
    (held : (p.rsc.get m).thresholds = some h) : ∃ y, (p.referenceResult m s d).rsc = p.rsc.set m y := by
  cases verdict : verdictOf (p.rsc.get m).drift s d with
  | pass =>
    obtain ⟨rsc, -⟩ := Part.referenceResult_pass_spec refs held verdict
    exact ⟨_, rsc⟩
  | none =>
    obtain ⟨rsc, -⟩ := Part.referenceResult_unjudged_spec (d := d) refs verdict
    exact ⟨_, rsc⟩
  | fail =>
    obtain ⟨rsc, -⟩ := Part.referenceResult_fail_spec (d := d) refs verdict
    exact ⟨_, rsc⟩

/-- Settles O57. -/
theorem acceptedReportsAnswerTheHeadTag : Obligations.AcceptedReportsAnswerTheHeadTag := by
  intro m f s k rest v c link working queue stage sum kind pocket serial named range trusted status deviation
  obtain ⟨intact, code⟩ := intact_of_named sum named range
  have passes : takeReport f (k :: rest) = .ok (k, v) := by
    have tag : reportTagIs f k.kind.code k.pocket k.serial = true := by
      have isKind : fieldAt f 0 1 = k.kind.code := kind
      simp [reportTagIs, isKind, pocket, serial]
    rw [takeReport_of_answer intact stage tag, code]
  have heard : c.heard v = status := by simp [Channel.heard, status, trusted]
  have measured : c.measured f v = deviation := by
    simp only [Channel.measured, deviation, trusted, decide_eq_true_eq]
    exact measured_eq named c.state
  refine ⟨_, exec_report link, ⟨rfl, rfl, rfl⟩, ?others, Part.reportAccepted_keeps working queue passes,
    fun take => ?take, fun refer e es h refs held => ?refer⟩
  case others =>
    exact Part.otherChannels_trans (Part.reportEnded_others s.part m f false) (Part.otherChannels_of_same (by simp))
  case take =>
    have form := Part.reportEnded_take working queue passes take
    rw [heard, measured] at form
    obtain ⟨w, hw⟩ : ∃ w, w = (s.part.tagAnswered m rest).readingClaim k.pocket m k.serial status deviation := ⟨_, rfl⟩
    rw [← hw] at form
    obtain ⟨dial, others, stale, fits⟩ :=
      (s.part.tagAnswered m rest).readingClaim_spec k.pocket m k.serial status deviation
    rw [← hw] at dial others stale fits
    have mc : w.mc = { s.part.mc with channels := s.part.mc.channels.set m (Channel.unlinked { c with queue := rest }) } := by
      rw [hw, (Part.readingClaim_keeps _ _ _ _ _ _).1, (s.part.tagAnswered_keeps m rest).1]
      rfl
    have linked := Part.linkEnded_mc mc
    have fitsIff := Pocket.fits_iff (s.part.pocket k.pocket) m k.serial
    have reads : (Part.commit s.part (w.beginNextTransfer m)).pocket = w.pocket := by
      rw [(Part.commit_reads _ _).1]
      rfl
    have loads : (Part.commit s.part (w.beginNextTransfer m)).lcu = w.lcu := by simp
    have own := congrFun reads k.pocket
    rw [form]
    refine ⟨Part.channel_of_mc (p := s.part) (by simp [linked]), fun r hr => ?keeps, fun x other => ?others, ?dial,
      fun unfit => ?stale, fun fit => ?fits⟩
    case keeps =>
      simp only [List.mem_cons, List.not_mem_nil, or_false] at hr
      rcases hr with rfl | rfl | rfl | rfl <;> simp [Region.same, hw]
    case others => exact (congrFun reads x).trans (others x other)
    case dial =>
      have same : (w.beginNextTransfer m).dt = w.dt := (w.beginNextTransfer_keeps m).1
      have after := Part.commit_dial s.part (w.beginNextTransfer m)
      rw [same] at after
      exact Dt.same_of_pockets after dial
    case stale =>
      obtain ⟨pocket, lcu, handed⟩ := stale (by simpa using fitsIff.not.mpr unfit)
      refine ⟨own.trans pocket, loads.trans lcu, Part.handed_commit s.part ?_⟩
      exact Part.handed_of_right (Part.handed_of_left (p := s.part) (by simp) handed) (by simp) (by simp [Part.indexCount])
    case fits =>
      obtain ⟨jw, carry, late, routed, spent⟩ := fits (fitsIff.mpr fit)
      exact ⟨by simpa using jw, fun x held => ⟨own.trans (carry x held).1, loads.trans (carry x held).2⟩,
        fun held => loads.trans (late held), fun x r held => own.trans (routed x r held),
        fun x r n held => own.trans (spent x r n held)⟩
  case refer =>
    have form := Part.reportEnded_refer working queue passes refer
    rw [heard, measured] at form
    obtain ⟨w, hw⟩ : ∃ w, w = (s.part.tagAnswered m rest).referenceResult m status deviation := ⟨_, rfl⟩
    rw [← hw] at form
    have drift : (s.part.rsc.get m).drift = h.drift := by simp only [RefMeter.drift, held]
    have good : status = .good → deviation = some (signedAt f 5) := status_good_measured
    have owner : ((s.part.tagAnswered m rest).channel m).owesReference = c.owesReference := by
      rw [Part.channel_tagAnswered]
      rfl
    have entries : (Part.commit s.part (w.beginNextTransfer m)).rsc = w.rsc := by simp
    have loads : (Part.commit s.part (w.beginNextTransfer m)).lcu = w.lcu := by simp
    have jw : (s.part.tagAnswered m rest).jw = s.part.jw := by simp
    rw [form]
    intro r set check freed judged goesOn
    refine ⟨fun x other => ?others, fun isGood within => ?pass, fun unjudged => ?unjudged, fun fails => ?fail⟩
    case others =>
      obtain ⟨y, written⟩ := Part.referenceResult_writes (p := s.part.tagAnswered m rest) (d := deviation) (s := status) refs held
      rw [← hw] at written
      refine (congrArg (fun q => Four.get q x) (entries.trans written)).trans ?_
      exact Four.get_set_ne _ _ other
    case pass =>
      have verdict : verdictOf (s.part.rsc.get m).drift status deviation = .pass := by
        rw [drift, good isGood, isGood]
        exact if_pos within
      obtain ⟨rsc, lcu, handed, aside⟩ :=
        Part.referenceResult_pass_spec (p := s.part.tagAnswered m rest) (m := m) refs held verdict
      rw [← hw, owner] at rsc lcu
      rw [← hw] at handed aside
      refine ⟨Part.goesOn_of_judgedAside aside, Part.handed_commit s.part ?_,
        (congrArg (fun q => Four.get q m) (entries.trans rsc)).trans (Four.get_set_self ..), loads.trans lcu⟩
      exact Part.handed_of_right (Part.handed_of_left jw handed) (by simp) (by simp [Part.indexCount])
    case unjudged =>
      have verdict : verdictOf (s.part.rsc.get m).drift status deviation = .none := by
        rcases unjudged with h | h <;> rw [h] <;> rfl
      obtain ⟨rsc, lcu, handed, aside⟩ :=
        Part.referenceResult_unjudged_spec (p := s.part.tagAnswered m rest) (m := m) (d := deviation) refs verdict
      rw [← hw, owner] at rsc lcu
      rw [← hw] at handed aside
      refine ⟨Part.goesOn_of_judgedAside aside, Part.handed_commit s.part ?_,
        (congrArg (fun q => Four.get q m) (entries.trans rsc)).trans (Four.get_set_self ..), loads.trans lcu⟩
      exact Part.handed_of_right (Part.handed_of_left jw handed) (by simp) (by simp [Part.indexCount])
    case fail =>
      have verdict : verdictOf (s.part.rsc.get m).drift status deviation = .fail := by
        rcases fails with h | ⟨isGood, beyond⟩
        · rw [h]
          rfl
        · rw [drift, good isGood, isGood]
          exact if_neg (Nat.not_le.mpr beyond)
      obtain ⟨channel, entry, lcu, record, attn, lsq, told, timers, free, waits⟩ :=
        Part.referenceFailed_spec (rest := rest) refs verdict
      rw [← hw] at channel entry lcu record attn lsq told timers free waits
      refine ⟨channel, entry, lcu, record, attn, lsq, told, timers, free, fun x pending => ?_⟩
      obtain ⟨take, items, pockets⟩ := waits x pending
      have reads : (Part.commit s.part (w.beginNextTransfer m)).pocket =
          fun y => (s.part.pocketsWithdrawn m x).getD y .vacant := by
        funext y
        rw [Part.pocket, pockets]
      obtain ⟨others, entries, own⟩ := s.part.pocketsWithdrawn_spec m x
      exact ⟨take, items, fun y h => (congrFun reads y).trans (others y h),
        fun h y other => (congrArg (fun k : Pocket => k.entry y) (congrFun reads x.pocket)).trans (entries h y other),
        fun h carry => (congrArg (fun k : Pocket => k.entry m) (congrFun reads x.pocket)).trans (own h carry)⟩

end Sys2Proof.Machine
end

section
/-! The expiries of the jam, feed, catch, starvation, take and age timers (R16, R27, R29, R31, R51, R168). -/

namespace Sys2Proof.Machine

/-- An expiry of a running timer. -/
theorem State.expires {s : State} {t : Timer} (f : Part → Part) (running : t ≠ .stopped) :
    s.onOccasion t.isRunning f = .next { s with part := Part.commit s.part (f s.part) } :=
  State.onOccasion_of f ((Timer.isRunning_iff t).mpr running)

/-- With PERMIT's conditions not met, the jam timer does not start. -/
theorem Part.commit_jam_stopped {p : Part} (b : Part) (conditions : p.permitConditions = false)
    (jam : p.lct.timers.jam = .stopped) : (Part.commit b p).lct.timers.jam = .stopped := by
  obtain ⟨-, -, -, falls, stays⟩ := permitFollowsItsConditions b p
  cases permit : p.dt.permit with
  | true => exact (falls conditions permit).2
  | false => exact (stays (conditions.trans permit.symm)).2.trans jam

/-- The items of a kind are none of them STARTED once they are complete. -/
theorem not_started_of_complete {k : ItemKind} {items : List Item} :
    ∀ i ∈ items.map (Item.complete k), i.kind = k → i.state ≠ .started := by
  intro i hi kind
  obtain ⟨j, -, rfl⟩ := List.mem_map.mp hi
  exact Item.complete_not_started kind

/-! ## JAM (R16) -/

theorem Part.jamExpires_stopped (p : Part) : (Part.commit p p.jamExpires).lct.timers.jam = .stopped := by
  obtain ⟨q, hq⟩ : ∃ q, q = p.setJam .stopped := ⟨_, rfl⟩
  have form : p.jamExpires = q.raiseHalt .jam := by rw [hq]; rfl
  have jam : q.lct.timers.jam = .stopped := by rw [hq]; rfl
  rw [form]
  by_cases lot : q.lsq.engine = .run ∨ q.lsq.engine = .drain ∨ q.lsq.engine = .hold
  · refine Part.commit_jam_stopped p ?_ ?_
    · simp [Part.permitConditions, Part.raiseHalt_lsq lot, EngineState.working]
    · rw [Part.raiseHalt_timers lot, jam]
  · have stays : q.raiseHalt .jam = q := by simp [Part.raiseHalt, lot]
    rw [stays]
    refine Part.commit_jam_stopped p ?_ jam
    rw [← Bool.not_eq_true, Part.permitConditions_iff]
    exact fun ⟨working, _⟩ => lot (working.imp id Or.inl)

/-- The jam timer's expiry in a lot: the halt. -/
theorem Part.jamExpires_halts {p : Part} (lot : p.lsq.engine = .run ∨ p.lsq.engine = .drain ∨ p.lsq.engine = .hold) :
    let t := Part.commit p p.jamExpires
    t.lsq = { p.lsq with engine := .halt, haltCause := .jam, portLatch := p.lsq.latchOn .halt } ∧
      Part.entered p t .halt ∧ t.attn = (p.latch .halt).attn ∧ Part.keepsBut [.lots, .journal, .attention, .timers] p t ∧
      Part.handed p t [.event (.haltEntered .jam p.lsq.engine p.dt.offset p.dt.dwell)] := by
  intro t
  obtain ⟨q, hq⟩ : ∃ q, q = p.setJam .stopped := ⟨_, rfl⟩
  have form : p.jamExpires = q.raiseHalt .jam := by rw [hq]; rfl
  have lsq : q.lsq = p.lsq := by rw [hq]; rfl
  have qlot := lsq.symm ▸ lot
  have entered := Part.entered_raiseHalt (p := p) qlot .jam lsq (by rw [hq]; rfl)
  have handed := Part.handed_raiseHalt qlot .jam
  simp only [t, form]
  refine ⟨by rw [(Part.commit_blocks _ _).2.2.2.2.2.1, Part.raiseHalt_lsq qlot, lsq], ?_, ?_,
    Part.keepsBut_commit fun r hr => ?_, ?_⟩
  · simpa [Part.entered] using entered
  · rw [(Part.commit_blocks _ _).2.2.2.2.2.2.2.1, Part.raiseHalt_attn qlot]
    exact Part.latch_attn_congr (by rw [hq]; rfl) .halt
  · cases r <;> simp [Region.same, hq, Sa.follows_refl] at hr ⊢
  · have jw : q.jw = p.jw := by rw [hq]; rfl
    have dt : q.dt = p.dt := by rw [hq]; rfl
    rw [lsq, dt] at handed
    exact Part.handed_commit p (Part.handed_of_left jw handed)

/-! ## FEED (R27) -/

/-- The feed ends by its timer for a LOAD item of the current dwell. -/
theorem Part.feedTimerExpires_current {p : Part} {k : Nat} (feeding : p.lcu.feed = .feeding k p.dt.dwell) :
    p.feedTimerExpires = (p.event (.feedTimeout k p.dt.offset)).dropFeed p.dt.dwell := by
  have dt := ((p.event (.feedTimeout k p.dt.offset)).dropFeed_blocks p.dt.dwell).2.2
  have items : ((p.event (.feedTimeout k p.dt.offset)).dropFeed p.dt.dwell).dt.items =
      p.dt.items.map (Item.complete .load) := by
    rw [dt]
    simp
  have none : ((p.event (.feedTimeout k p.dt.offset)).dropFeed p.dt.dwell).waitingLoad = none := by
    rw [Part.waitingLoad, items, find_load_complete]
  have idle := congrArg Lcu.feed ((p.event (.feedTimeout k p.dt.offset)).dropFeed_blocks p.dt.dwell).1
  simp only [Part.feedTimerExpires, feeding, Part.endFeed]
  rw [Part.proceedLoad_of_idle idle, none]

/-- The feed ends by its timer for a LOAD item of an earlier dwell, and one that waited proceeds. -/
theorem Part.feedTimerExpires_earlier {p : Part} {k dwell : Nat} (feeding : p.lcu.feed = .feeding k dwell)
    (other : dwell ≠ p.dt.dwell) :
    let e := p.event (.feedTimeout k p.dt.offset)
    let r : Part :=
      { e with
        lcu := { e.lcu with feed := .idle }
        lct := { e.lct with timers := { e.lct.timers with feed := .stopped } } }
    p.feedTimerExpires =
      (match r.waitingLoad with
       | none => r
       | some j => r.startItem { kind := .load, pocket := j, state := .started }) := by
  intro e r
  have past : dwell ≠ e.dt.dwell := by simpa [e] using other
  have dropped : e.dropFeed dwell = r := if_neg past
  have form : p.feedTimerExpires = r.proceedLoad := by
    simp only [Part.feedTimerExpires, feeding, Part.endFeed]
    exact congrArg Part.proceedLoad dropped
  rw [form]
  exact Part.proceedLoad_of_idle rfl

/-! ## TAKE (R51) -/

theorem Part.takeTimerExpires_spec (p : Part) (m : Meter) :
    let c := p.channel m
    let t := Part.commit p (p.takeTimerExpires m)
    (c.state = .online ∨ c.state = .suspect → Part.channelFailed p t m c .timeout) ∧
      (∀ w, c.state = .setup → c.setup = some w → Part.setupFailed p t m c w .timeout) ∧
      (c.state = .offline ∨ c.state = .unused →
        t.lct.timers.take = p.lct.timers.take.set m .stopped ∧ Part.keepsBut [.timers] p t) := by
  intro c t
  obtain ⟨q, hq⟩ : ∃ q, q = p.setTakeTimer m .stopped := ⟨_, rfl⟩
  have form : p.takeTimerExpires m = q.faultByState m .timeout := by rw [hq]; rfl
  have channel : q.channel m = c := by rw [hq]; rfl
  have queue : q.dt = p.dt := by rw [hq]; rfl
  simp only [t, form]
  refine ⟨fun working => ?_, fun w state setup => ?_, fun idle => ?_⟩
  · rw [Part.faultByState_working (by rwa [channel]), Part.failChannel_eq, channel, queue]
    refine Part.channelFailed_commit (e := (q.setChannel m c.failed).setTakeTimer m .stopped) ?_ rfl
    simp [Part.stoppedAt, hq, Part.setTakeTimer, Part.setTimers]
  · rw [Part.faultByState_setup (by rwa [channel])]
    refine Part.setupFailed_commit (e := (q.setTakeTimer m .stopped).setChannel m c.setupEnded) ChannelCause.noConfusion
      ?_ (by rw [Part.endSetup_fails (by rwa [channel]) ChannelCause.noConfusion, channel])
    simp [Part.stoppedAt, hq, Part.setTakeTimer, Part.setTimers]
  · rw [Part.faultByState_other (by rwa [channel])]
    refine ⟨by simp [hq, Part.setTakeTimer, Part.setTimers], Part.keepsBut_commit fun r hr => ?_⟩
    cases r <;> simp [Region.same, hq, Sa.follows_refl] at hr ⊢

/-! ## CATCH (R30, R31) -/

/-- The CLEAR item of a dwell completes where its pulse has ended and no record of it waits. -/
theorem Part.tryCompleteClear_dt (p : Part) (d : Nat) :
    (p.tryCompleteClear d).dt =
      { p.dt with
        items :=
          if p.lcu.clearJet ≠ .pulsing d true ∧ p.jw.waiting.any (fun h => h.clearDwell == some d) = false ∧ d = p.dt.dwell
          then p.dt.items.map (Item.complete .clear) else p.dt.items } := by
  have pulses : (match p.lcu.clearJet with | .idle => false | .pulsing x reports => reports && (x == d)) = true ↔
      p.lcu.clearJet = .pulsing d true := by
    cases p.lcu.clearJet with
    | idle => simp
    | pulsing x reports => simp [and_comm]
  by_cases waits : p.lcu.clearJet = .pulsing d true ∨ p.jw.waiting.any (fun h => h.clearDwell == some d) = true
  · have stays : p.tryCompleteClear d = p := if_pos ((Bool.or_eq_true _ _).mpr (waits.imp pulses.mpr id))
    rw [stays, if_neg]
    rintro ⟨free, none, -⟩
    rcases waits with h | h
    · exact free h
    · exact Bool.false_ne_true (none.symm.trans h)
  · have completes : p.tryCompleteClear d = p.completeItem .clear d :=
      if_neg fun h => waits (((Bool.or_eq_true _ _).mp h).imp pulses.mp id)
    obtain ⟨free, none⟩ := not_or.mp waits
    rw [completes]
    unfold Part.completeItem
    by_cases current : d = p.dt.dwell
    · rw [if_pos current, if_pos ⟨free, (Bool.not_eq_true _).mp none, current⟩]
    · rw [if_neg current, if_neg fun h => current h.2.2]

/-- The end of a catch pulse: only the jet and the items of the dwell change. -/
theorem Part.endCatch_spec (p : Part) :
    p.endCatch.lcu = { p.lcu with clearJet := .idle } ∧
      p.endCatch.dt =
        { p.dt with
          items :=
            if p.lcu.clearJet = .pulsing p.dt.dwell true ∧
              p.jw.waiting.any (fun h => h.clearDwell == some p.dt.dwell) = false
            then p.dt.items.map (Item.complete .clear) else p.dt.items } := by
  cases jet : p.lcu.clearJet with
  | idle =>
    have stays : p.endCatch = p := by simp only [Part.endCatch, jet]
    rw [stays, ← jet, if_neg fun h => CatchPulse.noConfusion (jet.symm.trans h.1)]
    exact ⟨rfl, rfl⟩
  | pulsing d reports =>
    cases reports with
    | false =>
      have ends : p.endCatch = { p with lcu := { p.lcu with clearJet := .idle } } := by
        simp only [Part.endCatch, jet, Bool.false_eq_true, if_false]
      rw [ends, if_neg (by simp)]
      exact ⟨rfl, rfl⟩
    | true =>
      have ends : p.endCatch = ({ p with lcu := { p.lcu with clearJet := .idle } } : Part).tryCompleteClear d := by
        simp only [Part.endCatch, jet, if_true]
      rw [ends]
      refine ⟨by simp, ?_⟩
      rw [Part.tryCompleteClear_dt]
      by_cases current : d = p.dt.dwell
      · subst current
        simp
      · rw [if_neg fun h => current h.2.2, if_neg fun h => current (by simpa using h.1)]

end Sys2Proof.Machine
end

section
/-! Gates (R116 to R118): the end of a pulse, the firing, and the reroute. -/

namespace Sys2Proof.Machine

/-! ## The end of a pulse (R117) -/

theorem BinEntry.countFired_eq (b : BinEntry) (tube : Nat) :
    b.countFired tube =
      let fired := if b.tubeNumber = tube then b.fired + 1 else b.fired
      { b with
        fired, full := if b.tubeNumber = tube ∧ b.capacity ≤ fired ∧ b.full = .clear then .count else b.full } := by
  unfold BinEntry.countFired
  by_cases same : b.tubeNumber = tube <;> simp [same]

/-- The bin with the pending count that a fired pocket gives up. -/
def Part.binGivenUp (p : Part) (n k : Nat) : BinEntry :=
  { p.bin n with pending := if (p.pocket k).routedTo n then (p.bin n).pending - 1 else (p.bin n).pending }

/-- The pulse of gate `n` has ended and the pocket's claim on the bin is given up. -/
def Part.pulseOver (p : Part) (n k : Nat) : Part :=
  let e := p.setPulse n .idle
  if (p.pocket k).routedTo n then e.releasePending n else e

theorem Part.pulseOver_spec {p : Part} {n : Nat} (k : Nat) (inside : n < p.gbt.bins.length) :
    (p.pulseOver n k).gbt =
        { p.gbt with pulses := p.gbt.pulses.set n .idle, bins := p.gbt.bins.set n (p.binGivenUp n k) } ∧
      { p.pulseOver n k with gbt := p.gbt, changed := p.changed } = p := by
  unfold Part.pulseOver Part.binGivenUp
  dsimp only
  cases routed : (p.pocket k).routedTo n with
  | true => exact ⟨rfl, rfl⟩
  | false =>
    have same : p.gbt.bins.set n (p.bin n) = p.gbt.bins := congrArg (fun q => q.gbt.bins) (Part.setBin_bin inside)
    exact ⟨congrArg (fun x => { p.gbt with pulses := p.gbt.pulses.set n .idle, bins := x }) same.symm, rfl⟩

theorem Part.pulseOver_bin {p : Part} {n : Nat} (k : Nat) (inside : n < p.gbt.bins.length) :
    (p.pulseOver n k).bin n = p.binGivenUp n k := by
  rw [Part.bin, (Part.pulseOver_spec k inside).1]
  exact getD_set.trans (if_pos ⟨rfl, inside⟩)

theorem Part.pulseOver_pocket {p : Part} {n : Nat} (k : Nat) (x : Nat) : (p.pulseOver n k).pocket x = p.pocket x := by
  unfold Part.pulseOver
  dsimp only
  split <;> rfl

theorem Part.endPulse_of_pulsing {p : Part} {n k tube dwell : Nat} {reports : Bool}
    (pulse : p.pulse n = .pulsing k tube dwell reports) :
    p.endPulse n =
      let v := (p.pulseOver n k).setPocket k ((p.pocket k).fire n tube)
      let q := v.setBin n ((v.bin n).countFired tube)
      if reports then q.completeItem (.fire n) dwell else q := by
  simp only [Part.endPulse, pulse]
  rfl

theorem Pocket.fire_other {x : Pocket} (h : ∀ y r, x ≠ .routed y r) (n tube : Nat) : x.fire n tube = x := by
  cases x with
  | routed y r => exact absurd rfl (h y r)
  | _ => rfl

/-- A pocket written back as it is stays as it is. -/
theorem Part.pocket_setPocket_self {p : Part} {k : Nat} {x : Pocket} (h : x = p.pocket k) :
    (p.setPocket k x).pocket k = p.pocket k := by
  rw [Part.pocket_setPocket]
  split
  · exact h
  · rfl

/-- The end of a pulse (R117). -/
theorem Part.endPulse_spec {p : Part} {n k tube dwell : Nat} {reports : Bool} (inside : n < p.gbt.bins.length)
    (pulse : p.pulse n = .pulsing k tube dwell reports) : Part.pulseEnded p (p.endPulse n) n k tube dwell reports := by
  obtain ⟨e, he⟩ : ∃ e, e = p.pulseOver n k := ⟨_, rfl⟩
  obtain ⟨gbt, rest⟩ := Part.pulseOver_spec k inside
  have bin := Part.pulseOver_bin k inside
  have pockets := Part.pulseOver_pocket (p := p) (n := n) k
  rw [← he] at gbt rest bin pockets
  obtain ⟨v, hv⟩ : ∃ v, v = e.setPocket k ((p.pocket k).fire n tube) := ⟨_, rfl⟩
  obtain ⟨w, hw⟩ : ∃ w, w = v.setBin n ((p.binGivenUp n k).countFired tube) := ⟨_, rfl⟩
  have form : p.endPulse n = if reports then w.completeItem (.fire n) dwell else w := by
    have same : v.bin n = p.binGivenUp n k := by rw [hv]; exact bin
    rw [Part.endPulse_of_pulsing pulse, ← he, ← hv]
    dsimp only
    rw [same, ← hw]
  obtain ⟨edt, elcu, emc, ersc, eps, -, elsq, erqx, ejw, esa, eattn, ecfg, elct, -, edraws⟩ := Part.mk.inj rest
  have wdt : w.dt = { p.dt with pockets := p.dt.pockets.set k ((p.pocket k).fire n tube) } := by
    rw [hw, hv, Part.setBin_dt, Part.setPocket_dt, edt]
  have wgbt : w.gbt =
      { p.gbt with
        pulses := p.gbt.pulses.set n .idle
        bins := p.gbt.bins.set n ((p.binGivenUp n k).countFired tube) } := by
    rw [hw, hv, Part.setBin_gbt, Part.setPocket_gbt, gbt, List.set_set]
  have table : ∀ q : Part, q.dt.pockets = w.dt.pockets → ∀ x, q.pocket x = w.pocket x := by
    intro q same x
    rw [Part.pocket, Part.pocket, same]
  have wpocket : ∀ x, w.pocket x = (e.setPocket k ((p.pocket k).fire n tube)).pocket x := by
    intro x
    rw [hw, hv]
    rfl
  obtain ⟨t, ht⟩ : ∃ t, t = p.endPulse n := ⟨_, rfl⟩
  have tdt : t.dt =
      { w.dt with
        items := if reports = true ∧ dwell = p.dt.dwell then p.dt.items.map (Item.complete (.fire n)) else p.dt.items } := by
    have dwells : w.dt.dwell = p.dt.dwell := by rw [wdt]
    have items : w.dt.items = p.dt.items := by rw [wdt]
    rw [ht, form]
    cases reports with
    | false => rw [if_neg Bool.false_ne_true, if_neg fun h => Bool.false_ne_true h.1, ← items]
    | true =>
      rw [if_pos rfl, Part.completeItem_eq, dwells, items]
      simp
  have tgbt : t.gbt = w.gbt := by
    rw [ht, form]
    split <;> simp
  have reads : ∀ x, t.pocket x = (e.setPocket k ((p.pocket k).fire n tube)).pocket x := by
    intro x
    rw [← wpocket]
    exact table t (by rw [tdt]) x
  rw [← ht]
  refine ⟨?_, fun x other => ?_, fun x r routed => ?_, fun other => ?_, ?_, ?_, ?_⟩
  · rw [tgbt, wgbt, BinEntry.countFired_eq]
    rfl
  · rw [reads, Part.pocket_setPocket, if_neg fun h => other h.1, pockets]
  · have held : e.pocket k ≠ .vacant := by rw [pockets, routed]; exact Pocket.noConfusion
    rw [reads, Part.pocket_setPocket, if_pos ⟨rfl, Part.pocket_lt held⟩, routed]
    rfl
  · rw [reads, Pocket.fire_other other, Part.pocket_setPocket_self (pockets k).symm, pockets]
  · rw [tdt, wdt]
  · rw [tdt]
  · simp [ht]

/-! ## The reroute (R118) -/

theorem rerouteCandidates_eq (plan : Option Plan) (row : Option Nat) (n : Nat) :
    rerouteCandidates plan row n =
      match plan, row with
      | some pl, some i =>
        (((pl.rows[i]?).map PlanRow.alternates).getD [] ++ pl.overflow.toList).filter (fun b => n < b)
      | _, _ => [] := by
  cases plan with
  | none => rfl
  | some pl =>
    cases row with
    | none => rfl
    | some i =>
      simp only [rerouteCandidates, optionList_eq]
      cases pl.rows[i]? <;> rfl

/-- A reroute, with items that `q` holds in place of the part's. -/
theorem Part.rerouted_reroute (p : Part) (n k : Nat) (items : List Item) :
    Part.rerouted p { p.reroute n k with dt := { (p.reroute n k).dt with items } } n k items := by
  intro x r routed candidates claim route
  have same : rerouteCandidates (p.planOf x.slot) r.row n = candidates := rerouteCandidates_eq _ _ _
  have form : p.reroute n k = claim.1.setPocket k (.routed x { r with route, reason := .rerouted }) := by
    simp only [Part.reroute, routed, same]
    rfl
  have dt : claim.1.dt = p.dt := by simp [claim]
  rw [form, Part.setPocket, dt]

/-! ## FIRE items (R116) -/

theorem BinEntry.availability_opened_iff (b : BinEntry) :
    b.availability = .opened ↔ b.tube = true ∧ b.closed = .none ∧ b.full = .clear := by
  unfold BinEntry.availability
  cases b.tube <;> cases b.closed <;> cases b.full <;> decide

section
variable {p : Part} {n k : Nat}

theorem Part.startFireItem_other (h : (p.pocket k).routedTo n = false) :
    p.startFireItem n k = { p with dt := { p.dt with items := p.dt.items.map (Item.complete (.fire n)) } } := by
  rw [Part.startFireItem, h, if_neg Bool.false_ne_true, Part.completeItem_current]

theorem Part.startFireItem_open (h : (p.pocket k).routedTo n = true) (opened : (p.bin n).availability = .opened) :
    p.startFireItem n k = p.fireGate n k := by
  rw [Part.startFireItem, if_pos h, if_pos opened]

theorem Part.startFireItem_shut (h : (p.pocket k).routedTo n = true) (shut : ¬ (p.bin n).availability = .opened) :
    p.startFireItem n k =
      { p.reroute n k with
        dt := { (p.reroute n k).dt with items := p.dt.items.map (Item.complete (.fire n)) } } := by
  rw [Part.startFireItem, if_pos h, if_neg shut, Part.completeItem_eq, Part.reroute_items]
  simp

/-- A gate fires: an earlier pulse of it ends, and the pulse record takes the pocket. -/
theorem Part.fireGate_spec (p : Part) (n k : Nat) :
    let r := p.endPulse n
    { p.fireGate n k with lct := p.lct } =
        { r with
          gbt := { r.gbt with pulses := r.gbt.pulses.set n (.pulsing k (p.bin n).tubeNumber p.dt.dwell true) } } ∧
      ∀ i, p.gbt.items = some i →
        (p.fireGate n k).lct =
          { p.lct with
            timers :=
              { p.lct.timers with
                pulse := p.lct.timers.pulse.set n (.running i.ejectPulse (IntervalCode.units i.ejectPulse)) } } := by
  intro r
  obtain ⟨z, hz⟩ : ∃ z, z = r.setPulse n (.pulsing k (p.bin n).tubeNumber p.dt.dwell true) := ⟨_, rfl⟩
  have lct : z.lct = p.lct := by simp [hz, r]
  have same : ({ z with lct := p.lct } : Part) = z := by rw [← lct]
  cases items : p.gbt.items with
  | none =>
    have form : p.fireGate n k = z := by simp only [Part.fireGate, items, hz, r]
    rw [form, same, hz]
    exact ⟨rfl, fun i h => nomatch h⟩
  | some i =>
    have form : p.fireGate n k = z.setPulseTimer n (Timer.start i.ejectPulse) := by
      simp only [Part.fireGate, items, hz, r]
    rw [form]
    refine ⟨same.trans (by rw [hz]; rfl), fun j h => ?_⟩
    obtain rfl := Option.some.inj h
    rw [Part.setPulseTimer, Part.setTimers, lct]
    rfl

end

/-- A FIRE item, started or skipped. -/
theorem Part.fireItem_spec (p : Part) (n k : Nat) (st : ItemState) (inside : n < p.gbt.bins.length) :
    let q := p.startItem { kind := .fire n, pocket := k, state := st }
    let b := p.bin n
    let r := p.endPulse n
    let opened : Prop := b.tube = true ∧ b.closed = .none ∧ b.full = .clear
    let done := p.dt.items.map (Item.complete (.fire n))
    (p.pulse n = .idle → r = p) ∧
    (∀ x tube d reports, p.pulse n = .pulsing x tube d reports → Part.pulseEnded p r n x tube d reports) ∧
    ((p.pocket k).routedTo n = false → q = { p with dt := { p.dt with items := done } }) ∧
    ((p.pocket k).routedTo n = true → opened →
      { q with lct := p.lct } =
          { r with
            gbt := { r.gbt with pulses := r.gbt.pulses.set n (.pulsing k b.tubeNumber p.dt.dwell true) } } ∧
        ∀ i, p.gbt.items = some i →
          q.lct =
            { p.lct with
              timers :=
                { p.lct.timers with
                  pulse := p.lct.timers.pulse.set n (.running i.ejectPulse (IntervalCode.units i.ejectPulse)) } }) ∧
    ((p.pocket k).routedTo n = true → ¬ opened → Part.rerouted p q n k done) ∧
    ∀ dwell, let y := Part.skipItem dwell p { kind := .fire n, pocket := k, state := st }
      ((p.pocket k).routedTo n = true → Part.rerouted p y n k p.dt.items) ∧
        ((p.pocket k).routedTo n = false → y = p) := by
  intro q b r opened done
  have started : q = p.startFireItem n k := rfl
  have isOpen : b.availability = .opened ↔ opened := b.availability_opened_iff
  refine ⟨fun idle => ?_, fun x tube d reports pulse => Part.endPulse_spec inside pulse, fun other => ?_,
    fun routed free => ?_, fun routed shut => ?_, fun dwell => ?_⟩
  · simp only [r, Part.endPulse, idle]
  · rw [started, Part.startFireItem_other other]
  · rw [started, Part.startFireItem_open routed (isOpen.mpr free)]
    exact p.fireGate_spec n k
  · rw [started, Part.startFireItem_shut routed (isOpen.not.mpr shut)]
    exact p.rerouted_reroute n k done
  · intro y
    have skipped : y = p.skipFireItem n k := rfl
    rw [skipped, Part.skipFireItem]
    refine ⟨fun routed => ?_, fun other => ?_⟩
    · have rerouted := p.rerouted_reroute n k p.dt.items
      have same : ({ p.reroute n k with dt := { (p.reroute n k).dt with items := p.dt.items } } : Part) = p.reroute n k := by
        rw [← p.reroute_items n k]
      rwa [if_pos routed, ← same]
    · rw [other, if_neg Bool.false_ne_true]

end Sys2Proof.Machine
end

section
/-! The CLEAR item (R30 to R35, R122 to R124). -/

namespace Sys2Proof.Machine

/-! ## A pocket settled, started or skipped -/

/-- The pocket settled by its phase: at a CLEAR item that starts (`sampled`) or that is skipped. -/
def Part.settling (p : Part) (k : Nat) (present sampled : Bool) (d : Option Nat) : Part :=
  match p.pocket k with
  | .spent x r tube =>
    if present then (p.settlePart k x r .missed d).missedClaim r.route.gateNumber tube
    else if sampled then (p.settlePart k x r .ejected d).ejectedClaim r.route.gateNumber
    else p.settlePart k x r .ejected d
  | .routed x r => (p.releaseRoute r.route).settlePart k x r (if present then .caught else .lost) d
  | .stray => (p.handOffFor (.event (.strayCleared k present p.dt.offset)) d).setPocket k .vacant
  | .vacant =>
    if present then
      (p.handOffFor (.event (.strayAtClear k false p.dt.offset)) d).countLot (fun c => { c with stray := countUp c.stray })
    else p
  | .reserved set =>
    let q :=
      if present then
        (p.handOffFor (.event (.strayAtClear k true p.dt.offset)) d).countLot (fun c => { c with stray := countUp c.stray })
      else p
    (q.rejoinPending set).setPocket k .vacant
  | .carry x => p.settleCarried k x present d

theorem Part.settleClear_eq (p : Part) (k : Nat) (present : Bool) :
    p.settleClear k present = p.settling k present true (some p.dt.dwell) := by
  unfold Part.settleClear Part.settling
  cases p.pocket k <;> rfl

theorem Part.skipClearItem_eq (p : Part) (k : Nat) : p.skipClearItem k = p.settling k false false none := by
  unfold Part.skipClearItem Part.settling
  cases p.pocket k <;> rfl

/-! ## A part settled (R32, R34, R35) -/

/-- What every settling leaves: the pocket VACANT, and nothing outside the blocks named. -/
def Part.clearedAt (p q : Part) (k : Nat) : Prop :=
  q.dt = { p.dt with pockets := p.dt.pockets.set k .vacant } ∧
    { q.lcu with counters := p.lcu.counters, pendingSet := p.lcu.pendingSet } = p.lcu ∧
    { q with dt := p.dt, lcu := p.lcu, rsc := p.rsc, ps := p.ps, gbt := p.gbt, jw := p.jw, attn := p.attn,
             changed := p.changed, draws := p.draws } = p

theorem Part.settlePart_spec (p : Part) (k : Nat) (x : PartRecord) (r : Routing) (d : Disposition) (cd : Option Nat) :
    let q := p.settlePart k x r d cd
    q.dt = { p.dt with pockets := p.dt.pockets.set k .vacant } ∧
      q.lcu = { p.lcu with counters := p.lcu.counters.settle d } ∧
      q.ps = p.ps.setSlot x.slot { p.ps.slot x.slot with refs := (p.ps.slot x.slot).refs - 1 } ∧
      Part.handed p q [.outcome k x (p.ps.idOf (some x.slot)) r d] := by
  intro q
  have dt : q.dt = { p.dt with pockets := p.dt.pockets.set k .vacant } := by
    simp [q, Part.settlePart, Part.releaseSlot, Part.changeRefs, Part.countDisposition]
  refine ⟨dt, ?_, ?_, ?_⟩
  · simp only [q, Part.settlePart, Part.releaseSlot, Part.changeRefs, Part.countDisposition, Part.setPocket_lcu,
      Part.countLot_lcu, Part.handOffFor_keeps]
    cases d <;> rfl
  · simp [q, Part.settlePart, Part.releaseSlot, Part.changeRefs, Part.countDisposition]
  · exact Part.handed_of_right (p.handed_handOffFor _ cd) rfl (by simp [Part.indexCount, dt])

theorem Part.clearedAt_of {p q : Part} {k : Nat} (dt : q.dt = { p.dt with pockets := p.dt.pockets.set k .vacant })
    (lcu : { q.lcu with counters := p.lcu.counters, pendingSet := p.lcu.pendingSet } = p.lcu)
    (others : q.mc = p.mc ∧ q.lsq = p.lsq ∧ q.rqx = p.rqx ∧ q.sa = p.sa ∧ q.cfg = p.cfg ∧ q.lct = p.lct) :
    Part.clearedAt p q k := by
  obtain ⟨mc, lsq, rqx, sa, cfg, lct⟩ := others
  exact ⟨dt, lcu, by rw [mc, lsq, rqx, sa, cfg, lct]⟩

theorem Part.pocket_of_clearedAt {p q : Part} {k : Nat} (h : Part.clearedAt p q k) :
    q.pocket k = .vacant ∧ ∀ x, x ≠ k → q.pocket x = p.pocket x := by
  obtain ⟨dt, -⟩ := h
  have reads : ∀ x, q.pocket x = (p.setPocket k .vacant).pocket x := by
    intro x
    rw [Part.pocket, dt]
    rfl
  refine ⟨?_, fun x other => ?_⟩
  · rw [reads, Part.pocket_setPocket]
    split
    · rfl
    · next out =>
      by_contra held
      exact out ⟨rfl, Part.pocket_lt held⟩
  · rw [reads, Part.pocket_setPocket, if_neg fun h => other h.1]

/-! ## A miss (R123, R124) -/

theorem BinEntry.correctMiss_eq (b : BinEntry) (tube : Nat) :
    b.correctMiss tube =
      let fired := if b.tubeNumber = tube then b.fired - 1 else b.fired
      { b with
        fired, full := if b.tubeNumber = tube ∧ b.full = .count ∧ fired < b.capacity then .clear else b.full } := by
  unfold BinEntry.correctMiss
  by_cases same : b.tubeNumber = tube <;> simp [same]

/-- A MISSED claim: the counts corrected, and the bin closed where the limit is reached. -/
theorem Part.missedClaim_spec (p : Part) (n tube : Nat) :
    let q := p.missedClaim n tube
    let b := p.bin n
    let fired := if b.tubeNumber = tube then b.fired - 1 else b.fired
    let limit := (p.gbt.items.map GbtItems.missLimit).getD 0
    let reached : Bool := decide (b.misses + 1 = limit)
    let closed : ClosedReason := if reached = true ∧ b.closed = .none then .miss else b.closed
    q.attn = (if reached then (p.latch .bin).attn else p.attn) ∧
      q.gbt =
        { p.gbt with
          bins :=
            p.gbt.bins.set n
              { b with
                fired
                full := if b.tubeNumber = tube ∧ b.full = .count ∧ fired < b.capacity then .clear else b.full
                misses := if b.misses < limit then b.misses + 1 else b.misses
                closed } } ∧
      Part.handed p q
        (if reached then [.event (.binClosedByMisses n b.tubeNumber limit closed p.dt.offset)] else []) := by
  intro q b fired limit reached closed
  obtain ⟨written, hw⟩ : ∃ written : Nat → ClosedReason → BinEntry, written = fun misses closed =>
      { b with
        fired, full := if b.tubeNumber = tube ∧ b.full = .count ∧ fired < b.capacity then .clear else b.full
        misses, closed } := ⟨_, rfl⟩
  have isLimit : p.missLimit = limit := by
    unfold Part.missLimit
    simp only [limit]
    cases p.gbt.items <;> rfl
  have form : q =
      if b.misses < limit then
        if b.misses + 1 = limit then
          ((p.setBin n (written (b.misses + 1) (if b.closed = .none then .miss else b.closed))).latch .bin).event
            (.binClosedByMisses n b.tubeNumber limit (if b.closed = .none then .miss else b.closed) p.dt.offset)
        else p.setBin n (written (b.misses + 1) b.closed)
      else p.setBin n (written b.misses b.closed) := by
    simp only [q, Part.missedClaim, BinEntry.correctMiss_eq, isLimit, hw]
    rfl
  by_cases reaches : b.misses + 1 = limit
  · have below : b.misses < limit := by omega
    have isReached : reached = true := by simpa [reached] using reaches
    have closes : closed = if b.closed = .none then .miss else b.closed :=
      if_congr (and_iff_right isReached) rfl rfl
    rw [if_pos below, if_pos reaches, ← closes] at form
    rw [if_pos isReached, if_pos isReached, if_pos below, form]
    refine ⟨?_, by simp [hw], Part.handed_of_left (by simp) (Part.handed_event _ _)⟩
    rw [(Part.event_keeps _ _).2.2.2.2.2.2.2.2.2.1]
    exact Part.latch_attn_congr (by simp) .bin
  · have notReached : ¬ reached = true := by simpa [reached] using reaches
    have stays : closed = b.closed := if_neg fun h => notReached h.1
    have single : q = p.setBin n (written (if b.misses < limit then b.misses + 1 else b.misses) b.closed) := by
      rw [form, if_neg reaches]
      split <;> rfl
    rw [if_neg notReached, if_neg notReached, single, stays]
    exact ⟨by simp, by simp [hw], Part.handed_same (by simp)⟩

/-! ## The pocket settled, phase by phase -/

section
variable {p : Part} {k : Nat} {present sampled : Bool} {d : Option Nat}

theorem Part.settling_spent {x : PartRecord} {r : Routing} {tube : Nat} (h : p.pocket k = .spent x r tube) :
    p.settling k present sampled d =
      if present then (p.settlePart k x r .missed d).missedClaim r.route.gateNumber tube
      else if sampled then (p.settlePart k x r .ejected d).ejectedClaim r.route.gateNumber
      else p.settlePart k x r .ejected d := by
  simp only [Part.settling, h]

theorem Part.settling_routed {x : PartRecord} {r : Routing} (h : p.pocket k = .routed x r) :
    p.settling k present sampled d =
      (p.releaseRoute r.route).settlePart k x r (if present then .caught else .lost) d := by
  simp only [Part.settling, h]

theorem Part.settling_carry {x : PartRecord} (h : p.pocket k = .carry x) :
    p.settling k present sampled d = p.settleCarried k x present d := by
  simp only [Part.settling, h]

theorem Part.settling_stray (h : p.pocket k = .stray) :
    p.settling k present sampled d =
      (p.handOffFor (.event (.strayCleared k present p.dt.offset)) d).setPocket k .vacant := by
  simp only [Part.settling, h]

/-- What the eye shows in a pocket that should hold no part is counted as a stray. -/
def Part.strayFound (p : Part) (k : Nat) (present reserved : Bool) (d : Option Nat) : Part :=
  if present then
    (p.handOffFor (.event (.strayAtClear k reserved p.dt.offset)) d).countLot
      (fun c => { c with stray := countUp c.stray })
  else p

theorem Part.strayFound_spec (p : Part) (k : Nat) (present reserved : Bool) (d : Option Nat) :
    let q := p.strayFound k present reserved d
    { q with lcu := p.lcu, jw := p.jw } = p ∧
      q.lcu =
        { p.lcu with
          counters :=
            { p.lcu.counters with
              stray := if present then countUp p.lcu.counters.stray else p.lcu.counters.stray } } ∧
      Part.handed p q (if present then [.event (.strayAtClear k reserved p.dt.offset)] else []) := by
  intro q
  cases present with
  | false => exact ⟨rfl, rfl, p.handed_refl⟩
  | true =>
    have form : q = (p.handOffFor (.event (.strayAtClear k reserved p.dt.offset)) d).countLot
        (fun c => { c with stray := countUp c.stray }) := rfl
    rw [form]
    refine ⟨by simp, by simp, Part.handed_of_right (p.handed_handOffFor _ d) rfl rfl⟩

theorem Part.settling_vacant (h : p.pocket k = .vacant) :
    p.settling k present sampled d = p.strayFound k present false d := by
  simp only [Part.settling, h, Part.strayFound]

theorem Part.settling_reserved {set : MeterSet} (h : p.pocket k = .reserved set) :
    p.settling k present sampled d = ((p.strayFound k present true d).rejoinPending set).setPocket k .vacant := by
  simp only [Part.settling, h, Part.strayFound]

/-- A VACANT pocket written VACANT stays. -/
theorem Part.pockets_set_vacant (h : p.pocket k = .vacant) : p.dt.pockets.set k .vacant = p.dt.pockets := by
  by_cases inside : k < p.dt.pockets.length
  · have held : p.dt.pockets[k] = .vacant := by simpa [Part.pocket, List.getElem?_eq_getElem inside] using h
    rw [← held, List.set_getElem_self]
  · exact List.set_eq_of_length_le (Nat.not_lt.mp inside)

theorem Part.clearedAt_settling : Part.clearedAt p (p.settling k present sampled d) k := by
  cases phase : p.pocket k with
  | spent x r tube =>
    rw [Part.settling_spent phase]
    obtain ⟨missed, missedLcu, -⟩ := p.settlePart_spec k x r .missed d
    obtain ⟨ejected, ejectedLcu, -⟩ := p.settlePart_spec k x r .ejected d
    split
    · exact Part.clearedAt_of (by simp [missed]) (by simp [missedLcu]) (by simp)
    · split
      · exact Part.clearedAt_of (by simp [Part.ejectedClaim, ejected]) (by simp [Part.ejectedClaim, ejectedLcu])
          (by simp [Part.ejectedClaim])
      · exact Part.clearedAt_of ejected (by rw [ejectedLcu]) (by simp)
  | routed x r =>
    rw [Part.settling_routed phase]
    obtain ⟨dt, lcu, -⟩ := (p.releaseRoute r.route).settlePart_spec k x r (if present then .caught else .lost) d
    exact Part.clearedAt_of (by simp [dt]) (by simp [lcu]) (by simp)
  | carry x =>
    rw [Part.settling_carry phase]
    obtain ⟨dt, lcu, -⟩ := p.settlePart_spec k x p.carryRouting (if present then .caught else .lost) d
    exact Part.clearedAt_of dt (by rw [Part.settleCarried, lcu]) (by simp [Part.settleCarried])
  | stray =>
    rw [Part.settling_stray phase]
    exact Part.clearedAt_of (by simp) (by simp) (by simp)
  | vacant =>
    rw [Part.settling_vacant phase]
    obtain ⟨aside, lcu, -⟩ := p.strayFound_spec k present false d
    obtain ⟨dt, -, mc, -, -, -, lsq, rqx, -, sa, -, cfg, lct, -, -⟩ := Part.mk.inj aside
    exact Part.clearedAt_of (by rw [Part.pockets_set_vacant phase]; exact dt) (by rw [lcu]) ⟨mc, lsq, rqx, sa, cfg, lct⟩
  | reserved set =>
    rw [Part.settling_reserved phase]
    obtain ⟨aside, lcu, -⟩ := p.strayFound_spec k present true d
    obtain ⟨dt, -, mc, -, -, -, lsq, rqx, -, sa, -, cfg, lct, -, -⟩ := Part.mk.inj aside
    have same : (p.strayFound k present true d).dt = p.dt := dt
    refine Part.clearedAt_of (by simp [same]) (by simp [Part.rejoinPending, lcu]) ?_
    simpa using ⟨mc, lsq, rqx, sa, cfg, lct⟩

/-- The part of the pocket is settled: its plan slot, its counter, and no reservation touched (R34, R35). -/
def Part.settledAs (p q : Part) (x : PartRecord) (d : Disposition) : Prop :=
  q.ps = p.ps.setSlot x.slot { p.ps.slot x.slot with refs := (p.ps.slot x.slot).refs - 1 } ∧
    q.lcu.counters = p.lcu.counters.settle d ∧ q.rsc = p.rsc ∧ q.lcu.pendingSet = p.lcu.pendingSet

/-- The settling of a part in `e`, which shares the plan slots, the counters and the reservations of `p`. -/
theorem Part.settledAs_of {e q : Part} {x : PartRecord} {r : Routing} {out : Disposition} (eps : e.ps = p.ps)
    (elcu : e.lcu = p.lcu) (ersc : e.rsc = p.rsc) (ps : q.ps = (e.settlePart k x r out d).ps)
    (lcu : q.lcu = (e.settlePart k x r out d).lcu) (rsc : q.rsc = e.rsc) : Part.settledAs p q x out := by
  obtain ⟨-, slcu, sps, -⟩ := e.settlePart_spec k x r out d
  rw [Part.settledAs, ps, lcu, rsc, sps, slcu, eps, elcu, ersc]
  exact ⟨rfl, rfl, rfl, rfl⟩

/-- A pocket is settled at the clear station, by its phase. -/
theorem Part.cleared_settling {q : Part} (hq : q = p.settling k present sampled d) :
    Part.cleared p q k present sampled := by
  have front := Part.clearedAt_settling (p := p) (k := k) (present := present) (sampled := sampled) (d := d)
  rw [← hq] at front
  obtain ⟨vacated, others⟩ := Part.pocket_of_clearedAt front
  obtain ⟨dt, lcu, aside⟩ := front
  refine ⟨vacated, others, by rw [dt], congrArg (fun l : Lcu => { l with clearJet := p.lcu.clearJet }) lcu,
    congrArg (fun q : Part => { q with lct := p.lct }) aside, fun x r tube n phase route => ?spent, fun x r phase => ?routed,
    fun x phase => ?carry, fun phase => ?stray, fun phase => ?vacant, fun set phase => ?reserved⟩
  case spent =>
    have gate : r.route.gateNumber = n := by rw [route]; rfl
    rw [Part.settling_spent phase, gate] at hq
    refine ⟨fun absent => ?_, fun shown => ?_⟩
    · obtain ⟨-, -, -, handed⟩ := p.settlePart_spec k x r .ejected d
      rw [absent, if_neg Bool.false_ne_true] at hq
      cases sampled with
      | true =>
        rw [if_pos rfl, Part.ejectedClaim] at hq
        refine ⟨Part.settledAs_of (e := p) (r := r) (k := k) (d := d) rfl rfl rfl (by simp [hq]) (by simp [hq]) (by simp [hq]),
          by simp [hq], by simp [hq], ?_, ?_⟩
        · exact Part.handed_of_right handed (by simp [hq]) (by simp [hq, Part.indexCount])
        · simp [hq, Part.bin]
      | false =>
        rw [if_neg Bool.false_ne_true] at hq
        rw [← hq] at handed
        exact ⟨Part.settledAs_of (e := p) (r := r) (k := k) (d := d) rfl rfl rfl (by rw [hq]) (by rw [hq]) (by simp [hq]),
          by simp [hq], by simp [hq], handed, by simp [hq]⟩
    · obtain ⟨sdt, -, -, handed⟩ := p.settlePart_spec k x r .missed d
      obtain ⟨attn, gbt, missed⟩ := (p.settlePart k x r .missed d).missedClaim_spec n tube
      have bins : (p.settlePart k x r .missed d).gbt = p.gbt := by simp
      have bin : (p.settlePart k x r .missed d).bin n = p.bin n := by rw [Part.bin, bins]; rfl
      have latched : ((p.settlePart k x r .missed d).latch .bin).attn = (p.latch .bin).attn :=
        Part.latch_attn_congr (by simp) .bin
      have both := Part.handed_trans handed missed (by simp [Part.indexCount])
      rw [shown, if_pos rfl] at hq
      rw [← hq] at attn gbt both
      rw [bin, bins, latched] at attn
      rw [bin, bins] at gbt
      rw [bin, bins, sdt] at both
      refine ⟨Part.settledAs_of (e := p) (r := r) (k := k) (d := d) rfl rfl rfl (by simp [hq]) (by simp [hq]) (by simp [hq]),
        by simp [hq], ?_, gbt, both⟩
      simpa using attn
  case routed =>
    rw [Part.settling_routed phase] at hq
    obtain ⟨-, -, -, handed⟩ := (p.releaseRoute r.route).settlePart_spec k x r (if present then .caught else .lost) d
    have jw : (p.releaseRoute r.route).jw = p.jw := by simp
    have ps : (p.releaseRoute r.route).ps = p.ps := by simp
    rw [← hq, ps] at handed
    refine ⟨Part.settledAs_of (e := p.releaseRoute r.route) (r := r) (k := k) (d := d) ps (by simp) (by simp) (by rw [hq])
      (by rw [hq]) (by simp [hq]), by simp [hq], by simp [hq], Part.handed_of_left jw handed, ?_⟩
    have gbt : q.gbt = (p.releaseRoute r.route).gbt := by simp [hq]
    rw [gbt]
    cases r.route <;> rfl
  case carry =>
    rw [Part.settling_carry phase] at hq
    obtain ⟨-, -, -, handed⟩ := p.settlePart_spec k x p.carryRouting (if present then .caught else .lost) d
    refine ⟨Reason.numbered (Config.freeValue p.draws).toNat, Part.settledAs_of (e := p) (r := p.carryRouting) (k := k) (d := d)
      rfl rfl rfl (by rw [hq]; rfl) (by rw [hq]; rfl) (by simp [hq, Part.settleCarried]), by simp [hq, Part.settleCarried],
      by simp [hq, Part.settleCarried], Part.handed_of_right handed (by rw [hq]; rfl) (by rw [hq]; rfl)⟩
  case stray =>
    rw [Part.settling_stray phase] at hq
    refine ⟨⟨by simp [hq], by simp [hq], by simp [hq], by simp [hq], by simp [hq]⟩, by simp [hq], by simp [hq], ?_⟩
    rw [hq]
    exact Part.handed_of_right (p.handed_handOffFor _ d) rfl rfl
  case vacant =>
    rw [Part.settling_vacant phase] at hq
    obtain ⟨aside, lcu, handed⟩ := p.strayFound_spec k present false d
    rw [← hq] at aside lcu handed
    obtain ⟨-, -, -, rsc, ps, gbt, -, -, -, -, attn, -, -, -, draws⟩ := Part.mk.inj aside
    exact ⟨⟨ps, gbt, attn, draws, by rw [lcu]⟩, rsc, by rw [lcu], handed⟩
  case reserved =>
    rw [Part.settling_reserved phase] at hq
    obtain ⟨aside, lcu, handed⟩ := p.strayFound_spec k present true d
    obtain ⟨w, hw⟩ : ∃ w, w = p.strayFound k present true d := ⟨_, rfl⟩
    rw [← hw] at hq aside lcu handed
    obtain ⟨wdt, -, -, rsc, ps, gbt, -, -, -, -, attn, -, -, -, draws⟩ := Part.mk.inj aside
    have joined : q.lcu = { w.lcu with pendingSet := w.lcu.pendingSet.union set } := by rw [hq]; rfl
    refine ⟨⟨by simp [hq, ps], by simp [hq, gbt], by simp [hq, attn], by simp [hq, draws], by rw [joined, lcu]⟩,
      fun m => ?_, fun m => ?_, Part.handed_of_right handed (by simp [hq]) (by simp [hq, Part.indexCount])⟩
    · rw [joined, lcu, MeterSet.union, Four.get_zipWith]
    · rw [hq, Part.setPocket_rsc, Part.rejoinPending, Four.get_zipWith, rsc]
      (repeat' split) <;> simp_all

end

/-! ## The catch jet (R30, R31) -/

/-- What the jet and the item's completion may change stands outside a pocket's settling. -/
theorem Part.cleared_of_aside {p q t : Part} {k : Nat} {present sampled : Bool} (h : Part.cleared p q k present sampled)
    (dt : { t.dt with items := q.dt.items } = q.dt) (lcu : { t.lcu with clearJet := q.lcu.clearJet } = q.lcu)
    (aside : { t with dt := q.dt, lcu := q.lcu, lct := q.lct } = q) : Part.cleared p t k present sampled := by
  obtain ⟨-, -, mc, rsc, ps, gbt, lsq, rqx, jw, sa, attn, cfg, -, changed, draws⟩ := Part.mk.inj aside
  obtain ⟨geometry, offset, pockets, dwell, -, openedIn, permit, expected⟩ := Dt.mk.inj dt
  obtain ⟨sequence, thinning, ratio, pendingSet, feed, -, counters, intervals⟩ := Lcu.mk.inj lcu
  have reads : t.pocket = q.pocket := by
    funext x
    rw [Part.pocket, Part.pocket, pockets]
  have handed : ∀ xs, Part.handed p t xs = Part.handed p q xs := by
    intro xs
    rw [Part.handed, Part.handed, jw, Part.indexCount, Part.indexCount, geometry, dwell]
  unfold Part.cleared at h ⊢
  rw [reads]
  simp only [handed, rsc, ps, gbt, attn, draws, counters, pendingSet] at h ⊢
  obtain ⟨vacated, others, dial, load, rest, phases⟩ := h
  refine ⟨vacated, others, ?_, ?_, ?_, phases⟩
  · rw [← dial, geometry, offset, dwell, openedIn, permit, expected]
  · rw [← load, sequence, thinning, ratio, feed, intervals]
  · rw [← rest, mc, lsq, rqx, sa, cfg]

/-- The catch jet fires for the CLEAR item of the current dwell. -/
theorem Part.fireCatch_spec (p : Part) :
    let q := p.fireCatch
    q.lcu = { p.lcu with clearJet := .pulsing p.dt.dwell true } ∧
      q.dt = p.endCatch.dt ∧
      ∀ i, p.lcu.intervals = some i →
        q.lct =
          { p.lct with
            timers := { p.lct.timers with clearJet := .running i.catchPulse (IntervalCode.units i.catchPulse) } } := by
  intro q
  obtain ⟨elcu, edt⟩ := p.endCatch_spec
  have dwell : p.endCatch.dt.dwell = p.dt.dwell := by rw [edt]
  obtain ⟨z, hz⟩ : ∃ z : Part, z =
      { p.endCatch with lcu := { p.endCatch.lcu with clearJet := .pulsing p.endCatch.dt.dwell true } } := ⟨_, rfl⟩
  have zlcu : z.lcu = { p.lcu with clearJet := .pulsing p.dt.dwell true } := by rw [hz, dwell, elcu]
  have zlct : z.lct = p.lct := by rw [hz]; simp
  have zdt : z.dt = p.endCatch.dt := by rw [hz]
  cases intervals : p.lcu.intervals with
  | none =>
    have form : q = z := by simp only [q, Part.fireCatch, intervals, hz]
    rw [form]
    exact ⟨zlcu, zdt, fun i h => nomatch h⟩
  | some i =>
    have form : q = z.setCatchTimer (Timer.start i.catchPulse) := by simp only [q, Part.fireCatch, intervals, hz]
    rw [form]
    refine ⟨zlcu, zdt, fun j h => ?_⟩
    obtain rfl := Option.some.inj h
    rw [Part.setCatchTimer, Part.setTimers, zlct]
    rfl

/-- A CLEAR item, started or skipped. -/
theorem Part.clearItem_spec (p : Part) (k : Nat) (st : ItemState) :
    let q := p.startItem { kind := .clear, pocket := k, state := st }
    let present := p.lct.lines.clearEye.stable
    let waits : Bool := q.jw.waiting.any (fun h => h.clearDwell == some p.dt.dwell)
    Part.cleared p q k present true ∧
    (present = false → q.lcu.clearJet = p.lcu.clearJet ∧ q.lct = p.lct) ∧
    (present = true →
      q.lcu.clearJet = .pulsing p.dt.dwell true ∧
        ∀ i, p.lcu.intervals = some i →
          q.lct =
            { p.lct with
              timers := { p.lct.timers with clearJet := .running i.catchPulse (IntervalCode.units i.catchPulse) } }) ∧
    (p.lcu.clearJet ≠ .pulsing p.dt.dwell true →
      q.dt.items = if present || waits then p.dt.items else p.dt.items.map (Item.complete .clear)) ∧
    ∀ dwell, let y := Part.skipItem dwell p { kind := .clear, pocket := k, state := st }
      Part.cleared p y k false false ∧ y.lcu.clearJet = p.lcu.clearJet ∧ y.lct = p.lct ∧ y.dt.items = p.dt.items := by
  intro q present waits
  obtain ⟨e, he⟩ : ∃ e, e = p.settling k present true (some p.dt.dwell) := ⟨_, rfl⟩
  obtain ⟨v, hv⟩ : ∃ v, v = if present then e.fireCatch else e := ⟨_, rfl⟩
  have form : q = v.tryCompleteClear p.dt.dwell := by
    have started : q = (if present then (p.settleClear k present).fireCatch
      else p.settleClear k present).tryCompleteClear p.dt.dwell := rfl
    rw [started, Part.settleClear_eq, ← he, ← hv]
  have cleared := Part.cleared_settling he
  have front := Part.clearedAt_settling (p := p) (k := k) (present := present) (sampled := true) (d := some p.dt.dwell)
  rw [← he] at front
  obtain ⟨edt, elcu, easide⟩ := front
  obtain ⟨-, -, -, -, -, -, -, -, -, -, -, -, elct, -, -⟩ := Part.mk.inj easide
  obtain ⟨-, -, -, -, -, ejet, -, eintervals⟩ := Lcu.mk.inj elcu
  have edwell : e.dt.dwell = p.dt.dwell := by rw [edt]
  have eitems : e.dt.items = p.dt.items := by rw [edt]
  obtain ⟨flcu, fdt, flct⟩ := e.fireCatch_spec
  obtain ⟨-, cdt⟩ := e.endCatch_spec
  have qdt := v.tryCompleteClear_dt p.dt.dwell
  rw [← form] at qdt
  have keeps := v.tryCompleteClear_keeps p.dt.dwell
  rw [← form] at keeps
  obtain ⟨qlcu, qmc, qrsc, qps, qgbt, qlsq, qrqx, qjw, qsa, qattn, qcfg, qlct, qdraws, qchanged⟩ := keeps
  refine ⟨Part.cleared_of_aside cleared ?_ ?_ ?_, fun absent => ?_, fun shown => ?_, fun free => ?_, fun dwell => ?_⟩
  · rw [qdt, hv]
    split
    · rw [fdt, cdt]
    · rfl
  · rw [qlcu, hv]
    split
    · rw [flcu]
    · rfl
  · rw [qmc, qrsc, qps, qgbt, qlsq, qrqx, qjw, qsa, qattn, qcfg, qdraws, qchanged, hv]
    split <;> simp
  · rw [absent, if_neg Bool.false_ne_true] at hv
    rw [qlcu, qlct, hv]
    exact ⟨ejet, elct⟩
  · rw [shown, if_pos rfl] at hv
    rw [qlcu, qlct, hv, flcu, edwell, ← elct]
    exact ⟨rfl, fun i held => flct i (eintervals.trans held)⟩
  · have jw : v.jw = q.jw := qjw.symm
    rw [qdt, jw]
    cases shown : present with
    | true =>
      rw [shown, if_pos rfl] at hv
      have pulses : v.lcu.clearJet = .pulsing p.dt.dwell true := by rw [hv, flcu, edwell]
      have quiet : ¬ e.lcu.clearJet = .pulsing e.dt.dwell true := by rwa [ejet, edwell]
      rw [if_neg fun h => h.1 pulses, hv, fdt, cdt, if_neg fun h => quiet h.1, Bool.true_or, if_pos rfl, eitems]
    | false =>
      rw [shown, if_neg Bool.false_ne_true] at hv
      have quiet : v.lcu.clearJet ≠ .pulsing p.dt.dwell true := by rwa [hv, show e.lcu.clearJet = _ from ejet]
      rw [hv] at quiet ⊢
      rw [eitems, edwell, Bool.false_or]
      cases held : waits with
      | true => rw [if_neg fun h => Bool.false_ne_true (h.2.1.symm.trans held), if_pos rfl]
      | false => rw [if_pos ⟨quiet, held, rfl⟩, if_neg Bool.false_ne_true]
  · intro y
    have skipped : y = p.settling k false false none := Part.skipClearItem_eq p k
    have front := Part.clearedAt_settling (p := p) (k := k) (present := false) (sampled := false) (d := none)
    rw [← skipped] at front
    obtain ⟨ydt, ylcu, yaside⟩ := front
    obtain ⟨-, -, -, -, -, -, -, -, -, -, -, -, ylct, -, -⟩ := Part.mk.inj yaside
    obtain ⟨-, -, -, -, -, yjet, -, -⟩ := Lcu.mk.inj ylcu
    exact ⟨Part.cleared_settling skipped, yjet, ylct, by rw [ydt]⟩

end Sys2Proof.Machine
end

section
/-! The obligation on the expiries (R16, R27, R29, R31, R51, R116 to R118, R168). -/

namespace Sys2Proof.Machine

/-- The feed's end by its timer, for a LOAD item of the current dwell. -/
theorem Part.feedTimerExpires_spec {p : Part} {k : Nat} (feeding : p.lcu.feed = .feeding k p.dt.dwell) :
    let t := Part.commit p p.feedTimerExpires
    t.lcu = { p.lcu with feed := .idle } ∧ t.dt.pockets = p.dt.pockets ∧
      (∀ i ∈ t.dt.items, i.kind = .load → i.state ≠ .started) ∧
      t.lct.timers = { p.lct.timers with jam := t.lct.timers.jam, feed := .stopped } ∧
      Part.keepsBut [.dial, .loading, .journal, .timers] p t ∧
      Part.handed p t [.event (.feedTimeout k p.dt.offset)] := by
  intro t
  obtain ⟨e, he⟩ : ∃ e, e = p.event (.feedTimeout k p.dt.offset) := ⟨_, rfl⟩
  obtain ⟨q, hq⟩ : ∃ q, q = e.dropFeed p.dt.dwell := ⟨_, rfl⟩
  have form : p.feedTimerExpires = q := by rw [Part.feedTimerExpires_current feeding, hq, he]
  obtain ⟨lcu, lct, dt⟩ := e.dropFeed_blocks p.dt.dwell
  have same : e.dt = p.dt ∧ e.lcu = p.lcu ∧ e.lct = p.lct := by simp [he]
  obtain ⟨edt, elcu, elct⟩ := same
  rw [← hq, edt] at dt
  rw [← hq, elcu] at lcu
  rw [← hq, elct] at lct
  rw [if_pos rfl] at dt
  have handed := p.handed_event (.feedTimeout k p.dt.offset)
  rw [← he] at handed
  simp only [t, form]
  refine ⟨by simp [lcu], by simp [dt], ?_, ?_, Part.keepsBut_commit fun r hr => ?_, Part.handed_commit p ?_⟩
  · rw [(Part.commit_fields p q).2.2.2.2.1, dt]
    exact not_started_of_complete
  · rw [Part.commit_timers_eq, lct]
  · cases r <;> simp [Region.same, hq, he, Sa.follows_refl] at hr ⊢
  · exact Part.handed_of_right handed (by simp [hq]) (by simp [Part.indexCount, dt, edt])

/-- The catch pulse's end by its timer. -/
theorem Part.catchTimerExpires_spec (p : Part) :
    let t := Part.commit p p.catchTimerExpires
    t.lcu = { p.lcu with clearJet := .idle } ∧ t.dt.pockets = p.dt.pockets ∧
      (p.lcu.clearJet = .pulsing p.dt.dwell true → p.jw.waiting = [] →
        ∀ i ∈ t.dt.items, i.kind = .clear → i.state ≠ .started) ∧
      t.lct.timers = { p.lct.timers with jam := t.lct.timers.jam, clearJet := .stopped } ∧
      Part.keepsBut [.dial, .loading, .timers] p t := by
  intro t
  obtain ⟨e, he⟩ : ∃ e, e = p.setCatchTimer .stopped := ⟨_, rfl⟩
  have form : p.catchTimerExpires = e.endCatch := by rw [he]; rfl
  obtain ⟨lcu, dt⟩ := e.endCatch_spec
  have same : e.dt = p.dt ∧ e.lcu = p.lcu ∧ e.jw = p.jw := by rw [he]; exact ⟨rfl, rfl, rfl⟩
  obtain ⟨edt, elcu, ejw⟩ := same
  have elct : e.lct = { p.lct with timers := { p.lct.timers with clearJet := .stopped } } := by rw [he]; rfl
  rw [elcu, edt, ejw] at dt
  rw [elcu] at lcu
  simp only [t, form]
  refine ⟨by simp [lcu], by simp [dt], fun pulses free => ?_, ?_, Part.keepsBut_commit fun r hr => ?_⟩
  · rw [(Part.commit_fields p e.endCatch).2.2.2.2.1, dt, if_pos ⟨pulses, by rw [free]; rfl⟩]
    exact not_started_of_complete
  · rw [Part.commit_timers_eq, (Part.endCatch_keeps e).2.2.2.2.2.2.2.2.2.2.1, elct]
  · cases r <;> simp [Region.same, elct] at hr ⊢ <;> simp [he, Sa.follows_refl]

/-- The starvation timer's expiry. -/
theorem Part.starvationExpires_spec (p : Part) :
    let t := Part.commit p p.starvationExpires
    t.attn = (p.latch .starved).attn ∧
      t.lct.timers = { p.lct.timers with jam := t.lct.timers.jam, starvation := .stopped } ∧
      Part.keepsBut [.journal, .attention, .timers] p t ∧
      Part.handed p t [.event (.starvation p.lcu.nextSequence p.dt.offset)] := by
  intro t
  refine ⟨?_, ?_, Part.keepsBut_commit fun r hr => ?_, Part.handed_commit p ?_⟩
  · simp only [t, Part.commit_blocks, Part.starvationExpires, Part.event_keeps]
    exact Part.latch_attn_congr (p := p) (q := p.setStarvation .stopped) rfl .starved
  · simp only [t]
    rw [Part.commit_timers_eq]
    simp [Part.starvationExpires, Part.setStarvation, Part.setTimers]
  · cases r <;> simp [Region.same, Part.starvationExpires, Sa.follows_refl] at hr ⊢
  · exact Part.handed_of_left (by simp) (Part.handed_event _ _)

/-- The age timer's expiry. -/
theorem Part.ageExpires_spec (p : Part) :
    let t := Part.commit p p.ageExpires
    t.attn = (p.latch .journal).attn ∧ t.lct.timers = { p.lct.timers with jam := t.lct.timers.jam, age := .stopped } ∧
      Part.keepsBut [.attention, .timers] p t := by
  intro t
  refine ⟨?_, ?_, Part.keepsBut_commit fun r hr => ?_⟩
  · simp only [t, Part.commit_blocks, Part.ageExpires]
    exact Part.latch_attn_congr (p := p) (q := p.setAge .stopped) rfl .journal
  · simp only [t]
    rw [Part.commit_timers_eq]
    simp [Part.ageExpires, Part.setAge, Part.setTimers]
  · cases r <;> simp [Region.same, Part.ageExpires, Sa.follows_refl] at hr ⊢

/-- A pulse timer's expiry. -/
theorem Part.pulseExpires_spec {p : Part} {n k tube dwell : Nat} {reports : Bool} (bins : n < p.gbt.bins.length)
    (pulses : n < p.gbt.pulses.length) (pulse : p.pulse n = .pulsing k tube dwell reports) :
    let t := Part.commit p (p.pulseExpires n)
    let b := p.bin n
    let fired := if b.tubeNumber = tube then b.fired + 1 else b.fired
    t.pulse n = .idle ∧ (∀ x, x ≠ n → t.pulse x = p.pulse x ∧ t.bin x = p.bin x) ∧
      t.bin n =
        { b with
          fired
          pending := if (p.pocket k).routedTo n then b.pending - 1 else b.pending
          full := if b.tubeNumber = tube ∧ b.capacity ≤ fired ∧ b.full = .clear then .count else b.full } ∧
      (∀ x, x ≠ k → t.pocket x = p.pocket x) ∧
      (∀ x r, p.pocket k = .routed x r → t.pocket k = .spent x { r with route := .gate n } tube) ∧
      (reports = true → dwell = p.dt.dwell → ∀ i ∈ t.dt.items, i.kind = .fire n → i.state ≠ .started) ∧
      t.lct.timers.pulse = p.lct.timers.pulse.set n .stopped ∧ Part.keepsBut [.dial, .bins, .timers] p t := by
  intro t b fired
  obtain ⟨e, he⟩ : ∃ e, e = p.setPulseTimer n .stopped := ⟨_, rfl⟩
  obtain ⟨q, hq⟩ : ∃ q, q = e.endPulse n := ⟨_, rfl⟩
  have form : t = Part.commit p q := by rw [hq, he]; rfl
  have ended := Part.endPulse_spec (p := e) (n := n) (by rwa [he]) (by rw [he]; exact pulse)
  rw [← hq] at ended
  have reads : e.gbt = p.gbt ∧ e.dt = p.dt ∧ e.lct.timers = { p.lct.timers with pulse := p.lct.timers.pulse.set n .stopped } := by
    rw [he]
    exact ⟨rfl, rfl, rfl⟩
  obtain ⟨egbt, edt, etimers⟩ := reads
  have pocket : e.pocket = p.pocket := by
    funext x
    rw [Part.pocket, Part.pocket, edt]
  have bin : e.bin = p.bin := by
    funext x
    rw [Part.bin, Part.bin, egbt]
  obtain ⟨gbt, others, routed, -, -, items, aside⟩ := ended
  rw [bin, pocket, egbt] at gbt
  rw [pocket] at others routed
  rw [edt] at items
  have lct : q.lct = e.lct := by simp [hq]
  have tgbt : t.gbt = q.gbt := by rw [form]; simp
  have tpocket : t.pocket = q.pocket := by rw [form]; simp
  refine ⟨?_, fun x other => ⟨?_, ?_⟩, ?_, ?_, ?_, fun reported current => ?_, ?_, ?_⟩
  · rw [Part.pulse, tgbt, gbt]
    exact getD_set.trans (if_pos ⟨rfl, pulses⟩)
  · rw [Part.pulse, tgbt, gbt]
    exact getD_set.trans (if_neg fun h => other h.1)
  · rw [Part.bin, tgbt, gbt]
    exact getD_set.trans (if_neg fun h => other h.1)
  · rw [Part.bin, tgbt, gbt]
    exact getD_set.trans (if_pos ⟨rfl, bins⟩)
  · rwa [tpocket]
  · rwa [tpocket]
  · rw [form, (Part.commit_fields p q).2.2.2.2.1, items, if_pos ⟨reported, current⟩]
    exact not_started_of_complete
  · rw [form]
    simp [lct, etimers]
  · rw [form]
    refine Part.keepsBut_commit fun r hr => ?_
    cases r <;> simp [Region.same, hq] at hr ⊢ <;> simp [he, Sa.follows_refl]

/-- Settles O58. -/
theorem expiriesDoTheirWork : Obligations.ExpiriesDoTheirWork := by
  refine ⟨fun s running => ?jam, fun s k running feeding => ?feed, fun s running => ?jet, fun s running => ?starvation,
    fun m s running => ?take, fun n s k tube dwell reports tables running pulse => ?pulse, fun s running => ?age,
    fun p k dwell feeding other => Part.feedTimerExpires_earlier feeding other,
    fun p n k st bins _ => p.fireItem_spec n k st bins, fun p k st => p.clearItem_spec k st⟩
  case jam =>
    exact ⟨_, State.expires Part.jamExpires running, ⟨rfl, rfl, rfl⟩, s.part.jamExpires_stopped,
      fun lot => Part.jamExpires_halts lot⟩
  case feed =>
    exact ⟨_, State.expires Part.feedTimerExpires running, ⟨rfl, rfl, rfl⟩, Part.feedTimerExpires_spec feeding⟩
  case jet =>
    exact ⟨_, State.expires Part.catchTimerExpires running, ⟨rfl, rfl, rfl⟩, s.part.catchTimerExpires_spec⟩
  case starvation =>
    exact ⟨_, State.expires Part.starvationExpires running, ⟨rfl, rfl, rfl⟩, s.part.starvationExpires_spec⟩
  case take =>
    exact ⟨_, State.expires (fun p => p.takeTimerExpires m) running, ⟨rfl, rfl, rfl⟩, s.part.takeTimerExpires_spec m⟩
  case pulse =>
    obtain ⟨bins, pulses, -, -⟩ := tables
    exact ⟨_, State.expires (fun p => p.pulseExpires n.val) running, ⟨rfl, rfl, rfl⟩,
      Part.pulseExpires_spec (by rw [bins]; exact n.isLt) (by rw [pulses]; exact n.isLt) pulse⟩
  case age =>
    exact ⟨_, State.expires Part.ageExpires running, ⟨rfl, rfl, rfl⟩, s.part.ageExpires_spec⟩

end Sys2Proof.Machine
end

section
/-! The setups of a START LOT (R45, R134). -/

namespace Sys2Proof.Machine

/-! ## Faulting that goes on (R43) -/

/-- The faulting with the records of an earlier one before its own. -/
def Faulting.after (f : Faulting) (xs : List RecordBody) : Faulting := { f with bodies := xs ++ f.bodies }

theorem Faulting.tag_after (f : Faulting) (xs : List RecordBody) (m : Meter) (offset : Nat) (t : Tag) :
    (f.after xs).tag m offset t = (f.tag m offset t).after xs := by
  obtain ⟨kind, pocket, serial, dwell, stage⟩ := t
  cases kind with
  | take =>
    simp only [Faulting.tag, Faulting.after]
    split <;> simp
  | refer =>
    cases refs : (f.meters.get m).refs with
    | nil => simp only [Faulting.tag, Faulting.after, refs]
    | cons e rest => simp only [Faulting.tag, Faulting.after, refs, List.append_assoc] <;> rfl

theorem Faulting.withdraw_after (f : Faulting) (xs : List RecordBody) (m : Meter) (w : Option PendingTake) :
    (f.after xs).withdraw m w = (f.withdraw m w).after xs := by
  cases w with
  | none => rfl
  | some t =>
    obtain ⟨kind, k, dwell⟩ := t
    cases kind with
    | refer => rfl
    | take =>
      cases held : f.pockets.getD k .vacant with
      | carry x =>
        simp only [Faulting.withdraw, Faulting.after, held]
        split <;> rfl
      | _ => simp only [Faulting.withdraw, Faulting.after, held]

theorem Faulting.work_after (f : Faulting) (xs : List RecordBody) (m : Meter) (offset : Nat) (c : Channel) :
    (f.after xs).work m offset c = (f.work m offset c).after xs := by
  have tags : ∀ (ts : List Tag) (g : Faulting),
      ts.foldl (fun g t => g.tag m offset t) (g.after xs) = (ts.foldl (fun g t => g.tag m offset t) g).after xs := by
    intro ts
    induction ts with
    | nil => exact fun _ => rfl
    | cons t rest ih =>
      intro g
      rw [List.foldl_cons, List.foldl_cons, Faulting.tag_after, ih]
  rw [Faulting.work, tags, Faulting.withdraw_after, Faulting.work]

/-- The faulting of a channel that enters SETUP, with the setup's failure where FLT is high. -/
def Faulting.entered (f : Faulting) (m : Meter) (offset : Nat) (c : Channel) (flt : Bool) : Faulting :=
  let g := f.work m offset c
  { g with bodies := g.bodies ++ if flt then [.event (.setupFailed m .flt)] else [] }

/-! ## The items of the meters set up (R43) -/

/-- The item as the meters `ms` enter SETUP. -/
def Item.completeTakes (ms : List Meter) (i : Item) : Item :=
  match i.kind with
  | .take m => if m ∈ ms then Item.complete (.take m) i else i
  | _ => i

theorem Item.complete_kind (k : ItemKind) (i : Item) : (Item.complete k i).kind = i.kind := by
  unfold Item.complete
  split <;> rfl

theorem Item.complete_other {k : ItemKind} {i : Item} (h : i.kind ≠ k) : Item.complete k i = i :=
  if_neg fun same => h same.1

theorem Item.completeTakes_append {ms : List Meter} {m : Meter} (new : m ∉ ms) (i : Item) :
    Item.complete (.take m) (Item.completeTakes ms i) = Item.completeTakes (ms ++ [m]) i := by
  unfold Item.completeTakes
  cases kind : i.kind with
  | take x =>
    dsimp only
    by_cases same : x = m
    · subst same
      rw [if_neg new, if_pos (by simp)]
    · have other : ∀ j : Item, j.kind = .take x → Item.complete (.take m) j = j := fun j hj =>
        Item.complete_other (by rw [hj]; exact fun h => same (ItemKind.take.inj h))
      by_cases past : x ∈ ms
      · rw [if_pos past, if_pos (by simp [past]), other _ ((Item.complete_kind _ i).trans kind)]
      · rw [if_neg past, if_neg (by simp [past, same]), other i kind]
  | _ => exact Item.complete_other (by rw [kind]; exact ItemKind.noConfusion)

theorem Item.map_completeTakes_nil (items : List Item) : items.map (Item.completeTakes []) = items := by
  refine List.map_id'' (fun i => ?_) items
  unfold Item.completeTakes
  cases i.kind <;> simp

/-! ## The sequencer while the setups begin (R59, R134) -/

theorem Part.toldOf_startLot (p q : Part) : (Part.toldOf p q).startLot = p.lsq.startLot := by
  unfold Part.toldOf Lsq.raised
  (repeat' split) <;> rfl

section
variable {p : Part} (noLot : p.lsq.engine.inLot = false)
include noLot

theorem Part.toldOf_of_noLot (q : Part) : Part.toldOf p q = p.lsq := by
  unfold Part.toldOf Lsq.raised
  rw [noLot, if_neg Bool.false_ne_true, ite_self]

theorem Part.toldBodies_of_noLot (q : Part) : Part.toldBodies p q = [] := by
  unfold Part.toldBodies Part.holdBodies
  rw [noLot, if_neg Bool.false_ne_true, ite_self]

theorem Part.starvationOn_hold_of_noLot : p.starvationOn .hold = p.lct.timers.starvation := by
  rw [Part.starvationOn_hold, if_neg]
  intro run
  rw [run] at noLot
  exact absurd noLot (by decide)

end

theorem Lsq.withOutcome_startLot {l : Lsq} {w : StartLotWork} {resumed : Option (Nat × LotCounters)}
    {o : Four (Option ChannelCause)} (work : l.startLot = some { w with phase := .setups resumed o }) (m : Meter)
    (outcome : ChannelCause) :
    (l.withOutcome m outcome).startLot = some { w with phase := .setups resumed (o.set m (some outcome)) } := by
  unfold Lsq.withOutcome
  rw [work]

theorem Lsq.withOutcome_others (l : Lsq) (m : Meter) (outcome : ChannelCause) (s : Option StartLotWork) :
    { l.withOutcome m outcome with startLot := s } = { l with startLot := s } := by
  unfold Lsq.withOutcome
  split <;> rfl

/-! ## The setups, meter by meter -/

/-- From `p` to `q` the meters `ms` have entered SETUP under a START LOT and the faulting has left `f`. -/
def Part.underLot (p q : Part) (n : Nominal) (flt : Four Bool) (ms : List Meter) (f : Faulting) : Prop :=
  (∀ m, q.channel m = if m ∈ ms then (p.channel m).enteredSetup .startLot (some n) (flt.get m) else p.channel m) ∧
    q.mc.takeTimeout = p.mc.takeTimeout ∧
    q.dt = { p.dt with pockets := f.pockets, items := p.dt.items.map (Item.completeTakes ms) } ∧
    q.lcu = { p.lcu with counters := f.counters } ∧ q.rsc = f.meters ∧
    (∀ m, q.lct.timers.take.get m = if m ∈ ms then .stopped else p.lct.timers.take.get m) ∧
    (q.lct.lines = p.lct.lines ∧ q.lct.chain = p.lct.chain ∧ q.attn = p.attn ∧ q.rqx = p.rqx ∧ q.sa = p.sa ∧
      q.ps = p.ps ∧ q.gbt = p.gbt ∧ q.cfg = p.cfg ∧ q.draws = p.draws) ∧
    (∀ (w : StartLotWork) (resumed : Option (Nat × LotCounters)) (o : Four (Option ChannelCause)),
      p.lsq.startLot = some { w with phase := .setups resumed o } →
      ∃ x : Four (Option ChannelCause), q.lsq.startLot = some { w with phase := .setups resumed x } ∧
        ∀ m, x.get m = if m ∈ ms ∧ flt.get m = true then some .flt else o.get m) ∧
    (p.lsq.engine.inLot = false →
      { q.lsq with startLot := p.lsq.startLot } = p.lsq ∧
        q.lct.timers = { p.lct.timers with take := q.lct.timers.take } ∧ Part.handed p q f.bodies)

theorem Part.underLot_refl (p : Part) (n : Nominal) (flt : Four Bool) : Part.underLot p p n flt [] p.faulting := by
  refine ⟨fun m => by simp, rfl, ?_, rfl, rfl, fun m => by simp, ⟨rfl, rfl, rfl, rfl, rfl, rfl, rfl, rfl, rfl⟩,
    fun w resumed o work => ⟨o, work, fun m => by simp⟩, fun _ => ⟨rfl, rfl, p.handed_refl⟩⟩
  rw [Item.map_completeTakes_nil]
  rfl

/-- One more meter enters SETUP. -/
theorem Part.underLot_step {p q : Part} {n : Nominal} {flt : Four Bool} {ms : List Meter} {f : Faulting}
    (h : Part.underLot p q n flt ms f) {m : Meter} (new : m ∉ ms) :
    Part.underLot p ((q.setChannel m { q.channel m with nominal := some n }).enterSetup m .startLot (flt.get m)) n flt
      (ms ++ [m]) (f.entered m p.dt.offset (p.channel m) (flt.get m)) := by
  obtain ⟨channels, timeout, dt, lcu, rsc, takes, ⟨lines, chain, attn, rqx, sa, ps, gbt, cfg, draws⟩, work, noLot⟩ := h
  obtain ⟨c, hc⟩ : ∃ c : Channel, c = { p.channel m with nominal := some n } := ⟨_, rfl⟩
  obtain ⟨a, ha⟩ : ∃ a, a = q.setChannel m c := ⟨_, rfl⟩
  have own : q.channel m = p.channel m := by rw [channels, if_neg new]
  have start : q.setChannel m { q.channel m with nominal := some n } = a := by rw [ha, hc, own]
  obtain ⟨t, ht⟩ : ∃ t, t = a.enterSetup m .startLot (flt.get m) := ⟨_, rfl⟩
  have achannel : a.channel m = c := by rw [ha, Part.channel_setChannel_self]
  have adt : a.dt = q.dt := by simp [ha]
  have alcu : a.lcu = q.lcu := by simp [ha]
  have alsq : a.lsq = q.lsq := by simp [ha]
  have alct : a.lct = q.lct := by simp [ha]
  have worked : a.faulting.work m a.dt.offset (a.channel m) = (a.faulting).work m p.dt.offset (p.channel m) := by
    rw [achannel, adt, dt, hc]
    rfl
  obtain ⟨g, hg⟩ : ∃ g, g = a.faulting.work m p.dt.offset (p.channel m) := ⟨_, rfl⟩
  have entered : f.work m p.dt.offset (p.channel m) = g.after f.bodies := by
    have before : f = a.faulting.after f.bodies := by
      simp [Faulting.after, Part.faulting, dt, lcu, ha, rsc]
    rw [hg, ← Faulting.work_after, ← before]
  obtain ⟨tdt, tlcu, trsc, tmc, tlct, tattn, thanded, tps, tgbt, tcfg, tdraws, waits, fails, -⟩ :=
    a.enterSetup_spec m .startLot (flt.get m)
  rw [worked, ← hg] at tdt tlcu trsc thanded
  rw [← ht] at tdt tlcu trsc tmc tlct tattn thanded tps tgbt tcfg tdraws waits fails
  rw [start, ← ht]
  have left : f.entered m p.dt.offset (p.channel m) (flt.get m) =
      { g with bodies := f.bodies ++ g.bodies ++ if flt.get m then [.event (.setupFailed m .flt)] else [] } := by
    rw [Faulting.entered, entered]
    rfl
  have told : (Part.toldOf a t).startLot = q.lsq.startLot := by rw [Part.toldOf_startLot, alsq]
  have requests : t.lsq = (if flt.get m then (Part.toldOf a t).withOutcome m .flt else Part.toldOf a t) ∧
      t.rqx = a.rqx ∧ t.sa = a.sa := by
    cases level : flt.get m with
    | false => exact waits level
    | true => exact fails level rfl
  obtain ⟨tlsq, trqx, tsa⟩ := requests
  rw [left]
  refine ⟨fun x => ?channels, ?timeout, ?dt, ?lcu, trsc, fun x => ?takes, ?others, fun w resumed o held => ?work,
    fun lot => ?noLot⟩
  case channels =>
    by_cases same : x = m
    · subst same
      rw [if_pos (by simp), Part.channel_of_mc (p := a) (by rw [tmc]), achannel, hc]
      rfl
    · have kept : t.channel x = q.channel x := by
        have others := Part.otherChannels_of_mc (p := a) (q := t) (by rw [tmc]) x same
        rw [others, ha, Part.channel_setChannel_ne q c same]
      rw [kept, channels]
      exact if_congr (by simp [same]) rfl rfl
  case timeout => rw [tmc, ha, Part.setChannel_mc, timeout]
  case dt =>
    rw [tdt, adt, dt, List.map_map]
    exact congrArg (fun items => { p.dt with pockets := g.pockets, items })
      (List.map_congr_left fun i _ => Item.completeTakes_append new i)
  case lcu => rw [tlcu, alcu, lcu]
  case takes =>
    rw [tlct]
    by_cases same : x = m
    · subst same
      rw [Four.get_set_self, if_pos (by simp)]
    · rw [Four.get_set_ne _ _ same, alct, takes]
      exact if_congr (by simp [same]) rfl rfl
  case others =>
    refine ⟨by rw [tlct, alct, lines], by rw [tlct, alct, chain], tattn.trans ?_, trqx.trans ?_, tsa.trans ?_,
      tps.trans ?_, tgbt.trans ?_, tcfg.trans ?_, tdraws.trans ?_⟩ <;>
      simp [ha, attn, rqx, sa, ps, gbt, cfg, draws]
  case work =>
    obtain ⟨y, begun, outcomes⟩ := work w resumed o held
    have started := told.trans begun
    cases level : flt.get m with
    | false =>
      rw [level, if_neg Bool.false_ne_true] at tlsq
      refine ⟨y, by rw [tlsq, started], fun k => ?_⟩
      rw [outcomes]
      refine if_congr ?_ rfl rfl
      constructor
      · exact fun h => ⟨List.mem_append_left _ h.1, h.2⟩
      · rintro ⟨h, high⟩
        rcases List.mem_append.mp h with h | h
        · exact ⟨h, high⟩
        · obtain rfl := List.mem_singleton.mp h
          exact absurd (level.symm.trans high) Bool.false_ne_true
    | true =>
      rw [level, if_pos rfl] at tlsq
      refine ⟨y.set m (some .flt), by rw [tlsq, Lsq.withOutcome_startLot started], fun k => ?_⟩
      by_cases same : k = m
      · subst same
        rw [Four.get_set_self, if_pos ⟨by simp, level⟩]
      · rw [Four.get_set_ne _ _ same, outcomes]
        exact if_congr (by simp [same]) rfl rfl
  case noLot =>
    obtain ⟨lsq, timers, handed⟩ := noLot lot
    have engine : q.lsq.engine = p.lsq.engine := by rw [← lsq]
    have aLot : a.lsq.engine.inLot = false := by rw [alsq, engine, lot]
    rw [Part.toldOf_of_noLot aLot] at tlsq
    rw [Part.starvationOn_hold_of_noLot aLot, ite_self] at tlct
    rw [Part.toldBodies_of_noLot aLot, List.append_nil] at thanded
    have joined := Part.handed_trans handed (Part.handed_of_left (q := a) (by simp [ha]) thanded)
      (by simp [Part.indexCount, tdt, adt])
    refine ⟨?_, ?_, by rwa [List.append_assoc]⟩
    · rw [← lsq, tlsq]
      split
      · rw [Lsq.withOutcome_others, alsq]
      · rw [alsq]
    · rw [tlct, alct, timers]

end Sys2Proof.Machine
end

section
/-! START LOT (R132 to R134): its tests, and the setups begun. -/

namespace Sys2Proof.Machine

/-! ## The setups begun (R45, R134) -/

theorem Channel.enteredSetup_role (c : Channel) (asker : SetupAsker) (n : Option Nominal) (flt : Bool) :
    (c.enteredSetup asker n flt).role = c.role := by
  unfold Channel.enteredSetup
  dsimp only
  (repeat' split) <;> rfl

section
variable {p : Part} {n : Nominal} {flt : Four Bool}

theorem Part.underLot_usedMeter {q : Part} {ms : List Meter} {f : Faulting} (h : Part.underLot p q n flt ms f) (m : Meter) :
    q.usedMeter m = p.usedMeter m := by
  have channel := h.1 m
  rw [Part.usedMeter, Part.usedMeter, channel]
  split
  · rw [Channel.enteredSetup_role]
  · rfl

/-- The used meters of a list enter SETUP, in its order. -/
theorem Part.underLot_fold (ms : List Meter) :
    ∀ {q : Part} {past : List Meter} {f : Faulting}, Part.underLot p q n flt past f → ms.Nodup → (∀ m ∈ ms, m ∉ past) →
      Part.underLot p (ms.foldl (Part.setupUnderLot n flt) q) n flt (past ++ ms.filter p.usedMeter)
        ((ms.filter p.usedMeter).foldl (fun f m => f.entered m p.dt.offset (p.channel m) (flt.get m)) f) := by
  induction ms with
  | nil =>
    intro q past f h _ _
    simpa using h
  | cons m rest ih =>
    intro q past f h distinct new
    obtain ⟨other, distinct⟩ := List.nodup_cons.mp distinct
    obtain ⟨first, later⟩ := List.forall_mem_cons.mp new
    have used := Part.underLot_usedMeter h m
    rw [List.foldl_cons]
    cases isUsed : p.usedMeter m with
    | false =>
      have stays : q.setupUnderLot n flt m = q := by
        rw [Part.setupUnderLot, used, isUsed, if_neg Bool.false_ne_true]
      rw [stays, List.filter_cons_of_neg (by simp [isUsed])]
      exact ih h distinct later
    | true =>
      have enters : q.setupUnderLot n flt m =
          (q.setChannel m { q.channel m with nominal := some n }).enterSetup m .startLot (flt.get m) := by
        rw [Part.setupUnderLot, used, isUsed, if_pos rfl]
      have step := ih (Part.underLot_step h first) distinct fun x hx mem => by
        rcases List.mem_append.mp mem with h | h
        · exact later x hx h
        · obtain rfl := List.mem_singleton.mp h
          exact other hx
      rw [List.append_assoc] at step
      rwa [enters, List.filter_cons_of_pos isUsed]

end

/-- What the faulting of a START LOT's setups leaves. -/
def Part.setupFaulting (p : Part) (flt : Four Bool) : Faulting :=
  (allMeters.filter p.usedMeter).foldl (fun f m => f.entered m p.dt.offset (p.channel m) (flt.get m)) p.faulting

/-- The used meters enter SETUP, from MC0 to MC3. -/
theorem Part.underLot_setups (p : Part) (n : Nominal) (flt : Four Bool) :
    Part.underLot p (allMeters.foldl (Part.setupUnderLot n flt) p) n flt (allMeters.filter p.usedMeter)
      (p.setupFaulting flt) := by
  have all := Part.underLot_fold allMeters (p.underLot_refl n flt) (by decide) (fun _ _ => List.not_mem_nil)
  rw [List.nil_append] at all
  exact all

/-- The setups have begun from a part that shares with `p` what they work on. -/
theorem Part.setupsBegun_commit {p e : Part} (w : StartLotWork) (resumed : Option (Nat × LotCounters)) (flt : Four Bool)
    (same : { e with rqx := p.rqx } = p) :
    let q := e.beginSetups w resumed flt
    Part.setupsBegun p (Part.commit p q) w.nominal flt ∧
      Part.keepsBut [.dial, .loading, .meters, .references, .lots, .requests, .journal, .timers] p (Part.commit p q) ∧
      q.rqx = e.rqx ∧
      (p.lsq.engine.inLot = false → { q.lsq with startLot := p.lsq.startLot } = p.lsq) ∧
      ∃ o : Four (Option ChannelCause),
        (∀ m, o.get m = if p.usedMeter m && flt.get m then some .flt else none) ∧
          q.lsq.startLot = some { w with phase := .setups resumed o } := by
  intro q
  obtain ⟨edt, elcu, emc, ersc, eps, egbt, elsq, -, ejw, esa, eattn, ecfg, elct, echanged, edraws⟩ := Part.mk.inj same
  obtain ⟨a, ha⟩ : ∃ a, a = e.setStartLot (some { w with phase := .setups resumed (Four.const none) }) := ⟨_, rfl⟩
  have form : q = allMeters.foldl (Part.setupUnderLot w.nominal flt) a := by rw [ha]; rfl
  have spec := a.underLot_setups w.nominal flt
  rw [← form] at spec
  have adt : a.dt = p.dt := by rw [ha]; exact edt
  have alcu : a.lcu = p.lcu := by rw [ha]; exact elcu
  have arsc : a.rsc = p.rsc := by rw [ha]; exact ersc
  have amc : a.mc = p.mc := by rw [ha]; exact emc
  have alct : a.lct = p.lct := by rw [ha]; exact elct
  have ajw : a.jw = p.jw := by rw [ha]; exact ejw
  have arqx : a.rqx = e.rqx := by rw [ha]; rfl
  have aside : a.ps = p.ps ∧ a.gbt = p.gbt ∧ a.cfg = p.cfg ∧ a.draws = p.draws ∧ a.sa = p.sa ∧ a.attn = p.attn := by
    rw [ha]
    exact ⟨eps, egbt, ecfg, edraws, esa, eattn⟩
  have alsq : a.lsq = { p.lsq with startLot := some { w with phase := .setups resumed (Four.const none) } } := by
    rw [ha, ← show e.lsq = p.lsq from elsq]
    rfl
  have achannel : a.channel = p.channel := by
    funext m
    rw [ha]
    exact congrArg (fun x : Mc => x.channels.get m) emc
  have used : a.usedMeter = p.usedMeter := by
    funext m
    rw [Part.usedMeter, Part.usedMeter, achannel]
  have faulting : a.setupFaulting flt = p.setupFaulting flt := by
    have start : a.faulting = p.faulting := by rw [Part.faulting, Part.faulting, adt, alcu, arsc]
    rw [Part.setupFaulting, Part.setupFaulting, used, achannel, adt, start]
  have mem : ∀ m, m ∈ allMeters.filter a.usedMeter ↔ p.usedMeter m = true := by
    intro m
    rw [List.mem_filter, used]
    exact and_iff_right (mem_allMeters m)
  obtain ⟨channels, timeout, dt, lcu, rsc, takes, ⟨lines, chain, attn, rqx, sa, ps, gbt, cfg, draws⟩, work, noLot⟩ := spec
  obtain ⟨o, begun, outcomes⟩ := work w resumed (Four.const none) (by rw [alsq])
  rw [adt, faulting] at dt
  rw [alcu, faulting] at lcu
  rw [faulting] at rsc
  rw [alct] at takes lines chain
  have completes : Item.completeTakes (allMeters.filter a.usedMeter) = fun i =>
      match i.kind with
      | .take m => if p.usedMeter m then Item.complete (.take m) i else i
      | _ => i := by
    funext i
    unfold Item.completeTakes
    cases i.kind with
    | take m => exact if_congr (mem m) rfl rfl
    | _ => rfl
  have keepsLot : p.lsq.engine.inLot = false → { q.lsq with startLot := p.lsq.startLot } = p.lsq := by
    intro lot
    obtain ⟨lsq, -, -⟩ := noLot (by rw [alsq]; exact lot)
    rw [alsq] at lsq
    exact congrArg (fun l : Lsq => { l with startLot := p.lsq.startLot }) lsq
  refine ⟨⟨fun m => ?channels, by simp [timeout, amc], ?faulted, fun m => ?takes, fun lot => ?noLot⟩,
    Part.keepsBut_commit fun r hr => ?keeps, rqx.trans arqx, fun lot => ?lsq, o, fun m => ?outcomes, begun⟩
  case channels =>
    rw [(Part.commit_reads p q).2.2.2.1, channels, achannel]
    exact if_congr (mem m) rfl rfl
  case faulted =>
    have faulted := Part.faultedTo_commit dt lcu rsc
    rw [completes] at faulted
    exact faulted
  case takes =>
    rw [(Part.commit_timers p q).2.2.2.2.1, takes]
    exact if_congr (mem m) rfl rfl
  case noLot =>
    obtain ⟨lsq, timers, handed⟩ := noLot (by rw [alsq]; exact lot)
    rw [alct] at timers
    rw [faulting] at handed
    refine ⟨?_, ?_, Part.handed_commit p (Part.handed_of_left ajw handed)⟩
    · rw [(Part.commit_blocks p q).2.2.2.2.2.1]
      exact keepsLot lot
    · rw [Part.commit_timers_eq, timers]
  case keeps =>
    cases r <;> simp [Region.same, Sa.follows_refl, ps, gbt, cfg, draws, sa, attn, lines, chain, aside] at hr ⊢
  case lsq => exact keepsLot lot
  case outcomes =>
    rw [outcomes, Four.get_const]
    refine if_congr ?_ rfl rfl
    rw [mem, Bool.and_eq_true]

/-! ## The tests (R132) -/

theorem exec_startLot {flt : Four Bool} {s : State} (h : s.part.executes 1) :
    exec (.startLot flt) s = .next { s with part := Part.commit s.part (s.part.startLot flt) } :=
  State.onRequest_of_executes (fun p => p.startLot flt) h

theorem Nominal.ok_eq_false_iff (n : Nominal) : n.ok = false ↔ n.mantissa = 0 ∨ 7 < n.exponent ∨ 15 < n.current := by
  simp only [Nominal.ok, decide_eq_false_iff_not]
  omega

theorem contextAddressOk_eq_false_iff (a : Nat) :
    contextAddressOk (contextOfArg a) = false ↔ a ≠ 0xFFFFFFFF ∧ (a % 8 ≠ 0 ∨ 0x1FFFD0 < a) := by
  unfold contextOfArg
  by_cases none : a = 0xFFFFFFFF
  · rw [if_pos none]
    simp [contextAddressOk, none]
  · rw [if_neg none]
    simp only [contextAddressOk, decide_eq_false_iff_not]
    omega

section
variable {p : Part} {flt : Four Bool}

/-- An argument that START LOT refuses. -/
def Part.startLotBad (p : Part) : Prop :=
  p.arg 4 4 = 0 ∨ p.arg 8 4 = 0 ∨ 7 < p.arg 17 1 ∨ 15 < p.arg 18 1 ∨
    (∀ x, slotOfCode (p.arg 16 1) = some x → (p.ps.slot x).state ≠ .staged) ∨
    (p.arg 12 4 ≠ 0xFFFFFFFF ∧ (p.arg 12 4 % 8 ≠ 0 ∨ 0x1FFFD0 < p.arg 12 4))

theorem Part.startLot_of_engine (h : p.lsq.engine ≠ .idle) : p.startLot flt = p.endRequest { code := .refusedState } := by
  have tests : p.startLotTests = .error { code := .refusedState } := if_pos h
  rw [Part.startLot, tests]

theorem Part.startLot_of_completion (h : p.lsq.engine = .idle) (k : p.lsq.completion ≠ none) :
    p.startLot flt = p.endRequest { code := .busy } := by
  have tests : p.startLotTests = .error { code := .busy } := by
    rw [Part.startLotTests, if_neg (not_not.mpr h), if_pos (Option.isSome_iff_ne_none.mpr k)]
  rw [Part.startLot, tests]

/-- The tests of the arguments, once the engine is in IDLE and no close is completing. -/
theorem Part.startLotTests_of_idle (h : p.lsq.engine = .idle) (k : p.lsq.completion = none) :
    p.startLotTests =
      if p.arg 4 4 = 0 then .error { code := .refusedArgument }
      else if p.nominalArg.ok = false then .error { code := .refusedArgument }
      else
        match slotOfCode (p.arg 16 1) with
        | none => .error { code := .refusedArgument }
        | some s =>
          if (p.ps.slot s).state ≠ .staged then .error { code := .refusedArgument }
          else if contextAddressOk (contextOfArg (p.arg 12 4)) = false then .error { code := .refusedArgument }
          else .ok s := by
  rw [Part.startLotTests, if_neg (not_not.mpr h), if_neg (by simp [k])] <;> rfl

theorem Part.startLot_of_bad (h : p.lsq.engine = .idle) (k : p.lsq.completion = none) (bad : p.startLotBad) :
    p.startLot flt = p.endRequest { code := .refusedArgument } := by
  have nominal := p.nominalArg.ok_eq_false_iff
  have context := contextAddressOk_eq_false_iff (p.arg 12 4)
  have tests : p.startLotTests = .error { code := .refusedArgument } := by
    rw [Part.startLotTests_of_idle h k]
    by_cases lot : p.arg 4 4 = 0
    · rw [if_pos lot]
    · rw [if_neg lot]
      by_cases wrong : p.nominalArg.ok = false
      · rw [if_pos wrong]
      · rw [if_neg wrong]
        obtain ⟨mantissa, rest⟩ := not_or.mp (nominal.not.mp wrong)
        obtain ⟨exponent, current⟩ := not_or.mp rest
        have left := (((bad.resolve_left lot).resolve_left mantissa).resolve_left exponent).resolve_left current
        cases slot : slotOfCode (p.arg 16 1) with
        | none => rfl
        | some s =>
          dsimp only
          rcases left with unstaged | address
          · rw [if_pos (unstaged s slot)]
          · split
            · rfl
            · rw [if_pos (context.mpr address)]
  rw [Part.startLot, tests]

theorem Part.startLot_of_good (h : p.lsq.engine = .idle) (k : p.lsq.completion = none) (good : ¬ p.startLotBad)
    {x : SlotId} (slot : slotOfCode (p.arg 16 1) = some x) :
    let w : StartLotWork :=
      { lot := p.arg 4 4, nominal := p.nominalArg, slot := x, context := contextOfArg (p.arg 12 4), phase := .context [] }
    p.startLot flt =
      match contextOfArg (p.arg 12 4) with
      | none => p.beginWork.beginSetups w none flt
      | some a => (p.beginWork.setStartLot (some w)).fileBulk (readRequests a 48 .context) := by
  intro w
  have nominal := p.nominalArg.ok_eq_false_iff
  have context := contextAddressOk_eq_false_iff (p.arg 12 4)
  obtain ⟨lot, rest⟩ := not_or.mp good
  obtain ⟨mantissa, rest⟩ := not_or.mp rest
  obtain ⟨exponent, rest⟩ := not_or.mp rest
  obtain ⟨current, rest⟩ := not_or.mp rest
  obtain ⟨staged, address⟩ := not_or.mp rest
  have isStaged : ¬ (p.ps.slot x).state ≠ .staged := by
    intro unstaged
    refine staged fun y same => ?_
    rw [slot] at same
    rwa [← Option.some.inj same]
  have tests : p.startLotTests = .ok x := by
    rw [Part.startLotTests_of_idle h k, if_neg lot, if_neg (nominal.not.mpr (by
      rintro (h | h | h)
      · exact mantissa h
      · exact exponent h
      · exact current h)), slot]
    dsimp only
    rw [if_neg isStaged, if_neg (context.not.mpr address)]
  rw [Part.startLot, tests] <;> rfl

end

theorem Part.beginWork_aside (p : Part) : { p.beginWork with rqx := p.rqx } = p := by
  unfold Part.beginWork
  split <;> rfl

/-- Settles O36. -/
theorem startLotIsTestedThenBegins : Obligations.StartLotIsTestedThenBegins := by
  intro flt s executes a n bad
  refine ⟨_, exec_startLot executes, ⟨rfl, rfl, rfl⟩, fun engine => ?_, fun idle completing => ?_,
    fun idle free wrong => ?_, fun idle free good x slot => ?_⟩
  · rw [Part.startLot_of_engine engine]
    exact s.part.endedAlone_commit _
  · rw [Part.startLot_of_completion idle completing]
    exact s.part.endedAlone_commit _
  · rw [Part.startLot_of_bad idle free wrong]
    exact s.part.endedAlone_commit _
  · have started := Part.startLot_of_good (flt := flt) idle free good slot
    have noLot : s.part.lsq.engine.inLot = false := by rw [idle]; rfl
    have rqx := s.part.beginWork_rqx
    by_cases address : s.part.arg 12 4 = 0xFFFFFFFF
    · have context : contextOfArg (s.part.arg 12 4) = none := if_pos address
      rw [context] at started
      obtain ⟨w, hw⟩ : ∃ w : StartLotWork, w =
          { lot := a 4 4, nominal := n, slot := x, context := none, phase := .context [] } := ⟨_, rfl⟩
      have form : s.part.startLot flt = s.part.beginWork.beginSetups w none flt := by rw [hw]; exact started
      obtain ⟨begun, keeps, requests, lots, o, outcomes, work⟩ :=
        Part.setupsBegun_commit w none flt s.part.beginWork_aside
      rw [← form] at begun keeps requests lots work
      refine ⟨by simp [requests, rqx], by simpa using lots noLot, fun _ => ?_, fun other => absurd address other⟩
      rw [hw] at begun work
      exact ⟨begun, keeps, o, outcomes, by simpa using work⟩
    · have context : contextOfArg (s.part.arg 12 4) = some (s.part.arg 12 4) := if_neg address
      rw [context] at started
      obtain ⟨w, hw⟩ : ∃ w : StartLotWork, w =
          { lot := a 4 4, nominal := n, slot := x, context := some (a 12 4), phase := .context [] } := ⟨_, rfl⟩
      have form : s.part.startLot flt =
          (s.part.beginWork.setStartLot (some w)).fileBulk (readRequests (a 12 4) 48 .context) := by
        rw [hw]
        exact started
      rw [form]
      refine ⟨by simp [Part.setStartLot, rqx], by simp [Part.setStartLot], fun same => absurd same address, fun _ =>
        ⟨Part.keepsBut_commit fun r hr => ?_, by simp [Part.setStartLot, hw], ?_⟩⟩
      · cases r <;> simp [Region.same, Part.setStartLot] at hr ⊢
      · have filed : ({ s.part.sa with bulk := s.part.sa.bulk ++ readRequests (a 12 4) 48 .context } : Sa) =
            ((s.part.beginWork.setStartLot (some w)).fileBulk (readRequests (a 12 4) 48 .context)).sa := by
          simp [Part.setStartLot]
        rw [filed]
        exact Part.commit_follows s.part _

end Sys2Proof.Machine
end

section
/-! The lot context read (R133), and the lot opened when its setups have passed (R134, R135). -/

namespace Sys2Proof.Machine

theorem exec_contextReadDone {flt : Four Bool} {s : State} {w : StartLotWork} {d : List Byte}
    (work : s.part.lsq.startLot = some w) (phase : w.phase = .context d) (whole : d.length = 48) :
    exec (.contextReadDone flt) s = .next { s with part := Part.commit s.part (s.part.contextRead w d flt) } := by
  have complete : s.part.contextComplete = some (w, d) := by
    simp only [Part.contextComplete, work, phase, if_pos whole]
  have answer : exec (.contextReadDone flt) s = execContextReadDone flt s := rfl
  rw [answer, execContextReadDone, complete] <;> rfl

theorem exec_startLotSetupsDone {s : State} {w : StartLotWork} {resumed : Option (Nat × LotCounters)}
    {o : Four (Option ChannelCause)} (work : s.part.lsq.startLot = some w) (phase : w.phase = .setups resumed o)
    (ended : ∀ m, s.part.usedMeter m = true → o.get m ≠ none) :
    exec .startLotSetupsDone s = .next { s with part := Part.commit s.part (s.part.combineSetups w resumed o) } := by
  have all : s.part.setupsEnded o = true := by
    refine List.all_eq_true.mpr fun m _ => ?_
    cases used : s.part.usedMeter m with
    | false => rfl
    | true =>
      have given := Option.isSome_iff_ne_none.mpr (ended m used)
      simp [given]
  have complete : s.part.setupsComplete = some (w, resumed, o) := by
    simp only [Part.setupsComplete, work, phase, if_pos all]
  have answer : exec .startLotSetupsDone s = execStartLotSetupsDone s := rfl
  rw [answer, execStartLotSetupsDone, complete] <;> rfl

/-- A START LOT that ends without a lot. -/
theorem Part.startLotFailed_commit (p : Part) (r : Result) :
    let t := Part.commit p ((p.setStartLot none).endRequest r)
    Part.ended p t r ∧ Part.keepsBut [.lots, .requests, .queues] p t ∧ t.lsq = { p.lsq with startLot := none } := by
  intro t
  obtain ⟨rqx, sa⟩ := (p.setStartLot none).endRequest_requests r
  refine ⟨Part.ended_commit p rqx sa, Part.keepsBut_commit fun r hr => ?_, by simp [t, Part.setStartLot]⟩
  cases r <;> simp [Region.same, Part.setStartLot] at hr ⊢

theorem Part.setupsPassed_iff (p : Part) (o : Four (Option ChannelCause)) :
    p.setupsPassed o = true ↔
      ∀ m, ((p.channel m).role = .primary ∨ (p.channel m).role = .second) → o.get m = some .online := by
  simp only [Part.setupsPassed, List.all_eq_true, Bool.or_eq_true, Bool.not_eq_true', beq_iff_eq, Bool.or_eq_false_iff,
    beq_eq_false_iff_ne]
  constructor
  · intro h m role
    rcases h m (mem_allMeters m) with ⟨primary, second⟩ | passed
    · exact absurd role (not_or.mpr ⟨primary, second⟩)
    · exact passed
  · intro h m _
    by_cases role : (p.channel m).role = .primary ∨ (p.channel m).role = .second
    · exact Or.inr (h m role)
    · exact Or.inl (not_or.mp role)

/-! ## The lot opens (R135) -/

/-- The Lot Sequencer's work as the lot opens, before the hold causes present join. -/
def Part.lotOpening (p : Part) (w : StartLotWork) (resumed : Option (Nat × LotCounters)) : Part :=
  { p with
    lsq := { p.lsq with lot := some { number := w.lot, context := w.context }, lotMode := .run, startLot := none }
    lcu :=
      { p.lcu with
        nextSequence := (resumed.map Prod.fst).getD 1
        thinning := 7
        feed := .idle
        clearJet := p.lcu.clearJet.orphan
        counters := (resumed.map Prod.snd).getD LotCounters.zero }
    ps := { p.ps with loadSlot := some w.slot } }

/-- The hold causes present join. -/
def Part.causesJoined (p : Part) : Part := ((p.joinIfPresent .door).joinIfPresent .air).joinIfPresent .meter

theorem Part.openLot_eq (p : Part) (w : StartLotWork) (resumed : Option (Nat × LotCounters)) :
    p.openLot w resumed =
      let q := (p.lotOpening w resumed).causesJoined.enterOpenLot
      (Part.asOneChange p q).handOff
        (.lotOpen w.lot ((resumed.map Prod.fst).getD 1) (q.ps.idOf (some w.slot)) w.slot resumed.isSome) := by
  cases resumed <;> rfl

theorem Part.causesJoined_lsq (p : Part) :
    p.causesJoined.lsq =
      { p.lsq with
        holds :=
          { requested := p.lsq.holds.requested
            door := p.lsq.holds.door || p.lct.lines.door.stable
            air := p.lsq.holds.air || p.lct.lines.air.stable
            meter := p.lsq.holds.meter || p.meterCondition } } := by
  have air : (p.joinIfPresent .door).holdCondition .air = p.lct.lines.air.stable := by simp [Part.holdCondition]
  have meter : ((p.joinIfPresent .door).joinIfPresent .air).holdCondition .meter = p.meterCondition :=
    Part.meterCondition_of_mc (by simp)
  rw [Part.causesJoined, Part.joinIfPresent_lots, Part.joinIfPresent_lots, Part.joinIfPresent_lots, air, meter]
  have door : p.holdCondition .door = p.lct.lines.door.stable := rfl
  rw [door]
  cases p.lct.lines.door.stable <;> cases p.lct.lines.air.stable <;> cases p.meterCondition <;>
    simp [HoldCauses.insert]

/-- The engine enters RUN, or HOLD where a cause is in the set. -/
theorem Part.enterOpenLot_spec (p : Part) :
    let e : EngineState := if p.lsq.holds = HoldCauses.none then .run else .hold
    p.enterOpenLot.lsq = { p.lsq with engine := e, portLatch := p.lsq.latchOn e } ∧
      p.enterOpenLot.lct.timers = { p.lct.timers with starvation := p.starvationOn e } := by
  intro e
  unfold Part.enterOpenLot
  by_cases empty : p.lsq.holds = HoldCauses.none
  · rw [if_pos ((HoldCauses.isEmpty_iff _).mpr empty), show e = .run from if_pos empty]
    exact ⟨p.enterEngine_lsq .run, p.enterEngine_timers .run⟩
  · rw [if_neg ((HoldCauses.isEmpty_iff _).not.mpr empty), show e = .hold from if_neg empty]
    exact ⟨by simp [Part.enterHold, Part.enterEngine_lsq], p.enterHold_timers⟩

/-- The hold set of a lot that opens: the causes of before and those whose condition is present. -/
def Part.holdsOpened (p : Part) : HoldCauses :=
  { requested := p.lsq.holds.requested
    door := p.lsq.holds.door || p.lct.lines.door.stable
    air := p.lsq.holds.air || p.lct.lines.air.stable
    meter := p.lsq.holds.meter || p.meterCondition }

/-- The lot opens. -/
theorem Part.openLot_spec (p : Part) (w : StartLotWork) (resumed : Option (Nat × LotCounters)) :
    let q := p.openLot w resumed
    let e : EngineState := if p.holdsOpened = HoldCauses.none then .run else .hold
    q.lsq =
        { p.lsq with
          lot := some { number := w.lot, context := w.context }
          lotMode := .run
          startLot := none
          holds := p.holdsOpened
          engine := e
          portLatch := p.lsq.latchOn e } ∧
      q.lct = { p.lct with timers := { p.lct.timers with starvation := p.starvationOn e } } ∧
      q.ps = { p.ps with loadSlot := some w.slot } ∧ q.lcu = (p.lotOpening w resumed).lcu ∧
      q.records
        (.lotOpen w.lot ((resumed.map Prod.fst).getD 1) (q.ps.idOf (some w.slot)) w.slot resumed.isSome) := by
  intro q e
  obtain ⟨o, ho⟩ : ∃ o, o = p.lotOpening w resumed := ⟨_, rfl⟩
  obtain ⟨j, hj⟩ : ∃ j, j = o.causesJoined := ⟨_, rfl⟩
  have olct : o.lct = p.lct := by rw [ho]; rfl
  have condition : o.meterCondition = p.meterCondition := by rw [ho]; rfl
  have jlsq := o.causesJoined_lsq
  rw [← hj, olct, condition] at jlsq
  have joined : j.lct = p.lct ∧ j.lcu = o.lcu ∧ j.ps = o.ps := by simp [hj, Part.causesJoined, olct]
  obtain ⟨jlct, jlcu, jps⟩ := joined
  obtain ⟨elsq, etimers⟩ := j.enterOpenLot_spec
  have holds : j.lsq.holds = p.holdsOpened := by
    rw [jlsq, ho]
    rfl
  have starvation : j.starvationOn e = p.starvationOn e := by
    have engine : j.lsq.engine = p.lsq.engine := by
      rw [jlsq, ho]
      rfl
    have intervals : j.lcu.intervals = p.lcu.intervals := by
      rw [jlcu, ho]
      rfl
    simp only [Part.starvationOn, engine, intervals, jlct]
  rw [holds] at elsq etimers
  obtain ⟨z, hz⟩ : ∃ z, z = Part.asOneChange p j.enterOpenLot := ⟨_, rfl⟩
  have ps : z.ps = { p.ps with loadSlot := some w.slot } := by
    rw [hz, Part.asOneChange_ps, (Part.enterOpenLot_keeps j).2.2.2.2.1, jps, ho]
    rfl
  have form : q = z.handOff
      (.lotOpen w.lot ((resumed.map Prod.fst).getD 1) (z.ps.idOf (some w.slot)) w.slot resumed.isSome) := by
    rw [hz, hj, ho]
    exact p.openLot_eq w resumed
  have qps : q.ps = z.ps := by simp [form]
  refine ⟨?_, ?_, qps.trans ps, ?_, ?_⟩
  · have qlsq : q.lsq = j.enterOpenLot.lsq := by simp [form, hz]
    rw [qlsq, elsq, jlsq, ho]
    rfl
  · have qlct : q.lct = j.enterOpenLot.lct := by simp [form, hz]
    obtain ⟨-, lines, chain, -⟩ := j.enterOpenLot_fields
    rw [qlct, Lct.eq_of_lines lines chain, etimers, jlct]
    exact congrArg (fun x => { p.lct with timers := { p.lct.timers with starvation := x } }) starvation
  · have qlcu : q.lcu = o.lcu := by simp [form, hz, jlcu]
    rw [qlcu, ho]
  · rw [qps, form]
    exact z.records_handOff _

/-- Settles O37. -/
theorem theLotOpensWhenItsSetupsPass : Obligations.TheLotOpensWhenItsSetupsPass := by
  refine ⟨fun flt s w d work phase whole => ?context, fun s w resumed o work phase given => ?setups⟩
  case context =>
    refine ⟨_, exec_contextReadDone work phase whole, ⟨rfl, rfl, rfl⟩, fun other => ?_, fun same => ?_⟩
    · have form : s.part.contextRead w d flt =
          (s.part.setStartLot none).endRequest { code := .contextInvalid, word := fieldAt d 0 4 } := if_neg other
      rw [form]
      exact s.part.startLotFailed_commit _
    · have form : s.part.contextRead w d flt =
          s.part.beginSetups w (some (fieldAt d 4 4, Context.counters d)) flt := if_pos same
      obtain ⟨begun, keeps, requests, -, o, outcomes, started⟩ :=
        Part.setupsBegun_commit (p := s.part) (e := s.part) w (some (fieldAt d 4 4, Context.counters d)) flt rfl
      rw [form]
      refine ⟨begun, fun r hr => ?_, o, outcomes, by simpa using started⟩
      by_cases own : r = .requests
      · subst own
        simp [Region.same, requests]
      · exact keeps r (by simp_all)
  case setups =>
    intro passed
    have isPassed : s.part.setupsPassed o = true ↔ passed := s.part.setupsPassed_iff o
    refine ⟨_, exec_startLotSetupsDone work phase given, ⟨rfl, rfl, rfl⟩, fun fails => ?_, fun passes => ?_⟩
    · have form : s.part.combineSetups w resumed o =
          (s.part.setStartLot none).endRequest { code := .meterFailed, word := setupWord o } :=
        if_neg (isPassed.not.mpr fails)
      rw [form]
      exact s.part.startLotFailed_commit _
    · have form : s.part.combineSetups w resumed o =
          (s.part.openLot w resumed).endRequest { code := .ok, word := setupWord o } := if_pos (isPassed.mpr passes)
      rw [form]
      obtain ⟨lsq, lct, ps, lcu, record⟩ := s.part.openLot_spec w resumed
      obtain ⟨v, hv⟩ : ∃ v, v = s.part.openLot w resumed := ⟨_, rfl⟩
      rw [← hv] at lsq lct ps lcu record ⊢
      have keeps := s.part.openLot_keeps w resumed
      rw [← hv] at keeps
      obtain ⟨dt, mc, rsc, gbt, rqx, sa, attn, cfg, draws⟩ := keeps
      obtain ⟨erqx, esa⟩ := v.endRequest_requests { code := .ok, word := setupWord o }
      rw [rqx] at erqx esa
      rw [sa] at esa
      obtain ⟨t, ht⟩ : ∃ t, t = Part.commit s.part (v.endRequest { code := .ok, word := setupWord o }) := ⟨_, rfl⟩
      have tlsq : t.lsq = v.lsq := by simp [ht]
      have tps : t.ps = v.ps := by simp [ht]
      have tlcu : t.lcu = v.lcu := by simp [ht]
      rw [← ht]
      refine ⟨?ended, ?keeps, by rw [tlsq, lsq], by rw [tlsq, lsq], by rw [tlsq, lsq], tps.trans ps, tlcu.trans lcu,
        by rw [tlsq, lsq]; rfl, ?entered, ?record⟩
      case ended =>
        rw [ht]
        exact Part.ended_commit s.part erqx esa
      case keeps =>
        rw [ht]
        refine Part.keepsBut_commit fun r hr => ?_
        cases r <;> simp [Region.same, dt, mc, rsc, gbt, attn, cfg, draws, lct] at hr ⊢
      case entered =>
        have starvation : t.lct.timers.starvation = v.lct.timers.starvation := by simp [ht]
        rw [tlsq, lsq]
        exact ⟨by rw [tlsq, lsq], by rw [tlsq, lsq], by rw [starvation, lct]⟩
      case record =>
        have first : t.lcu.nextSequence = (resumed.map Prod.fst).getD 1 := by rw [tlcu, lcu]; rfl
        rw [first, tps]
        intro held
        have same : t.jw = v.jw := by simp [ht]
        rw [same] at held ⊢
        exact record held

end Sys2Proof.Machine
end
